-- ==== Sys2Proof/Word.lean ====
section
/-! DEFINITION. Word.lean: the byte of the lane link and the text made of bytes. -/

namespace Sys2Proof

/-- One byte of the lane link (R181). -/
abbrev Byte := BitVec 8

/-- A text, digit string or approval code: one byte per character (R193). -/
abbrev Text := List Byte

end Sys2Proof
end

