-- ==== Sys2Proof/Config.lean ====
section
/-! DEFINITION. Config.lean: the values the spec leaves open, as constants with no body, so that no
proof can know one. -/

namespace Sys2Proof

/-- FREE VALUE (log entry 8). The font's pattern of a printed row of a character's cell: bit k is set when the
dot k places from the left of the cell's 14 is black (R168: the dot patterns "are not given in this manual").
Not asked of a space, which "has no black dot". -/
opaque Config.fontRow : (character : Byte) → (row : Nat) → BitVec 14

/-- FREE VALUE (log entry 9). The part revision that IDENTIFY reports, "fixed in the part" (R77). -/
opaque Config.partRevision : Byte

/-- FREE VALUE (log entry 10). The byte for "the state it left" in the SCALE_STATE event of the restart
made at power-on (R25), where there was no state before. -/
opaque Config.stateLeftAtPowerOn : Byte

end Sys2Proof
end

