-- ==== Sys2Proof/Syntax.lean ====
section
/-! DEFINITION. Syntax.lean: the commands of the part, one constructor of Instr for each row of
spec/opcode_table.json, and the types of their operands.

A request's operands are the tag of its frame and the fields of its rule as they stand in the frame
(R193): numbers as Nat or Int, names, ON or OFF and other one-byte choices as raw bytes, so that a byte
beyond the last value can be written and is answered BAD_VALUE (R184). -/

namespace Sys2Proof

/-- The read heads (R78). -/
inductive Head where
  | front
  | stand
deriving DecidableEq, Repr

/-- The two tracks of a card (R85). -/
inductive Track where
  | a
  | b
deriving DecidableEq, Repr

/-- The drawer positions (R129). -/
inductive Drawer where
  | a
  | b
deriving DecidableEq, Repr

/-- The key switch positions (R144). -/
inductive KeyPosition where
  | locked
  | register
  | manager
deriving DecidableEq, Repr

/-- The tray present sensor's level (R129). -/
inductive TrayLevel where
  | present
  | removed
deriving DecidableEq, Repr

/-- The closed sensor's level (R129). -/
inductive ClosedLevel where
  | shut
  | opened
deriving DecidableEq, Repr

/-- The paper sensor's level (R166). -/
inductive PaperLevel where
  | paper
  | out
deriving DecidableEq, Repr

/-- The near-end sensor's level (R166). -/
inductive NearEndLevel where
  | normal
  | nearEnd
deriving DecidableEq, Repr

/-- The cover sensor's level (R166). -/
inductive CoverLevel where
  | closed
  | opened
deriving DecidableEq, Repr

/-- The head supply monitor's level (R166). -/
inductive SupplyLevel where
  | good
  | low
deriving DecidableEq, Repr

/-- A printer input and the level taken on it (R166, R173). -/
inductive PrinterInput where
  | paper (level : PaperLevel)
  | nearEnd (level : NearEndLevel)
  | cover (level : CoverLevel)
  | supply (level : SupplyLevel)
  | cutterHome (home : Bool)
deriving DecidableEq, Repr

/-- The calibration switch (R68). -/
inductive SwitchLevel where
  | opened
  | closed
deriving DecidableEq, Repr

/-- The current fault that cuts a pulse (R138). -/
inductive CurrentFault where
  | short
  | openCoil
deriving DecidableEq, Repr

/-- The condition of a record that is not VALID (R65). -/
inductive Unreadable where
  | erased
  | corrupt
deriving DecidableEq, Repr

/-- How a write of the metrology store ends; FAIL leaves the record CORRUPT or ERASED (R65). -/
inductive WriteEnd where
  | ok
  | fail (left : Unreadable)
deriving DecidableEq, Repr

/-- What a supply loss or a reset input leaves of a record whose write it stops (R65): VALID with the
fields before the write or with those being written, or one of the other two conditions. -/
inductive TornRecord where
  | old
  | new
  | unreadable (left : Unreadable)
deriving DecidableEq, Repr

/-- The levels the part reads from its inputs at power-on and at the reset input (R144, R148, R166,
R167, R192), and the calibration switch's position. -/
structure ResetInputs where
  /-- The key switch contact made, if any (R144). -/
  key : Option KeyPosition
  trayA : TrayLevel
  closedA : ClosedLevel
  trayB : TrayLevel
  closedB : ClosedLevel
  paper : PaperLevel
  nearEnd : NearEndLevel
  cover : CoverLevel
  supply : SupplyLevel
  cutterHome : Bool
  /-- The first head temperature reading, in °C (R167). -/
  temperature : Int
  /-- The eight identity straps (R192). -/
  straps : Byte
  switch : SwitchLevel
deriving DecidableEq, Repr

/-- The entry that RANGE_WRITE carries (R98), its fields in the order of R95. A field R95 gives as absent
in some entries is optional in the request (log entry 17). -/
structure RangeFields where
  valid : Byte
  digits : Option Text
  cls : Option Byte
  lengthMin : Option Nat
  lengthMax : Option Nat
  cashbackAllowed : Byte
  cashbackLimit : Int
  ownMask : Option (List Nat)
deriving DecidableEq, Repr

/-- The commands: one constructor for each row of spec/opcode_table.json, in the table's order. A
constructor whose first operand is tag is a request: its whole, good frame reaches the lane link. -/
inductive Instr where
  | powerOn (inputs : ResetInputs) (torn : TornRecord)
  | resetInput (inputs : ResetInputs) (torn : TornRecord)
  | laneReset
  | beginSale (tag : Byte)
  | txnNumberWriteEnd (result : WriteEnd)
  | item (tag : Byte) (description : Text) (quantity : Nat) (unitAmount : Int)
  | voidItem (tag : Byte) (index : Nat)
  | total (tag : Byte)
  | backToItems (tag : Byte)
  | cancelSale (tag : Byte)
  | suspend (tag : Byte)
  | resume (tag : Byte)
  | dropSuspended (tag : Byte)
  | saleStatus (tag : Byte)
  | saleItems (tag : Byte) (first : Nat) (count : Nat)
  | zero (tag : Byte)
  | tare (tag : Byte)
  | tarePreset (tag : Byte) (grams : Nat)
  | tareClear (tag : Byte)
  | scaleSetup (tag : Byte) (autoClear : Byte) (tenths : Nat)
  | weightRead (tag : Byte)
  | scaleFeed (tag : Byte) (setting : Byte)
  | adcSample (count : Int)
  | joltHoldExpiry
  | weigh (tag : Byte) (description : Text) (unitPrice : Int)
  | weighCancel (tag : Byte)
  | captureTimeout
  | calEnter (tag : Byte)
  | calExit (tag : Byte)
  | calZero (tag : Byte)
  | calSpan (tag : Byte) (mass : Int)
  | calSet (tag : Byte) (filterLength : Nat) (windowLength : Nat) (tracking : Byte)
  | calCommit (tag : Byte)
  | calCounterWriteEnd (result : WriteEnd)
  | calRecordWriteEnd (result : WriteEnd)
  | calSwitchOpening
  | calSwitchClosing
  | identify (tag : Byte)
  | readerEnable (tag : Byte) (head : Byte) (setting : Byte)
  | swipeEnd
  | cardExpired (handle : Nat)
  | rangeWrite (tag : Byte) (index : Nat) (entry : RangeFields)
  | rangeMask (tag : Byte) (positions : List Nat)
  | rangeRead (tag : Byte) (index : Nat)
  | cardSetup (tag : Byte) (tens : Nat)
  | cardFetch (tag : Byte) (handle : Nat)
  | cardList (tag : Byte)
  | cardDiscard (tag : Byte) (handle : Nat)
  | tenderCash (tag : Byte) (amount : Int)
  | tenderCard (tag : Byte) (handle : Nat) (amount : Int) (cashback : Int) (approval : Text)
  | declineCard (tag : Byte) (handle : Nat)
  | settleSetup (tag : Byte) (autoOpen : Byte)
  | saleTenders (tag : Byte) (txn : Nat)
  | drawerOpen (tag : Byte) (drawer : Byte)
  | noSale (tag : Byte) (drawer : Byte)
  | drawerClearFault (tag : Byte) (drawer : Byte)
  | drawerSetup (tag : Byte) (pulseMs : Nat) (alarmSeconds : Nat) (interlock : Byte)
  | drawerSelect (tag : Byte) (drawer : Byte)
  | assistClear (tag : Byte)
  | light (tag : Byte) (mode : Byte)
  | drawerStatus (tag : Byte)
  | kickPulseEnd
  | solenoidCurrentFault (fault : CurrentFault)
  | confirmWindowExpiry (drawer : Drawer)
  | alarmTimerExpiry (drawer : Drawer)
  | trayRemoved (drawer : Drawer)
  | trayInserted (drawer : Drawer)
  | closedSensorOpens (drawer : Drawer)
  | closedSensorCloses (drawer : Drawer)
  | keyPositionChange (position : KeyPosition)
  | assistButtonPress
  | reprint (tag : Byte)
  | slip (tag : Byte) (lines : List Text)
  | headerSet (tag : Byte) (lines : List Text) (exponent : Nat)
  | headerRead (tag : Byte)
  | dotRowEnd
  | cutEnd
  | headTempReading (reading : Int)
  | printerSensorChange (input : PrinterInput)
  | printResume (tag : Byte)
  | printRestart
  | printAbort (tag : Byte)
  | feed (tag : Byte) (rows : Nat)
  | printStatus (tag : Byte)
  | status (tag : Byte)
  | flagsClear (tag : Byte) (set : BitVec 16)
  | clockSet (tag : Byte) (year month day hour minute second : Nat)
  | clockTick
  | linkRate (tag : Byte) (rate : Byte)
  | linkRateChange
  | resetLane (tag : Byte)
  | eventMask (tag : Byte) (set : BitVec 32)
  | unknownRequest (code : Byte) (tag : Byte) (payload : Text)
  | frameBadCrc (code : Byte) (tag : Byte)
  | frameLengthAbandon
  | gapLimitExpiry
  | stopBitError
  | byteWhileHeld
  | heldFrameTaken
  | frameSent
  | fluxTransition (head : Head) (track : Track) (time : Nat)
  | byteReceived (byte : Byte)
deriving DecidableEq, Repr

end Sys2Proof
end

