-- ==== Sys2Proof/Machine/State.lean ====
section
/-! DEFINITION. Machine/State.lean: what the part holds, block by block (00, Block overview), as plain
data; the reasons a step can stop; and the part right after power-on. -/

namespace Sys2Proof.Machine

/-- No command stops the machine with a fault: every condition the spec calls a fault is a state of the
part (R25, R138, R170) or a reply. Nothing raises it, which is safe: nothing is shut out. -/
inductive Fault where
deriving DecidableEq, Repr

/-- Why a command could have no meaning. -/
inductive Refusal where
  /-- The command has no meaning in the model yet. No arm of exec raises it; were one to, that would be
  safe, since a step that stops proves nothing false. -/
  | notModelled (mnemonic : String)
deriving DecidableEq, Repr

/-! ## Names of the spec -/

/-- Reply statuses (R185). -/
inductive Status where
  | ok
  | accepted
  | busy
  | wrongState
  | badValue
  | full
  | refused
  | unknownRequest
deriving DecidableEq, Repr

/-- Reason codes (R185), in the order of their values 01h to 37h. -/
inductive Reason where
  | noSaleOpen | saleOpen | keyPosition | calMode | noSlot | drawerNotClosed | storeFail
  | capturePending | amountLimit | totalLimit | changeLimit | poolFull | saleFull | notVoidable
  | alreadyVoided | empty | printBacklog | tendersPresent
  | cardFetched | cardTendered | stackFull | stackEmpty | scaleNotReady | removeItem | noCapture
  | motion | tareActive | outOfZeroRange | tareRange | switchOpen | notCal | noLoad | spanRange
  | counterFull | noCard | notReady
  | tenderFull | overBalance | cashbackNotAllowed | cashbackLimit | cashbackPartial | noSuchSale
  | noGrant | absent | fault | nothingToCopy | noJob | legalJob | paperOut | coverOpen | supplyLow
  | headSensor | headHot | cutterJam
  | busy
deriving DecidableEq, Repr

/-- A context's place in the lane (R1). -/
inductive Role where
  | free
  | current
  | suspended
  | printHeld
  | lastPrinted
deriving DecidableEq, Repr

/-- The progress of a sale (R7). -/
inductive SaleState where
  | opened
  | tender
  | settled
  | cancelled
deriving DecidableEq, Repr

/-- What settled a sale (R126). -/
inductive SettledBy where
  | total
  | tenderCash
  | tenderCard
deriving DecidableEq, Repr

/-- The weighing unit's state (R25). -/
inductive UnitState where
  | starting
  | zeroFault
  | ready
  | adcFault
  | recordInvalid
deriving DecidableEq, Repr

/-- How a capture ends (R47, R62). -/
inductive CaptureOutcome where
  | captured
  | cancelled
  | motionTimeout
  | priceLimit
  | totalLimit
  | adcFault
deriving DecidableEq, Repr

/-- Why the most recent judged sample was not captured (R47, R51). -/
inductive Obstacle where
  | noSample
  | hold
  | overload
  | underload
  | motion
  | underMinimum
  | overMaximum
deriving DecidableEq, Repr

/-- CAL mode (R68). -/
inductive CalState where
  | out
  | entered
  | writing
  | leaving
deriving DecidableEq, Repr

/-- Why CAL was entered or left (R68). -/
inductive CalCause where
  | request
  | switch
deriving DecidableEq, Repr

/-- The result of a track at the swipe end (R84); FORMAT marks an OK track that is not usable (R89 to R91). -/
inductive TrackResult where
  | absent
  | cellError
  | noStart
  | parity
  | noEnd
  | lrc
  | ok
  | format
deriving DecidableEq, Repr

/-- Classes of the range table (R95). -/
inductive CardClass where
  | debit
  | credit
  | gift
  | loyalty
  | blocked
deriving DecidableEq, Repr

/-- A card-queue entry's state (R104). -/
inductive CardState where
  | held
  | ready
  | fetched
deriving DecidableEq, Repr

/-- A drawer's state (R129). -/
inductive DrawerState where
  | absent
  | closed
  | pending
  | kicking
  | confirming
  | opened
  | openLong
  | fault
deriving DecidableEq, Repr

/-- What a kick is made against (R129). -/
inductive KickBasis where
  | grant
  | noSale
deriving DecidableEq, Repr

/-- Who asked for a kick (R129). -/
inductive Requester where
  | terminal
  | settlement
deriving DecidableEq, Repr

/-- A drawer's fault reason (R129). -/
inductive DrawerFault where
  | solenoidShort
  | solenoidOpen
deriving DecidableEq, Repr

/-- The current a pulse was driven with (R129). -/
inductive DriveCurrent where
  | normal
  | short
  | none
  | cut
deriving DecidableEq, Repr

/-- How a kick ends (R137). -/
inductive KickOutcome where
  | opened
  | jammed
  | fault
  | removed
  | withdrawn
deriving DecidableEq, Repr

/-- The lane light's modes (R146). -/
inductive LightMode where
  | off
  | on
  | blink
  | fast
deriving DecidableEq, Repr

/-- Kinds of print job (R164). -/
inductive JobKind where
  | receipt
  | voidSlip
  | copy
  | slip
deriving DecidableEq, Repr

/-- Why a job is paused (R170, R173). -/
inductive PauseReason where
  | paperOut
  | coverOpen
  | supplyLow
  | headSensor
  | headHot
  | cutterJam
deriving DecidableEq, Repr

/-- The print engine's state (R165). -/
inductive EngineState where
  | idle
  | feeding
  | running
  | paused
deriving DecidableEq, Repr

/-- Where the head job stands (R178). -/
inductive PrintPhase where
  | line
  | tail
  | cut
deriving DecidableEq, Repr

/-- Link rates (R190). -/
inductive LinkRate where
  | baud19200
  | baud57600
  | baud115200
  | baud230400
deriving DecidableEq, Repr

/-! ## Frames, messages and the lane link -/

/-- A date and time; the year is the year less 2000 (R189, R193). -/
structure DateTime where
  year : Nat
  month : Nat
  day : Nat
  hour : Nat
  minute : Nat
  second : Nat
deriving DecidableEq, Repr

/-- One field of a reply or an event, by its kind of R193. An optional field is absent, or present and
then the field; a list is its count and then its items. -/
inductive Field where
  | status (s : Status)
  | reason (r : Reason)
  | money (x : Int)
  | u8 (n : Nat)
  | u16 (n : Nat)
  | u32 (n : Nat)
  | i8 (x : Int)
  | i16 (x : Int)
  | i32 (x : Int)
  | name (n : Nat)
  | flag (b : Bool)
  | text (t : Text)
  | absent
  | present
  | count (n : Nat)
  | stamp (t : DateTime)
  | mask (m : BitVec 8)
  | flagSet (m : BitVec 16)
  | enableSet (m : BitVec 32)
deriving DecidableEq, Repr

/-- A frame as received: code, tag and payload bytes (R181). -/
structure Frame where
  code : Byte
  tag : Byte
  payload : Text
deriving DecidableEq, Repr

/-- A reply or event frame to be sent, its payload by fields (R181, R193). -/
structure Message where
  code : Byte
  tag : Byte
  fields : List Field
deriving DecidableEq, Repr

/-- What a block answers to a request: the status, the reason of a refusal, and the fields its rule names
(R185). -/
structure Answer where
  status : Status
  reason : Option Reason
  fields : List Field
deriving DecidableEq, Repr

/-- The request in progress: the code and tag its reply carries (R182, R185). -/
structure Ticket where
  code : Byte
  tag : Byte
deriving DecidableEq, Repr

/-- A reply waiting to be sent, with its count of events ahead (R186). -/
structure WaitingReply where
  message : Message
  ahead : Nat
deriving DecidableEq, Repr

/-- The frame on the transmit line (R186). -/
inductive Sending where
  | reply (m : Message)
  | event (m : Message)
deriving DecidableEq, Repr

/-- The receiver and its frame buffer (R182). collect holds the bytes from offset 0; held holds the
complete frame and whether the HELD period's first byte has been reported (R183). -/
inductive Receiver where
  | hunt
  | collect (buffer : List Byte)
  | held (frame : Frame) (overrun : Bool)
deriving DecidableEq, Repr

/-- The lane link's state (R195). -/
structure Link where
  receiver : Receiver
  inProgress : Option Ticket
  reply : Option WaitingReply
  sending : Option Sending
  /-- The event queue, oldest first (R187). -/
  events : List Message
  /-- The event enable set: bit n for the event code 80h + n (R187). -/
  enabled : BitVec 32
  /-- The latched flag set by the bits of R188. -/
  flags : BitVec 16
  rate : LinkRate
  /-- The rate that LINK_RATE's reply, once sent, brings (R190). -/
  newRate : Option LinkRate
  /-- The time-of-day clock; none is UNSET (R189). -/
  clock : Option DateTime
  /-- The elapsed µs at which the clock's next second begins (R189). -/
  nextSecond : Nat
  /-- The lane identity (R192). -/
  identity : Byte
deriving DecidableEq, Repr

/-! ## The sale engine -/

/-- The fields of an item record that belong to its kind (R5). -/
inductive ItemDetail where
  | keyed (quantity : Nat) (unitAmount : Int)
  | weighed (net : Int) (tare : Nat) (division : Nat) (unitPrice : Int)
  | void (item : Nat)
deriving DecidableEq, Repr

/-- An item record (R5). -/
structure ItemRecord where
  description : Text
  amount : Int
  time : Option DateTime
  voided : Bool
  detail : ItemDetail
deriving DecidableEq, Repr

/-- The fields of a CARD tender (R112). -/
structure CardTender where
  handle : Nat
  head : Head
  cls : CardClass
  lastDigits : Text
  approval : Text
  cashback : Int
deriving DecidableEq, Repr

/-- A tender; card is none for CASH (R112). -/
structure Tender where
  amount : Int
  time : Option DateTime
  card : Option CardTender
deriving DecidableEq, Repr

/-- A sale context (R1). A FREE context has no transaction number and no sale state (R3). -/
structure Context where
  role : Role
  txn : Option Nat
  saleState : Option SaleState
  items : List ItemRecord
  tenders : List Tender
  subtotal : Int
  tenderSum : Int
  changeDue : Int
  loyalty : Option Text
  drawer : Drawer
  beginTime : Option DateTime
  closeTime : Option DateTime
  restarted : Bool
  pin : Nat
deriving DecidableEq, Repr

/-- A job for the print engine, as the settlement backlog holds it (R123). -/
structure BacklogJob where
  kind : JobKind
  context : Fin 6
deriving DecidableEq, Repr

/-- The sale engine's state (R1, R9, R17, R122, R123). -/
structure Sale where
  contexts : Vector Context 6
  /-- The suspend stack, bottom first (R17). -/
  stack : List (Fin 6)
  counter : Nat
  restartPending : Bool
  backlog : Option BacklogJob
  autoOpen : Bool
deriving DecidableEq, Repr

/-! ## The weighing unit -/

/-- Calibration values (R27). -/
structure CalValues where
  z0 : Int
  gain : Nat
  filterLength : Nat
  windowLength : Nat
  tracking : Bool
deriving DecidableEq, Repr

/-- A pending capture request (R47). The reserved record is the one the pool counts out for it. -/
structure Capture where
  context : Fin 6
  txn : Nat
  description : Text
  unitPrice : Int
  tenths : Nat
  /-- The elapsed µs at which the capture timer expires. -/
  expiry : Nat
  obstacle : Obstacle
deriving DecidableEq, Repr

/-- What the chain computed at the most recent sample (R28 stages 2 and 3). Weights are in internal
units; division is e. -/
structure Chain where
  count : Int
  gross : Int
  net : Int
  division : Nat
  netRounded : Int
  grossRounded : Int
  /-- The tare the net was computed with (R44). -/
  tare : Nat
deriving DecidableEq, Repr

/-- The conditions (R34 to R36). -/
structure Conditions where
  stable : Bool
  overload : Bool
  underload : Bool
  hold : Bool
deriving DecidableEq, Repr

/-- A report of the live feed (R45). Weights and division are in grams. -/
structure FeedReport where
  unit : UnitState
  shown : Option Int
  tareGrams : Nat
  division : Option Nat
  conditions : Conditions
deriving DecidableEq, Repr

/-- The weighing unit's state (R46). -/
structure Scale where
  unit : UnitState
  /-- The calibration values taken at the last restart (R26). -/
  atRestart : CalValues
  z : Int
  zpu : Int
  tare : Nat
  /-- The filter history, newest last (R30). -/
  history : List Int
  /-- The motion window, newest last (R34). -/
  window : List Int
  rail : Nat
  /-- none in ADC_FAULT and before the first sample after a restart (R44). -/
  chain : Option Chain
  conditions : Conditions
  /-- The jolt hold timer: none when not running, else its expiry in elapsed µs (R36). -/
  joltExpiry : Option Nat
  autoClear : Bool
  timeoutTenths : Nat
  feed : Bool
  lastReport : Option FeedReport
  lastSend : Option Nat
  capture : Option Capture
  latch : Bool
  /-- The elapsed µs at which the next sample is due, 80 a second (R28). -/
  nextSample : Nat
deriving DecidableEq, Repr

/-! ## The metrology store -/

/-- A nonvolatile record in one of its three conditions (R65). How its check value is computed, and its width,
the spec does not say: the condition it leads to is held, and no check value (log entry 36). -/
inductive Stored (α : Type) where
  | valid (fields : α)
  | erased
  | corrupt
deriving DecidableEq, Repr

/-- The calibration record's fields (R65). -/
structure CalRecord where
  values : CalValues
  commitTime : Option DateTime
deriving DecidableEq, Repr

/-- The one write in flight (R65). -/
inductive StoreWrite where
  | txnNumber (n : Nat)
  | calCounter (n : Nat)
  | calRecord (r : CalRecord)
deriving DecidableEq, Repr

/-- The metrology store's state (R65 to R76). -/
structure Store where
  calRecord : Stored CalRecord
  counterRecord : Stored Nat
  txnRecord : Stored Nat
  mirror : Nat
  counterValid : Bool
  calState : CalState
  switch : SwitchLevel
  working : Option CalValues
  /-- The cause of the first CAL_EXIT or opening taken in WRITING (R76). -/
  leaveCause : Option CalCause
  /-- The commit time of the commit in flight (R75). -/
  commitTime : Option DateTime
  write : Option StoreWrite
deriving DecidableEq, Repr

/-! ## The swipe decoder -/

/-- A track's decoding (R82, R83). -/
inductive TrackPhase where
  /-- SYNC: the last transition, and the candidate group of intervals, oldest first. -/
  | sync (last : Option Nat) (group : List Nat)
  /-- CELLS: the reference, the start of the open cell, whether it had a mid-cell transition, the four
  newest cell lengths oldest first, and the bits stored. -/
  | cells (reference : Nat) (start : Nat) (mid : Bool) (history : List Nat) (bits : List Bool)
  /-- Ended CELL_ERROR. -/
  | failed
deriving DecidableEq, Repr

/-- A track of the owning head: whether a transition was taken on it, and its phase. -/
structure TrackAssembly where
  seen : Bool
  phase : TrackPhase
deriving DecidableEq, Repr

/-- The swipe decoder's state (R93). -/
structure Swipe where
  front : Bool
  stand : Bool
  /-- The decode channel: none is IDLE (R79). -/
  channel : Option Head
  trackA : TrackAssembly
  trackB : TrackAssembly
  /-- The swipe end timer: none when stopped, else its expiry in elapsed µs (R81). -/
  endExpiry : Option Nat
deriving DecidableEq, Repr

/-! ## The card classifier -/

/-- A range table entry (R95); digits is the spec's prefix. -/
structure RangeEntry where
  valid : Bool
  digits : Option Text
  cls : Option CardClass
  lengthMin : Option Nat
  lengthMax : Option Nat
  cashbackAllowed : Bool
  cashbackLimit : Int
  ownMask : BitVec 8
deriving DecidableEq, Repr

/-- The full data of a card: the account number and the track images (R103). -/
structure FullData where
  account : Text
  imageA : Option Text
  imageB : Option Text
deriving DecidableEq, Repr

/-- A card-queue entry (R103). -/
structure CardEntry where
  handle : Nat
  head : Head
  swipeTime : Option DateTime
  cls : CardClass
  rangeIndex : Fin 24
  masked : Text
  accountLength : Nat
  /-- The account source, TRACK_B or TRACK_A. -/
  source : Track
  expiry : Option Text
  service : Option Text
  holder : Option Text
  reversed : Bool
  full : Option FullData
  state : CardState
  /-- The hold timer's expiry in elapsed µs; none in FETCHED (R106). -/
  expiresAt : Option Nat
deriving DecidableEq, Repr

/-- The card classifier's state (R111). -/
structure Cards where
  table : Vector RangeEntry 24
  sharedMask : BitVec 8
  holdTens : Nat
  queue : List CardEntry
  handleCounter : Nat
  tenderMark : Bool
deriving DecidableEq, Repr

/-! ## The till controller -/

/-- A kick in flight (R129). -/
structure Kick where
  basis : KickBasis
  requester : Requester
  pulseMs : Nat
  openMark : Bool
deriving DecidableEq, Repr

/-- The drive report of a pulse (R129). -/
structure DriveReport where
  pulseMs : Nat
  drivenMs : Nat
  current : DriveCurrent
deriving DecidableEq, Repr

/-- A drawer record (R129), with its alarm timer (R141) and confirm window (R136). The changed flags are
in the latched flag set. -/
structure DrawerRecord where
  state : DrawerState
  tray : TrayLevel
  closed : ClosedLevel
  grant : Bool
  kick : Option Kick
  faultReason : Option DrawerFault
  drive : Option DriveReport
  openSince : Option Nat
  alarmAt : Option Nat
  confirmUntil : Option Nat
deriving DecidableEq, Repr

/-- The driver DRIVING a drawer since a moment (R133). -/
structure Driving where
  drawer : Drawer
  since : Nat
deriving DecidableEq, Repr

/-- The till controller's state (R148). -/
structure Till where
  drawerA : DrawerRecord
  drawerB : DrawerRecord
  driver : Option Driving
  waiting : Option Drawer
  pulseMs : Nat
  /-- The alarm time in seconds; 0 is OFF (R142, R193). -/
  alarmSeconds : Nat
  interlock : Bool
  active : Drawer
  key : KeyPosition
  assist : Bool
  presses : Nat
  commanded : LightMode
  shown : LightMode
  /-- The elapsed µs at which the shown mode began with a lit period (R146). -/
  shownSince : Nat
deriving DecidableEq, Repr

/-! ## The receipt composer -/

/-- A section of R153, R157, R158 or R161 and the place within it (R149). -/
inductive Place where
  | header (line : Nat)
  | sale
  | restart
  | item (number : Nat) (line : Nat)
  | subtotal
  | tender (number : Nat) (line : Nat)
  | cashback
  | change
  | loyalty
  | footer
  | noPayment
  | copy
  | slip (line : Nat)
deriving DecidableEq, Repr

/-- The composer's position in a job (R149). place is that of the last line handed over. -/
structure Position where
  kind : JobKind
  context : Option (Fin 6)
  header : List Text
  exponent : Nat
  place : Place
  lines : Nat
deriving DecidableEq, Repr

/-- The receipt composer's state (R149). -/
structure Composer where
  header : List Text
  exponent : Nat
  position : Option Position
deriving DecidableEq, Repr

/-! ## The print engine -/

/-- A job's state; PAUSED holds the pause reason (R164). A job that is DONE has left the queue. -/
inductive JobState where
  | queued
  | printing
  | paused (reason : PauseReason)
  | done
deriving DecidableEq, Repr

/-- A print job (R164). -/
structure Job where
  kind : JobKind
  context : Option (Fin 6)
  txn : Option Nat
  state : JobState
deriving DecidableEq, Repr

/-- The figures of the dot row in flight (R168), its strobe groups in the order they are fired, each by the places
of its dots from the left of the row (R169), and the elapsed µs at which the row ends. Times are in µs. -/
structure RowFigures where
  black : Nat
  limit : Nat
  groups : Nat
  fires : List (List Nat)
  strobe : Nat
  period : Nat
  ends : Nat
deriving DecidableEq, Repr

/-- A FEED in progress (R177). -/
structure Feed where
  asked : Nat
  fed : Nat
deriving DecidableEq, Repr

/-- The print engine's state (R179). -/
structure Printer where
  queue : List Job
  slip : Option (List Text)
  engine : EngineState
  /-- The row or cut in flight is that of a slip removed while PRINTING (R176). -/
  draining : Bool
  /-- PRINT_RESUME was accepted and the restart has not come yet (R172). -/
  restartDue : Bool
  line : Option Text
  lineNumber : Nat
  phase : PrintPhase
  row : Nat
  tailRows : Nat
  figures : Option RowFigures
  cutUntil : Option Nat
  feed : Option Feed
  /-- The strobe group limit of the last row begun (R178). -/
  limit : Nat
  temperature : Int
  sensorValid : Bool
  lastReading : Int
  nextReading : Nat
  paper : PaperLevel
  nearEnd : NearEndLevel
  cover : CoverLevel
  supply : SupplyLevel
  cutterHome : Bool
deriving DecidableEq, Repr

/-! ## The part -/

/-- Everything the part holds: its nine blocks and the elapsed time its timers measure, in µs (R189). -/
@[ext]
structure Lane where
  now : Nat
  link : Link
  sale : Sale
  scale : Scale
  store : Store
  swipe : Swipe
  cards : Cards
  till : Till
  composer : Composer
  printer : Printer
deriving DecidableEq, Repr

/-- The part, and the queue of commands that wait, first in first out. -/
@[ext]
structure State extends Lane where
  pending : List Instr
deriving DecidableEq, Repr

/-! ## The part right after power-on (log entries 5 and 6) -/

/-- A FREE context (R3). -/
def Context.freed : Context where
  role := .free
  txn := none
  saleState := none
  items := []
  tenders := []
  subtotal := 0
  tenderSum := 0
  changeDue := 0
  loyalty := none
  drawer := .a
  beginTime := none
  closeTime := none
  restarted := false
  pin := 0

/-- The default calibration values (R27). -/
def CalValues.defaults : CalValues where
  z0 := 0
  gain := 65536
  filterLength := 8
  windowLength := 8
  tracking := true

/-- No condition set. -/
def Conditions.clear : Conditions where
  stable := false
  overload := false
  underload := false
  hold := false

/-- A range table entry after power-on (R95). -/
def RangeEntry.cleared : RangeEntry where
  valid := false
  digits := none
  cls := none
  lengthMin := none
  lengthMax := none
  cashbackAllowed := false
  cashbackLimit := 0
  ownMask := 0

/-- An empty track assembly, ready for a swipe (R79, R93). -/
def TrackAssembly.fresh : TrackAssembly where
  seen := false
  phase := .sync none []

/-- The lane link after power-on with COUNTER_LOST found (R195): the SCALE_STATE event of the weighing
unit's restart (R25) is on the idle transmit line (R186). Its fields are the new state RECORD_INVALID and
the state left, a free value at power-on (log entry 10). -/
def Link.reset : Link where
  receiver := .hunt
  inProgress := none
  reply := none
  sending := some (.event ⟨0x80#8, 0x00#8, [.name 4, .name Config.stateLeftAtPowerOn.toNat]⟩)
  events := []
  enabled := 0x7FFFFFFF#32
  flags := 0x0001#16
  rate := .baud115200
  newRate := none
  clock := none
  nextSecond := 1000000
  identity := 0x00#8

/-- The sale engine after power-on with the transaction number record ERASED (R9, R24, R66). -/
def Sale.reset : Sale where
  contexts := Vector.replicate 6 Context.freed
  stack := []
  counter := 0
  restartPending := true
  backlog := none
  autoOpen := false

/-- The weighing unit after power-on with the calibration record ERASED (R46, R66). -/
def Scale.reset : Scale where
  unit := .recordInvalid
  atRestart := CalValues.defaults
  z := 0
  zpu := 0
  tare := 0
  history := []
  window := []
  rail := 0
  chain := none
  conditions := Conditions.clear
  joltExpiry := none
  autoClear := false
  timeoutTenths := 30
  feed := false
  lastReport := none
  lastSend := none
  capture := none
  latch := false
  nextSample := 12500

/-- The metrology store as it leaves the factory, all three records ERASED (R65, R66). -/
def Store.reset : Store where
  calRecord := .erased
  counterRecord := .erased
  txnRecord := .erased
  mirror := 0
  counterValid := true
  calState := .out
  switch := .opened
  working := none
  leaveCause := none
  commitTime := none
  write := none

/-- The swipe decoder after power-on (R93). -/
def Swipe.reset : Swipe where
  front := false
  stand := false
  channel := none
  trackA := TrackAssembly.fresh
  trackB := TrackAssembly.fresh
  endExpiry := none

/-- The card classifier after power-on (R111). -/
def Cards.reset : Cards where
  table := Vector.replicate 24 RangeEntry.cleared
  sharedMask := 0
  holdTens := 6
  queue := []
  handleCounter := 0
  tenderMark := false

/-- A drawer in place and shut after power-on (R148). -/
def DrawerRecord.reset : DrawerRecord where
  state := .closed
  tray := .present
  closed := .shut
  grant := false
  kick := none
  faultReason := none
  drive := none
  openSince := none
  alarmAt := none
  confirmUntil := none

/-- The till controller after power-on (R142, R148). -/
def Till.reset : Till where
  drawerA := DrawerRecord.reset
  drawerB := DrawerRecord.reset
  driver := none
  waiting := none
  pulseMs := 100
  alarmSeconds := 30
  interlock := false
  active := .a
  key := .locked
  assist := false
  presses := 0
  commanded := .off
  shown := .off
  shownSince := 0

/-- The receipt composer after power-on (R149). -/
def Composer.reset : Composer where
  header := []
  exponent := 2
  position := none

/-- The print engine after power-on (R179). -/
def Printer.reset : Printer where
  queue := []
  slip := none
  engine := .idle
  draining := false
  restartDue := false
  line := none
  lineNumber := 0
  phase := .line
  row := 0
  tailRows := 0
  figures := none
  cutUntil := none
  feed := none
  limit := 64
  temperature := 25
  sensorValid := true
  lastReading := 25
  nextReading := 100000
  paper := .paper
  nearEnd := .normal
  cover := .closed
  supply := .good
  cutterHome := true

/-- The part right after power-on, with the factory's store and the input levels of log entry 5. -/
def Lane.reset : Lane where
  now := 0
  link := Link.reset
  sale := Sale.reset
  scale := Scale.reset
  store := Store.reset
  swipe := Swipe.reset
  cards := Cards.reset
  till := Till.reset
  composer := Composer.reset
  printer := Printer.reset

/-- The machine right after reset: no command waits. -/
def State.reset : State where
  toLane := Lane.reset
  pending := []

end Sys2Proof.Machine
end

