-- ==== Sys2Proof/Decode.lean ====
section
/-! DEFINITION. Decode.lean: the request frames of the lane link, both ways (R184, R193, R194), and
decodeTableWord.

parseRequest reads a complete frame's code and payload; requestFrame writes the frame of a request. Bytes
of names and of ON or OFF are handed on as they stand; the owner answers BAD_VALUE for one that names
nothing, at the place log entry 19 gives (R184 step 2, R193). -/

namespace Sys2Proof

open Machine (Frame)

/-! ## Fields as bytes (R193) -/

/-- Two bytes, most significant first. -/
def put16 (n : Nat) : Text :=
  [BitVec.ofNat 8 (n / 256), BitVec.ofNat 8 n]

/-- Four bytes of a bit vector, most significant first. -/
def put32 (w : BitVec 32) : Text :=
  [w.extractLsb' 24 8, w.extractLsb' 16 8, w.extractLsb' 8 8, w.extractLsb' 0 8]

/-- A number of one byte. -/
def put8 (n : Nat) : Text :=
  [BitVec.ofNat 8 n]

/-- A signed number of four bytes, two's complement. -/
def putI32 (x : Int) : Text :=
  put32 (BitVec.ofInt 32 x)

/-- A text: its length, then its characters. -/
def putText (t : Text) : Text :=
  put8 t.length ++ t

/-- An optional field: a presence byte, and the field when present. -/
def putOption {α : Type} (put : α → Text) : Option α → Text
  | none => [0#8]
  | some a => 1#8 :: put a

/-- A list: its count, then its items. -/
def putList {α : Type} (put : α → Text) (xs : List α) : Text :=
  put8 xs.length ++ xs.flatMap put

/-- A set of digit positions as a byte: bit p - 1 for position p. -/
def maskOf (positions : List Nat) : BitVec 8 :=
  positions.foldl (fun m p => m ||| (1#8 <<< (p - 1))) 0

/-- The positions of a set, in rising order. -/
def positionsOf (m : BitVec 8) : List Nat :=
  [1, 2, 3, 4, 5, 6, 7, 8].filter fun p => m.getLsbD (p - 1)

/-- Reads one byte. -/
def getByte : Text → Option (Byte × Text)
  | [] => none
  | b :: r => some (b, r)

/-- Reads a number of one byte. -/
def get8 (t : Text) : Option (Nat × Text) := do
  let (b, r) ← getByte t
  some (b.toNat, r)

/-- Reads a number of two bytes. -/
def get16 (t : Text) : Option (Nat × Text) := do
  let (h, r) ← getByte t
  let (l, r) ← getByte r
  some (h.toNat * 256 + l.toNat, r)

/-- Reads four bytes. -/
def get32 (t : Text) : Option (BitVec 32 × Text) := do
  let (a, r) ← getByte t
  let (b, r) ← getByte r
  let (c, r) ← getByte r
  let (d, r) ← getByte r
  some (a ++ b ++ c ++ d, r)

/-- Reads a signed number of four bytes. -/
def getI32 (t : Text) : Option (Int × Text) := do
  let (w, r) ← get32 t
  some (w.toInt, r)

/-- Reads the named number of bytes; none when the text runs out (R184). -/
def getBytes : Nat → Text → Option (Text × Text)
  | 0, t => some ([], t)
  | _ + 1, [] => none
  | n + 1, b :: t => do
    let (taken, r) ← getBytes n t
    some (b :: taken, r)

/-- Reads a text. -/
def getText (t : Text) : Option (Text × Text) := do
  let (n, r) ← get8 t
  getBytes n r

/-- Reads an optional field; a presence byte is 00h or 01h. -/
def getOption {α : Type} (get : Text → Option (α × Text)) (t : Text) : Option (Option α × Text) := do
  let (b, r) ← getByte t
  if b = 0#8 then some (none, r)
  else if b = 1#8 then do
    let (a, r) ← get r
    some (some a, r)
  else none

/-- Reads that many items one after another. -/
def getMany {α : Type} (get : Text → Option (α × Text)) : Nat → Text → Option (List α × Text)
  | 0, t => some ([], t)
  | n + 1, t => do
    let (a, r) ← get t
    let (as, r) ← getMany get n r
    some (a :: as, r)

/-- Reads a list. -/
def getList {α : Type} (get : Text → Option (α × Text)) (t : Text) : Option (List α × Text) := do
  let (n, r) ← get8 t
  getMany get n r

/-- Reads a set of digit positions. -/
def getPositions (t : Text) : Option (List Nat × Text) := do
  let (b, r) ← getByte t
  some (positionsOf b, r)

/-- RANGE_WRITE's entry as bytes, in the order of R95 (log entry 17). -/
def putEntry (e : RangeFields) : Text :=
  [e.valid] ++ putOption putText e.digits ++ putOption (fun b => [b]) e.cls ++ putOption put8 e.lengthMin ++
    putOption put8 e.lengthMax ++ [e.cashbackAllowed] ++ putI32 e.cashbackLimit ++
    putOption (fun m => [maskOf m]) e.ownMask

/-- Reads RANGE_WRITE's entry. -/
def getEntry (t : Text) : Option (RangeFields × Text) := do
  let (valid, r) ← getByte t
  let (digits, r) ← getOption getText r
  let (cls, r) ← getOption getByte r
  let (lengthMin, r) ← getOption get8 r
  let (lengthMax, r) ← getOption get8 r
  let (cashbackAllowed, r) ← getByte r
  let (cashbackLimit, r) ← getI32 r
  let (ownMask, r) ← getOption getPositions r
  some (⟨valid, digits, cls, lengthMin, lengthMax, cashbackAllowed, cashbackLimit, ownMask⟩, r)

/-! ## Requests and their frames (R194) -/

/-- The frame of a request; none for a command that is no request. -/
def requestFrame : Instr → Option Frame
  | .beginSale tag => some ⟨0x10#8, tag, []⟩
  | .item tag d q u => some ⟨0x11#8, tag, putText d ++ put16 q ++ putI32 u⟩
  | .voidItem tag n => some ⟨0x12#8, tag, put8 n⟩
  | .total tag => some ⟨0x13#8, tag, []⟩
  | .backToItems tag => some ⟨0x14#8, tag, []⟩
  | .cancelSale tag => some ⟨0x15#8, tag, []⟩
  | .suspend tag => some ⟨0x16#8, tag, []⟩
  | .resume tag => some ⟨0x17#8, tag, []⟩
  | .dropSuspended tag => some ⟨0x18#8, tag, []⟩
  | .saleStatus tag => some ⟨0x19#8, tag, []⟩
  | .saleItems tag first count => some ⟨0x1A#8, tag, put8 first ++ put8 count⟩
  | .zero tag => some ⟨0x20#8, tag, []⟩
  | .tare tag => some ⟨0x21#8, tag, []⟩
  | .tarePreset tag g => some ⟨0x22#8, tag, put16 g⟩
  | .tareClear tag => some ⟨0x23#8, tag, []⟩
  | .scaleSetup tag a n => some ⟨0x24#8, tag, [a] ++ put8 n⟩
  | .weightRead tag => some ⟨0x25#8, tag, []⟩
  | .scaleFeed tag b => some ⟨0x26#8, tag, [b]⟩
  | .weigh tag d p => some ⟨0x28#8, tag, putText d ++ putI32 p⟩
  | .weighCancel tag => some ⟨0x29#8, tag, []⟩
  | .calEnter tag => some ⟨0x30#8, tag, []⟩
  | .calExit tag => some ⟨0x31#8, tag, []⟩
  | .calZero tag => some ⟨0x32#8, tag, []⟩
  | .calSpan tag m => some ⟨0x33#8, tag, putI32 m⟩
  | .calSet tag n w b => some ⟨0x34#8, tag, put8 n ++ put8 w ++ [b]⟩
  | .calCommit tag => some ⟨0x35#8, tag, []⟩
  | .identify tag => some ⟨0x36#8, tag, []⟩
  | .readerEnable tag h b => some ⟨0x38#8, tag, [h, b]⟩
  | .rangeWrite tag n e => some ⟨0x40#8, tag, put8 n ++ putEntry e⟩
  | .rangeMask tag m => some ⟨0x41#8, tag, [maskOf m]⟩
  | .rangeRead tag n => some ⟨0x42#8, tag, put8 n⟩
  | .cardSetup tag n => some ⟨0x43#8, tag, put8 n⟩
  | .cardFetch tag h => some ⟨0x44#8, tag, put8 h⟩
  | .cardList tag => some ⟨0x45#8, tag, []⟩
  | .cardDiscard tag h => some ⟨0x46#8, tag, put8 h⟩
  | .tenderCash tag a => some ⟨0x48#8, tag, putI32 a⟩
  | .tenderCard tag h a c code => some ⟨0x49#8, tag, put8 h ++ putI32 a ++ putI32 c ++ putText code⟩
  | .declineCard tag h => some ⟨0x4A#8, tag, put8 h⟩
  | .settleSetup tag b => some ⟨0x4B#8, tag, [b]⟩
  | .saleTenders tag n => some ⟨0x4C#8, tag, put16 n⟩
  | .drawerOpen tag d => some ⟨0x50#8, tag, [d]⟩
  | .noSale tag d => some ⟨0x51#8, tag, [d]⟩
  | .drawerClearFault tag d => some ⟨0x52#8, tag, [d]⟩
  | .drawerSetup tag p a i => some ⟨0x53#8, tag, put16 p ++ put8 a ++ [i]⟩
  | .drawerSelect tag d => some ⟨0x54#8, tag, [d]⟩
  | .assistClear tag => some ⟨0x55#8, tag, []⟩
  | .light tag m => some ⟨0x56#8, tag, [m]⟩
  | .drawerStatus tag => some ⟨0x57#8, tag, []⟩
  | .reprint tag => some ⟨0x60#8, tag, []⟩
  | .slip tag lines => some ⟨0x61#8, tag, putList putText lines⟩
  | .headerSet tag lines x => some ⟨0x62#8, tag, putList putText lines ++ put8 x⟩
  | .headerRead tag => some ⟨0x63#8, tag, []⟩
  | .printResume tag => some ⟨0x68#8, tag, []⟩
  | .printAbort tag => some ⟨0x69#8, tag, []⟩
  | .feed tag n => some ⟨0x6A#8, tag, put8 n⟩
  | .printStatus tag => some ⟨0x6B#8, tag, []⟩
  | .status tag => some ⟨0x70#8, tag, []⟩
  | .flagsClear tag m => some ⟨0x71#8, tag, put16 m.toNat⟩
  | .clockSet tag y mo d h mi s => some ⟨0x72#8, tag, put8 y ++ put8 mo ++ put8 d ++ put8 h ++ put8 mi ++ put8 s⟩
  | .linkRate tag r => some ⟨0x73#8, tag, [r]⟩
  | .resetLane tag => some ⟨0x74#8, tag, []⟩
  | .eventMask tag m => some ⟨0x75#8, tag, put32 m⟩
  | .unknownRequest code tag payload => some ⟨code, tag, payload⟩
  | .powerOn _ _ => none
  | .resetInput _ _ => none
  | .laneReset => none
  | .txnNumberWriteEnd _ => none
  | .adcSample _ => none
  | .joltHoldExpiry => none
  | .captureTimeout => none
  | .calCounterWriteEnd _ => none
  | .calRecordWriteEnd _ => none
  | .calSwitchOpening => none
  | .calSwitchClosing => none
  | .swipeEnd => none
  | .cardExpired _ => none
  | .kickPulseEnd => none
  | .solenoidCurrentFault _ => none
  | .confirmWindowExpiry _ => none
  | .alarmTimerExpiry _ => none
  | .trayRemoved _ => none
  | .trayInserted _ => none
  | .closedSensorOpens _ => none
  | .closedSensorCloses _ => none
  | .keyPositionChange _ => none
  | .assistButtonPress => none
  | .dotRowEnd => none
  | .cutEnd => none
  | .headTempReading _ => none
  | .printerSensorChange _ => none
  | .printRestart => none
  | .clockTick => none
  | .linkRateChange => none
  | .frameBadCrc _ _ => none
  | .frameLengthAbandon => none
  | .gapLimitExpiry => none
  | .stopBitError => none
  | .byteWhileHeld => none
  | .heldFrameTaken => none
  | .frameSent => none
  | .fluxTransition _ _ _ => none
  | .byteReceived _ => none

/-- The codes of the request catalogue (R194). -/
def requestCodes : List Byte :=
  [0x10#8, 0x11#8, 0x12#8, 0x13#8, 0x14#8, 0x15#8, 0x16#8, 0x17#8, 0x18#8, 0x19#8, 0x1A#8] ++
  [0x20#8, 0x21#8, 0x22#8, 0x23#8, 0x24#8, 0x25#8, 0x26#8, 0x28#8, 0x29#8] ++
  [0x30#8, 0x31#8, 0x32#8, 0x33#8, 0x34#8, 0x35#8, 0x36#8, 0x38#8] ++
  [0x40#8, 0x41#8, 0x42#8, 0x43#8, 0x44#8, 0x45#8, 0x46#8, 0x48#8, 0x49#8, 0x4A#8, 0x4B#8, 0x4C#8] ++
  [0x50#8, 0x51#8, 0x52#8, 0x53#8, 0x54#8, 0x55#8, 0x56#8, 0x57#8] ++
  [0x60#8, 0x61#8, 0x62#8, 0x63#8, 0x68#8, 0x69#8, 0x6A#8, 0x6B#8] ++
  [0x70#8, 0x71#8, 0x72#8, 0x73#8, 0x74#8, 0x75#8]

/-- What the link makes of a complete frame (R184): a code outside the catalogue, a payload that cannot be
read as the request's fields, or a request. -/
inductive Parsed where
  | unknown
  | unreadable
  | request (i : Instr)
deriving DecidableEq, Repr

/-- A request whose fields have been read, with nothing left over. -/
def readWhole : Option (Instr × Text) → Parsed
  | some (i, []) => .request i
  | _ => .unreadable

/-- Reads a complete frame as a request (R184 steps 1 and 2). -/
def parseRequest (f : Frame) : Parsed :=
  let tag := f.tag
  let p := f.payload
  match f.code.toNat with
  | 0x10 => readWhole (some (.beginSale tag, p))
  | 0x11 => readWhole do
      let (d, r) ← getText p
      let (q, r) ← get16 r
      let (u, r) ← getI32 r
      some (.item tag d q u, r)
  | 0x12 => readWhole do
      let (n, r) ← get8 p
      some (.voidItem tag n, r)
  | 0x13 => readWhole (some (.total tag, p))
  | 0x14 => readWhole (some (.backToItems tag, p))
  | 0x15 => readWhole (some (.cancelSale tag, p))
  | 0x16 => readWhole (some (.suspend tag, p))
  | 0x17 => readWhole (some (.resume tag, p))
  | 0x18 => readWhole (some (.dropSuspended tag, p))
  | 0x19 => readWhole (some (.saleStatus tag, p))
  | 0x1A => readWhole do
      let (first, r) ← get8 p
      let (count, r) ← get8 r
      some (.saleItems tag first count, r)
  | 0x20 => readWhole (some (.zero tag, p))
  | 0x21 => readWhole (some (.tare tag, p))
  | 0x22 => readWhole do
      let (g, r) ← get16 p
      some (.tarePreset tag g, r)
  | 0x23 => readWhole (some (.tareClear tag, p))
  | 0x24 => readWhole do
      let (a, r) ← getByte p
      let (n, r) ← get8 r
      some (.scaleSetup tag a n, r)
  | 0x25 => readWhole (some (.weightRead tag, p))
  | 0x26 => readWhole do
      let (b, r) ← getByte p
      some (.scaleFeed tag b, r)
  | 0x28 => readWhole do
      let (d, r) ← getText p
      let (x, r) ← getI32 r
      some (.weigh tag d x, r)
  | 0x29 => readWhole (some (.weighCancel tag, p))
  | 0x30 => readWhole (some (.calEnter tag, p))
  | 0x31 => readWhole (some (.calExit tag, p))
  | 0x32 => readWhole (some (.calZero tag, p))
  | 0x33 => readWhole do
      let (m, r) ← getI32 p
      some (.calSpan tag m, r)
  | 0x34 => readWhole do
      let (n, r) ← get8 p
      let (w, r) ← get8 r
      let (b, r) ← getByte r
      some (.calSet tag n w b, r)
  | 0x35 => readWhole (some (.calCommit tag, p))
  | 0x36 => readWhole (some (.identify tag, p))
  | 0x38 => readWhole do
      let (h, r) ← getByte p
      let (b, r) ← getByte r
      some (.readerEnable tag h b, r)
  | 0x40 => readWhole do
      let (n, r) ← get8 p
      let (e, r) ← getEntry r
      some (.rangeWrite tag n e, r)
  | 0x41 => readWhole do
      let (m, r) ← getPositions p
      some (.rangeMask tag m, r)
  | 0x42 => readWhole do
      let (n, r) ← get8 p
      some (.rangeRead tag n, r)
  | 0x43 => readWhole do
      let (n, r) ← get8 p
      some (.cardSetup tag n, r)
  | 0x44 => readWhole do
      let (h, r) ← get8 p
      some (.cardFetch tag h, r)
  | 0x45 => readWhole (some (.cardList tag, p))
  | 0x46 => readWhole do
      let (h, r) ← get8 p
      some (.cardDiscard tag h, r)
  | 0x48 => readWhole do
      let (a, r) ← getI32 p
      some (.tenderCash tag a, r)
  | 0x49 => readWhole do
      let (h, r) ← get8 p
      let (a, r) ← getI32 r
      let (c, r) ← getI32 r
      let (code, r) ← getText r
      some (.tenderCard tag h a c code, r)
  | 0x4A => readWhole do
      let (h, r) ← get8 p
      some (.declineCard tag h, r)
  | 0x4B => readWhole do
      let (b, r) ← getByte p
      some (.settleSetup tag b, r)
  | 0x4C => readWhole do
      let (n, r) ← get16 p
      some (.saleTenders tag n, r)
  | 0x50 => readWhole do
      let (d, r) ← getByte p
      some (.drawerOpen tag d, r)
  | 0x51 => readWhole do
      let (d, r) ← getByte p
      some (.noSale tag d, r)
  | 0x52 => readWhole do
      let (d, r) ← getByte p
      some (.drawerClearFault tag d, r)
  | 0x53 => readWhole do
      let (ms, r) ← get16 p
      let (a, r) ← get8 r
      let (i, r) ← getByte r
      some (.drawerSetup tag ms a i, r)
  | 0x54 => readWhole do
      let (d, r) ← getByte p
      some (.drawerSelect tag d, r)
  | 0x55 => readWhole (some (.assistClear tag, p))
  | 0x56 => readWhole do
      let (m, r) ← getByte p
      some (.light tag m, r)
  | 0x57 => readWhole (some (.drawerStatus tag, p))
  | 0x60 => readWhole (some (.reprint tag, p))
  | 0x61 => readWhole do
      let (lines, r) ← getList getText p
      some (.slip tag lines, r)
  | 0x62 => readWhole do
      let (lines, r) ← getList getText p
      let (x, r) ← get8 r
      some (.headerSet tag lines x, r)
  | 0x63 => readWhole (some (.headerRead tag, p))
  | 0x68 => readWhole (some (.printResume tag, p))
  | 0x69 => readWhole (some (.printAbort tag, p))
  | 0x6A => readWhole do
      let (n, r) ← get8 p
      some (.feed tag n, r)
  | 0x6B => readWhole (some (.printStatus tag, p))
  | 0x70 => readWhole (some (.status tag, p))
  | 0x71 => readWhole do
      let (m, r) ← get16 p
      some (.flagsClear tag (BitVec.ofNat 16 m), r)
  | 0x72 => readWhole do
      let (y, r) ← get8 p
      let (mo, r) ← get8 r
      let (d, r) ← get8 r
      let (h, r) ← get8 r
      let (mi, r) ← get8 r
      let (s, r) ← get8 r
      some (.clockSet tag y mo d h mi s, r)
  | 0x73 => readWhole do
      let (b, r) ← getByte p
      some (.linkRate tag b, r)
  | 0x74 => readWhole (some (.resetLane tag, p))
  | 0x75 => readWhole do
      let (m, r) ← get32 p
      some (.eventMask tag m, r)
  | _ => .unknown

/-- The table of spec/opcode_table.json gives no row any bits, so no word spells a command. -/
def decodeTableWord (_nbits _w : Nat) : Option Instr :=
  none

end Sys2Proof
end

