-- ==== Sys2Proof/Machine/Operands.lean ====
section
/-! DEFINITION. Machine/Operands.lean: operand forms and field layouts: the byte of each name, the names
and choices that a request's bytes stand for, checks on texts and numbers, the roundings the rules state,
and the bytes of fields and frames (R181, R185, R193). -/

namespace Sys2Proof.Machine

/-! ## The bytes of names: numbered from 00h in the order the defining table or list first gives them
(R193, log entry 16) -/

/-- R185. -/
def Status.code : Status → Nat
  | .ok => 0
  | .accepted => 1
  | .busy => 2
  | .wrongState => 3
  | .badValue => 4
  | .full => 5
  | .refused => 6
  | .unknownRequest => 7

/-- The reason code's value (R185). -/
def Reason.code : Reason → Nat
  | .noSaleOpen => 0x01
  | .saleOpen => 0x02
  | .keyPosition => 0x03
  | .calMode => 0x04
  | .noSlot => 0x05
  | .drawerNotClosed => 0x06
  | .storeFail => 0x07
  | .capturePending => 0x08
  | .amountLimit => 0x09
  | .totalLimit => 0x0A
  | .changeLimit => 0x0B
  | .poolFull => 0x0C
  | .saleFull => 0x0D
  | .notVoidable => 0x0E
  | .alreadyVoided => 0x0F
  | .empty => 0x10
  | .printBacklog => 0x11
  | .tendersPresent => 0x12
  | .cardFetched => 0x13
  | .cardTendered => 0x14
  | .stackFull => 0x15
  | .stackEmpty => 0x16
  | .scaleNotReady => 0x17
  | .removeItem => 0x18
  | .noCapture => 0x19
  | .motion => 0x1A
  | .tareActive => 0x1B
  | .outOfZeroRange => 0x1C
  | .tareRange => 0x1D
  | .switchOpen => 0x1E
  | .notCal => 0x1F
  | .noLoad => 0x20
  | .spanRange => 0x21
  | .counterFull => 0x22
  | .noCard => 0x23
  | .notReady => 0x24
  | .tenderFull => 0x25
  | .overBalance => 0x26
  | .cashbackNotAllowed => 0x27
  | .cashbackLimit => 0x28
  | .cashbackPartial => 0x29
  | .noSuchSale => 0x2A
  | .noGrant => 0x2B
  | .absent => 0x2C
  | .fault => 0x2D
  | .nothingToCopy => 0x2E
  | .noJob => 0x2F
  | .legalJob => 0x30
  | .paperOut => 0x31
  | .coverOpen => 0x32
  | .supplyLow => 0x33
  | .headSensor => 0x34
  | .headHot => 0x35
  | .cutterJam => 0x36
  | .busy => 0x37

/-- R1. -/
def Role.code : Role → Nat
  | .free => 0
  | .current => 1
  | .suspended => 2
  | .printHeld => 3
  | .lastPrinted => 4

/-- R1. -/
def SaleState.code : SaleState → Nat
  | .opened => 0
  | .tender => 1
  | .settled => 2
  | .cancelled => 3

/-- R126. -/
def SettledBy.code : SettledBy → Nat
  | .total => 0
  | .tenderCash => 1
  | .tenderCard => 2

/-- R25. -/
def UnitState.code : UnitState → Nat
  | .starting => 0
  | .zeroFault => 1
  | .ready => 2
  | .adcFault => 3
  | .recordInvalid => 4

/-- R62. -/
def CaptureOutcome.code : CaptureOutcome → Nat
  | .captured => 0
  | .cancelled => 1
  | .motionTimeout => 2
  | .priceLimit => 3
  | .totalLimit => 4
  | .adcFault => 5

/-- R47 names NO_SAMPLE first, R51 the rest. -/
def Obstacle.code : Obstacle → Nat
  | .noSample => 0
  | .hold => 1
  | .overload => 2
  | .underload => 3
  | .motion => 4
  | .underMinimum => 5
  | .overMaximum => 6

/-- R68. -/
def CalState.code : CalState → Nat
  | .out => 0
  | .entered => 1
  | .writing => 2
  | .leaving => 3

/-- R68. -/
def CalCause.code : CalCause → Nat
  | .request => 0
  | .switch => 1

/-- R77: "open or closed". -/
def switchCode : SwitchLevel → Nat
  | .opened => 0
  | .closed => 1

/-- R78. -/
def headCode : Head → Nat
  | .front => 0
  | .stand => 1

/-- The tracks of an image (R107, log entry 16). -/
def trackCode : Track → Nat
  | .a => 0
  | .b => 1

/-- The account source: TRACK_B or TRACK_A (R91). -/
def sourceCode : Track → Nat
  | .b => 0
  | .a => 1

/-- The decode channel: IDLE, FRONT or STAND (R192). -/
def channelCode : Option Head → Nat
  | none => 0
  | some .front => 1
  | some .stand => 2

/-- R84; FORMAT takes the number after OK (R91, log entry 15). -/
def TrackResult.code : TrackResult → Nat
  | .absent => 0
  | .cellError => 1
  | .noStart => 2
  | .parity => 3
  | .noEnd => 4
  | .lrc => 5
  | .ok => 6
  | .format => 7

/-- R95. -/
def CardClass.code : CardClass → Nat
  | .debit => 0
  | .credit => 1
  | .gift => 2
  | .loyalty => 3
  | .blocked => 4

/-- R103. -/
def CardState.code : CardState → Nat
  | .held => 0
  | .ready => 1
  | .fetched => 2

/-- A or B (R129). -/
def drawerCode : Drawer → Nat
  | .a => 0
  | .b => 1

/-- R129. -/
def DrawerState.code : DrawerState → Nat
  | .absent => 0
  | .closed => 1
  | .pending => 2
  | .kicking => 3
  | .confirming => 4
  | .opened => 5
  | .openLong => 6
  | .fault => 7

/-- R129. -/
def trayCode : TrayLevel → Nat
  | .present => 0
  | .removed => 1

/-- R129. -/
def closedCode : ClosedLevel → Nat
  | .shut => 0
  | .opened => 1

/-- R129. -/
def KickBasis.code : KickBasis → Nat
  | .grant => 0
  | .noSale => 1

/-- R129. -/
def Requester.code : Requester → Nat
  | .terminal => 0
  | .settlement => 1

/-- R129. -/
def DrawerFault.code : DrawerFault → Nat
  | .solenoidShort => 0
  | .solenoidOpen => 1

/-- R129. -/
def DriveCurrent.code : DriveCurrent → Nat
  | .normal => 0
  | .short => 1
  | .none => 2
  | .cut => 3

/-- R137. -/
def KickOutcome.code : KickOutcome → Nat
  | .opened => 0
  | .jammed => 1
  | .fault => 2
  | .removed => 3
  | .withdrawn => 4

/-- R144. -/
def keyCode : KeyPosition → Nat
  | .locked => 0
  | .register => 1
  | .manager => 2

/-- R146. -/
def LightMode.code : LightMode → Nat
  | .off => 0
  | .on => 1
  | .blink => 2
  | .fast => 3

/-- R149. -/
def JobKind.code : JobKind → Nat
  | .receipt => 0
  | .voidSlip => 1
  | .copy => 2
  | .slip => 3

/-- R164: QUEUED, PRINTING, PAUSED or DONE. -/
def JobState.code : JobState → Nat
  | .queued => 0
  | .printing => 1
  | .paused _ => 2
  | .done => 3

/-- R170, and CUTTER_JAM of R173. -/
def PauseReason.code : PauseReason → Nat
  | .paperOut => 0
  | .coverOpen => 1
  | .supplyLow => 2
  | .headSensor => 3
  | .headHot => 4
  | .cutterJam => 5

/-- R165. -/
def EngineState.code : EngineState → Nat
  | .idle => 0
  | .feeding => 1
  | .running => 2
  | .paused => 3

/-- R178. -/
def PrintPhase.code : PrintPhase → Nat
  | .line => 0
  | .tail => 1
  | .cut => 2

/-- R166. -/
def paperCode : PaperLevel → Nat
  | .paper => 0
  | .out => 1

/-- R166. -/
def nearEndCode : NearEndLevel → Nat
  | .normal => 0
  | .nearEnd => 1

/-- R166. -/
def coverCode : CoverLevel → Nat
  | .closed => 0
  | .opened => 1

/-- R166. -/
def supplyCode : SupplyLevel → Nat
  | .good => 0
  | .low => 1

/-- R190. -/
def LinkRate.code : LinkRate → Nat
  | .baud19200 => 0
  | .baud57600 => 1
  | .baud115200 => 2
  | .baud230400 => 3

/-! ## What a request's byte names (R193); none for a byte that names nothing (log entry 19) -/

/-- FRONT or STAND. -/
def headOf (b : Byte) : Option Head :=
  if b = 0#8 then some .front else if b = 1#8 then some .stand else none

/-- A or B. -/
def drawerOf (b : Byte) : Option Drawer :=
  if b = 0#8 then some .a else if b = 1#8 then some .b else none

/-- ON or OFF, set or cleared: that 01h is ON, or set, is the model's choice (R193, log entry 39). -/
def settingOf (b : Byte) : Option Bool :=
  if b = 0#8 then some false else if b = 1#8 then some true else none

/-- A byte that names ON, or set (log entry 39). -/
def isOn (b : Byte) : Bool :=
  b = 1#8

/-- OFF, ON, BLINK or FAST. -/
def lightOf (b : Byte) : Option LightMode :=
  if b = 0#8 then some .off
  else if b = 1#8 then some .on
  else if b = 2#8 then some .blink
  else if b = 3#8 then some .fast
  else none

/-- One of the four link rates. -/
def rateOf (b : Byte) : Option LinkRate :=
  if b = 0#8 then some .baud19200
  else if b = 1#8 then some .baud57600
  else if b = 2#8 then some .baud115200
  else if b = 3#8 then some .baud230400
  else none

/-- One of the five classes. -/
def classOf (b : Byte) : Option CardClass :=
  if b = 0#8 then some .debit
  else if b = 1#8 then some .credit
  else if b = 2#8 then some .gift
  else if b = 3#8 then some .loyalty
  else if b = 4#8 then some .blocked
  else none

/-! ## Checks on operands -/

/-- A character from 20h to 7Eh (R5, R149). -/
def printable (b : Byte) : Bool :=
  0x20 ≤ b.toNat && b.toNat ≤ 0x7E

/-- A digit '0' to '9'. -/
def isDigit (b : Byte) : Bool :=
  0x30 ≤ b.toNat && b.toNat ≤ 0x39

/-- A description: 1 to 20 characters from 20h to 7Eh (R5). -/
def descriptionOk (d : Text) : Bool :=
  1 ≤ d.length && d.length ≤ 20 && d.all printable

/-- A line of a header or a slip: up to 32 characters from 20h to 7Eh (R160, R162). -/
def lineOk (l : Text) : Bool :=
  l.length ≤ 32 && l.all printable

/-- An approval code: 6 characters each '0' to '9' or 'A' to 'Z' (R115). -/
def approvalOk (t : Text) : Bool :=
  t.length == 6 && t.all fun b => isDigit b || (0x41 ≤ b.toNat && b.toNat ≤ 0x5A)

/-- Whether an amount lies within ± the limit, limits included (00, Numbers). -/
def within (limit x : Int) : Bool :=
  -limit ≤ x && x ≤ limit

/-- A card handle, 1 to 255 (R102). -/
def handleOk (h : Nat) : Bool :=
  1 ≤ h && h ≤ 255

/-- The days of a month from 2000 to 2099 (R189). -/
def daysInMonth (year month : Nat) : Nat :=
  if month = 2 then (if year % 4 = 0 then 29 else 28)
  else if month = 4 ∨ month = 6 ∨ month = 9 ∨ month = 11 then 30
  else 31

/-- Whether the fields of CLOCK_SET name a moment from 2000 to 2099 (R189). -/
def DateTime.valid (t : DateTime) : Bool :=
  t.year ≤ 99 && 1 ≤ t.month && t.month ≤ 12 && 1 ≤ t.day && t.day ≤ daysInMonth t.year t.month &&
    t.hour ≤ 23 && t.minute ≤ 59 && t.second ≤ 59

/-! ## Roundings (00, Rounding) -/

/-- num / den rounded half away from zero. -/
def roundHalfAway (num : Int) (den : Nat) : Int :=
  if num < 0 then -((2 * -num + den) / (2 * den)) else (2 * num + den) / (2 * den)

/-- num / den rounded half up. -/
def roundHalfUp (num den : Nat) : Nat :=
  (2 * num + den) / (2 * den)

/-- The multiple of e nearest to x, ties going away from zero (R32). -/
def roundTo (e : Nat) (x : Int) : Int :=
  roundHalfAway x e * e

/-! ## Fields and frames (R181, R193) -/

/-- An optional field: absent, or present and its fields. -/
def optional {α : Type} (f : α → List Field) : Option α → List Field
  | none => [.absent]
  | some a => .present :: f a

/-- A list: its count, then its items' fields. -/
def listed {α : Type} (f : α → List Field) (xs : List α) : List Field :=
  .count xs.length :: xs.flatMap f

/-- A time stamp, absent when the clock was UNSET (R189). -/
def stampField (t : Option DateTime) : List Field :=
  optional (fun d => [.stamp d]) t

/-- An optional text. -/
def textField (t : Option Text) : List Field :=
  optional (fun x => [.text x]) t

/-- The bytes of a field (R193); a flag that is set, yes or ON is 01h (log entry 39). -/
def Field.bytes : Field → Text
  | .status s => put8 s.code
  | .reason r => put8 r.code
  | .money x => putI32 x
  | .u8 n => put8 n
  | .u16 n => put16 n
  | .u32 n => put32 (BitVec.ofNat 32 n)
  | .i8 x => [BitVec.ofInt 8 x]
  | .i16 x => put16 (BitVec.ofInt 16 x).toNat
  | .i32 x => putI32 x
  | .name n => put8 n
  | .flag b => [if b then 1#8 else 0#8]
  | .text t => putText t
  | .absent => [0#8]
  | .present => [1#8]
  | .count n => put8 n
  | .stamp t => put8 t.year ++ put8 t.month ++ put8 t.day ++ put8 t.hour ++ put8 t.minute ++ put8 t.second
  | .mask m => [m]
  | .flagSet m => put16 m.toNat
  | .enableSet m => put32 m

/-- The payload bytes of a message. -/
def Message.payload (m : Message) : Text :=
  m.fields.flatMap Field.bytes

/-- One step of the CRC register: the generator 1021h, most significant bit first (R181). -/
def crcShift (c : BitVec 16) : BitVec 16 :=
  if c.msb then (c <<< 1) ^^^ 0x1021#16 else c <<< 1

/-- The CRC register after one byte. -/
def crcByte (c : BitVec 16) (b : Byte) : BitVec 16 :=
  let c := c ^^^ (b.setWidth 16 <<< 8)
  crcShift (crcShift (crcShift (crcShift (crcShift (crcShift (crcShift (crcShift c)))))))

/-- CRC-16 from FFFFh, without a final inversion (R181). -/
def crc16 (bytes : Text) : BitVec 16 :=
  bytes.foldl crcByte 0xFFFF#16

/-- A whole frame: start, length, code, tag, payload, CRC (R181). -/
def frameBytes (f : Frame) : Text :=
  let body := put16 f.payload.length ++ [f.code, f.tag] ++ f.payload
  [0x5A#8] ++ body ++ put16 (crc16 body).toNat

/-- The frame of a message. -/
def Message.frame (m : Message) : Frame :=
  ⟨m.code, m.tag, m.payload⟩

/-- The fields of a reply: the status, the reason code of a refusal, then what the rule names (R185). -/
def Answer.allFields (a : Answer) : List Field :=
  .status a.status :: (match a.reason with | some r => [.reason r] | none => []) ++ a.fields

/-! ## Answers -/

/-- OK with fields. -/
def ok (fields : List Field) : Answer :=
  ⟨.ok, none, fields⟩

/-- ACCEPTED with fields. -/
def accepted (fields : List Field) : Answer :=
  ⟨.accepted, none, fields⟩

/-- A status byte alone. -/
def alone (s : Status) : Answer :=
  ⟨s, none, []⟩

/-- REFUSED with a reason code. -/
def refusedWith (r : Reason) : Answer :=
  ⟨.refused, some r, []⟩

end Sys2Proof.Machine
end

