-- ==== Sys2Proof/Machine/Flags.lean ====
section
/-! DEFINITION. Machine/Flags.lean: flag computations: the result flags of replies (R12, R113), the
conditions of the weighing chain (R34, R35), and the bits of the latched flag set (R188). -/

namespace Sys2Proof.Machine

/-! ## Result flags -/

/-- LIMIT of ITEM, VOID_ITEM and TOTAL: refused with AMOUNT_LIMIT, TOTAL_LIMIT or CHANGE_LIMIT (R12). -/
def saleLimit : Option Reason → Bool
  | some .amountLimit => true
  | some .totalLimit => true
  | some .changeLimit => true
  | _ => false

/-- LIMIT of TENDER_CASH and TENDER_CARD: refused with OVER_BALANCE, CASHBACK_LIMIT, TOTAL_LIMIT or
CHANGE_LIMIT (R113). -/
def tenderLimit : Option Reason → Bool
  | some .overBalance => true
  | some .cashbackLimit => true
  | some .totalLimit => true
  | some .changeLimit => true
  | _ => false

/-- NEGATIVE, ZERO and LIMIT for a subtotal (R12). -/
def resultFlags (subtotal : Int) (limit : Bool) : List Field :=
  [.flag (subtotal < 0), .flag (subtotal = 0), .flag limit]

/-! ## Conditions of the chain -/

/-- OVERLOAD: gross above 150,450 units (R35). -/
def overloadAt (gross : Int) : Bool :=
  150450 < gross

/-- UNDERLOAD: gross below -400 units (R35). -/
def underloadAt (gross : Int) : Bool :=
  gross < -400

/-- The gross of a count against a zero reference and gain, rounded half away from zero and saturated
(R31). -/
def grossOf (count z : Int) (gain : Nat) : Int :=
  let q := roundHalfAway ((count - z) * gain) 65536
  if q > 8388607 then 8388607 else if q < -8388607 then -8388607 else q

/-- The distance of a count from a zero in units, as the zero range tests take it (R37, R38). -/
def unitsFrom (count zero : Int) (gain : Nat) : Int :=
  roundHalfAway ((count - zero) * gain) 65536

/-- STABLE: the window holds W counts, and the gross of each lies within ±10 units of the newest's (R34). -/
def stableAt (window : List Int) (w : Nat) (z : Int) (gain : Nat) : Bool :=
  window.length == w &&
    (match window.getLast? with
     | none => false
     | some newest => window.all fun c => within 10 (grossOf c z gain - grossOf newest z gain))

/-! ## The latched flag set (R188) -/

/-- The latched flags by name. -/
inductive Latched where
  | counterLost
  | cardOverrun
  | eventLost
  | badCrc
  | rxOverrun
  | presence (d : Drawer)
  | forced (d : Drawer)
  | alarm (d : Drawer)
deriving DecidableEq, Repr

/-- A latched flag's bit. -/
def Latched.bit : Latched → Nat
  | .counterLost => 0
  | .cardOverrun => 1
  | .eventLost => 2
  | .badCrc => 3
  | .rxOverrun => 4
  | .presence .a => 5
  | .forced .a => 6
  | .alarm .a => 7
  | .presence .b => 8
  | .forced .b => 9
  | .alarm .b => 10

/-- Sets a flag; one already set stays set. -/
def Link.latch (f : Latched) (l : Link) : Link :=
  { l with flags := l.flags ||| (1#16 <<< f.bit) }

/-- Whether a flag is set. -/
def Link.latched (f : Latched) (l : Link) : Bool :=
  l.flags.getLsbD f.bit

/-! ## The request's privileges -/

/-- With the key switch at LOCKED (R8). -/
def Till.locked (t : Till) : Bool :=
  t.key = .locked

/-- With the key switch at MANAGER (R8). -/
def Till.manager (t : Till) : Bool :=
  t.key = .manager

/-- In CAL mode: any state but OUT (R68). -/
def Store.inCal (s : Store) : Bool :=
  s.calState ≠ .out

end Sys2Proof.Machine
end

