-- ==== Sys2Proof/Machine/Ops.lean ====
section
/-! DEFINITION. Machine/Ops.lean: the operations that several commands share: handing events and replies
to the lane link (R186, R187), taking a request (R182), elapsed time (R189), and the records that more than
one block reads: contexts, the item pool, drawers. -/

namespace Sys2Proof.Machine

/-! ## A command's outcome -/

/-- A command changes the part and leaves the queue of waiting commands alone. -/
def State.advance (f : Lane → Lane) (s : State) : Host.Outcome State Fault Refusal :=
  .next { s with toLane := f s.toLane }

/-! ## Elapsed time (R189, log entry 3) -/

/-- The end of a running period has come: the elapsed time is at least that end. -/
def Lane.elapseTo (t : Nat) (p : Lane) : Lane :=
  { p with now := max p.now t }

/-- As elapseTo, for a period that may not be running. -/
def Lane.elapseIf (t : Option Nat) (p : Lane) : Lane :=
  match t with
  | some t => p.elapseTo t
  | none => p

/-- Whole seconds from µs, rounded down (R131). -/
def wholeSeconds (us : Nat) : Nat :=
  us / 1000000

/-- Whole seconds from µs, rounded up (R108). -/
def secondsUp (us : Nat) : Nat :=
  (us + 999999) / 1000000

/-- The clock as a time stamp (R189). -/
def Lane.clock (p : Lane) : Option DateTime :=
  p.link.clock

/-! ## The transmitter (R186) -/

/-- The transmitter takes its next frame if the line is free: a waiting reply with no events ahead,
otherwise the oldest queued event, and a waiting reply's count falls by 1 (R186). -/
def Link.pump (l : Link) : Link :=
  match l.sending with
  | some _ => l
  | none =>
    match l.reply with
    | some ⟨m, 0⟩ => { l with sending := some (.reply m), reply := none }
    | some ⟨m, n + 1⟩ =>
      match l.events with
      | [] => l
      | e :: rest => { l with sending := some (.event e), events := rest, reply := some ⟨m, n⟩ }
    | none =>
      match l.events with
      | [] => l
      | e :: rest => { l with sending := some (.event e), events := rest }

/-- An event is in the enable set: bit n stands for the code 80h + n (R187). -/
def Link.enables (m : Message) (l : Link) : Bool :=
  l.enabled.getLsbD (m.code.toNat - 0x80)

/-- An event handed to the link: discarded when its kind is not enabled, dropped with EVENT_LOST latched
when 16 events are queued, otherwise queued (R187). -/
def Link.handEvent (m : Message) (l : Link) : Link :=
  if l.enables m then
    if l.events.length < 16 then { l with events := l.events ++ [m] }.pump else l.latch .eventLost
  else l

/-- A reply handed to the link, with the number of events in the queue as its count of events ahead
(R186). -/
def Link.handReply (m : Message) (l : Link) : Link :=
  { l with reply := some ⟨m, l.events.length⟩ }.pump

/-- A block hands an event to the lane link; its tag is 00h (R181). -/
def Lane.event (code : Byte) (fields : List Field) (p : Lane) : Lane :=
  { p with link := p.link.handEvent ⟨code, 0x00#8, fields⟩ }

/-- A block has the lane link latch a flag (R188). -/
def Lane.latch (f : Latched) (p : Lane) : Lane :=
  { p with link := p.link.latch f }

/-- The reply of the request in progress is handed over, with its code and tag (R185). -/
def Lane.respond (a : Answer) (p : Lane) : Lane :=
  match p.link.inProgress with
  | some t => { p with link := p.link.handReply ⟨t.code, t.tag, a.allFields⟩ }
  | none => p

/-! ## The receiver (R182, R183) -/

/-- A byte arrives while the receiver is HELD: it is discarded, and the first of a HELD period hands over
LINK_ERROR OVERRUN and latches RX_OVERRUN (R183). -/
def Link.byteWhileHeld (l : Link) : Link :=
  match l.receiver with
  | .held f false =>
    ({ l with receiver := .held f true }.handEvent ⟨0x9E#8, 0x00#8, [.name 1]⟩).latch .rxOverrun
  | _ => l

/-- A request is taken: it is in progress until the last byte of its reply has been sent, and the receiver
is in HUNT (R182). serve is what its block does. -/
def Lane.take (f : Frame) (serve : Lane → Lane) (p : Lane) : Lane :=
  serve { p with link := { p.link with receiver := .hunt, inProgress := some ⟨f.code, f.tag⟩ } }

/-- A complete, good frame has come: taken at once when no request is in progress, otherwise held (R182).
While the receiver is HELD its bytes are discarded (R183). A frame that was being collected is abandoned
(log entry 1). -/
def Lane.arrive (f : Frame) (serve : Lane → Lane) (p : Lane) : Lane :=
  match p.link.receiver with
  | .held _ _ => { p with link := p.link.byteWhileHeld }
  | .hunt | .collect _ =>
    match p.link.inProgress with
    | some _ => { p with link := { p.link with receiver := .held f false } }
    | none => p.take f serve

/-- What a block does with a request: it acts, then hands over the reply. -/
def Lane.serve (body : Lane → Lane × Answer) (p : Lane) : Lane :=
  let r := body p
  r.1.respond r.2

/-- The frame of a request command. -/
def frameFor (i : Instr) : Frame :=
  (requestFrame i).getD ⟨0x00#8, 0x00#8, []⟩

/-- A request command: its whole frame reaches the lane link (log entry 1). -/
def request (i : Instr) (body : Lane → Lane × Answer) (s : State) : Host.Outcome State Fault Refusal :=
  s.advance (Lane.arrive (frameFor i) (Lane.serve body))

/-! ## The checks of a request (R8): in the order the rule lists, the first that fails decides the reply -/

/-- The answer of the first check that fails. -/
def firstFailing : List (Bool × Answer) → Option Answer
  | [] => none
  | (true, a) :: _ => some a
  | (false, _) :: rest => firstFailing rest

/-- A request that is checked first: at the first check that fails the state is unchanged (R8). -/
def checked (checks : List (Bool × Answer)) (act : Lane → Lane × Answer) (p : Lane) : Lane × Answer :=
  match firstFailing checks with
  | some a => (p, a)
  | none => act p

/-! ## Contexts (R1 to R3) -/

/-- The six contexts' numbers. -/
def contextNumbers : List (Fin 6) :=
  [0, 1, 2, 3, 4, 5]

/-- A context. -/
def Lane.ctx (i : Fin 6) (p : Lane) : Context :=
  p.sale.contexts[i]

/-- Writes a context. -/
def Lane.setCtx (i : Fin 6) (c : Context) (p : Lane) : Lane :=
  { p with sale := { p.sale with contexts := p.sale.contexts.set i c } }

/-- The lowest-numbered context of a role. -/
def Lane.firstOf (r : Role) (p : Lane) : Option (Fin 6) :=
  contextNumbers.find? fun i => (p.ctx i).role = r

/-- The CURRENT context (R2: at most one). -/
def Lane.current (p : Lane) : Option (Fin 6) :=
  p.firstOf .current

/-- The fields of the CURRENT sale; those of a FREE context when there is none. -/
def Lane.currentCtx (p : Lane) : Context :=
  match p.current with
  | some i => p.ctx i
  | none => Context.freed

/-- With no CURRENT context. -/
def Lane.noSaleOpen (p : Lane) : Bool :=
  p.current.isNone

/-- The transaction number of the CURRENT sale. -/
def Lane.currentTxn (p : Lane) : Nat :=
  match p.current with
  | some i => (p.ctx i).txn.getD 0
  | none => 0

/-- A context becomes FREE: its records return to the pool, its fields take the values of R3, and it
leaves the suspend stack, the others keeping their order (R3). -/
def Lane.freeCtx (i : Fin 6) (p : Lane) : Lane :=
  let p := p.setCtx i Context.freed
  { p with sale := { p.sale with stack := p.sale.stack.filter fun j => j ≠ i } }

/-- A record joins an item list, and the subtotal changes by its amount (R6, R12). -/
def Context.append (r : ItemRecord) (c : Context) : Context :=
  { c with items := c.items ++ [r], subtotal := c.subtotal + r.amount }

/-- The balance due: the subtotal minus the tender sum (R113). -/
def Context.balance (c : Context) : Int :=
  c.subtotal - c.tenderSum

/-! ## The item pool (R4) -/

/-- The records held through item lists. -/
def Lane.held (p : Lane) : Nat :=
  (contextNumbers.map fun i => (p.ctx i).items.length).sum

/-- The record reserved by a pending capture. -/
def Lane.reserved (p : Lane) : Nat :=
  if p.scale.capture.isSome then 1 else 0

/-- The pool's free count: 256 minus the held records minus the reserved one (R4). -/
def Lane.poolFree (p : Lane) : Nat :=
  256 - (p.held + p.reserved)

/-! ## Drawers (R129, R146) -/

/-- A drawer record. -/
def Till.drawer (d : Drawer) (t : Till) : DrawerRecord :=
  match d with
  | .a => t.drawerA
  | .b => t.drawerB

/-- The mode the lane light shows: FAST with the assist latch set, BLINK while a drawer is OPEN_LONG,
otherwise the commanded mode (R146). -/
def Till.judgedLight (t : Till) : LightMode :=
  if t.assist then .fast
  else if t.drawerA.state = .openLong ∨ t.drawerB.state = .openLong then .blink
  else t.commanded

/-- The shown mode is judged afresh; a change starts the new mode from the start of a lit period (R146). -/
def Till.judgeLight (now : Nat) (t : Till) : Till :=
  if t.judgedLight = t.shown then t else { t with shown := t.judgedLight, shownSince := now }

/-- A lamp that is lit for half a period and then dark for the other half, an elapsed time after the start of a lit
period. -/
def litHalf (half elapsed : Nat) : Bool :=
  elapsed % (2 * half) < half

/-- The drive of the lane light at an elapsed time: BLINK is lit 500 ms and dark 500 ms, FAST lit 125 ms and dark
125 ms (R146). -/
def Till.lampLit (now : Nat) (t : Till) : Bool :=
  match t.shown with
  | .off => false
  | .on => true
  | .blink => litHalf 500000 (now - t.shownSince)
  | .fast => litHalf 125000 (now - t.shownSince)

/-- Writes a drawer record. -/
def Till.setDrawer (d : Drawer) (r : DrawerRecord) (t : Till) : Till :=
  match d with
  | .a => { t with drawerA := r }
  | .b => { t with drawerB := r }

/-- A drawer record of the part. -/
def Lane.drawer (d : Drawer) (p : Lane) : DrawerRecord :=
  p.till.drawer d

/-- Changes the till controller and judges the lane light afresh. -/
def Lane.withTill (t : Till) (p : Lane) : Lane :=
  { p with till := t.judgeLight p.now }

/-- Writes a drawer record and judges the lane light afresh. -/
def Lane.setDrawer (d : Drawer) (r : DrawerRecord) (p : Lane) : Lane :=
  p.withTill (p.till.setDrawer d r)

end Sys2Proof.Machine
end

