-- ==== Sys2Proof/Machine/Weighing.lean ====
section
/-! DEFINITION. Machine/Weighing.lean: the weighing unit: its restart, one sample through the seven stages,
the capture, and the requests of chapters 2 and 3. -/

namespace Sys2Proof.Machine

/-! ## Values in force and the restart -/

/-- The calibration record's values, or the defaults when it is not VALID (R27). -/
def Store.recordValues (s : Store) : CalValues :=
  match s.calRecord with
  | .valid r => r.values
  | .erased | .corrupt => CalValues.defaults

/-- The calibration record is VALID (R65). -/
def Store.recordValid (s : Store) : Bool :=
  match s.calRecord with
  | .valid _ => true
  | .erased | .corrupt => false

/-- The calibration values in force outside CAL: the record's as the last restart read them, and the defaults
when the record is not VALID (R27, R69; log entry 12). -/
def Lane.inForceOutsideCal (p : Lane) : CalValues :=
  if p.store.recordValid then p.scale.atRestart else CalValues.defaults

/-- The calibration values in force: the working set with zero tracking off while CAL is entered (R70). -/
def Lane.inForce (p : Lane) : CalValues :=
  match p.store.inCal, p.store.working with
  | true, some w => { w with tracking := false }
  | _, _ => p.inForceOutsideCal

/-- SCALE_STATE with the new state and the state left (R25). -/
def Lane.scaleStateEvent (left : Nat) (p : Lane) : Lane :=
  p.event 0x80#8 [.name p.scale.unit.code, .name left]

/-- A change of the unit's state, with its SCALE_STATE (R25). -/
def Lane.enterUnit (u : UnitState) (p : Lane) : Lane :=
  { p with scale := { p.scale with unit := u } }.scaleStateEvent p.scale.unit.code

/-- What a restart makes of the unit, before its event (R26). The zero is the calibrated zero in force
(log entry 12), and no condition but HOLD outlives the chain it was computed with (log entry 11). -/
def Lane.restarted (p : Lane) : Lane :=
  let p := { p with scale := { p.scale with atRestart := p.store.recordValues } }
  let z0 := p.inForce.z0
  { p with scale := { p.scale with
      unit := if p.store.recordValid then .starting else .recordInvalid
      z := z0
      zpu := z0
      tare := 0
      history := []
      window := []
      rail := 0
      chain := none
      conditions := { Conditions.clear with hold := p.scale.conditions.hold } } }

/-- A restart (R26), with its SCALE_STATE carrying the state left (R25). -/
def Lane.restart (p : Lane) : Lane :=
  p.restarted.scaleStateEvent p.scale.unit.code

/-! ## The jolt hold (R36) -/

/-- A pulse end is reported: the timer is started or restarted at 400 ms, and the window is emptied. -/
def Lane.joltHold (p : Lane) : Lane :=
  { p with scale := { p.scale with joltExpiry := some (p.now + 400000), window := [] } }

/-! ## The capture's endings (R53 to R62) -/

/-- WEIGH_DONE for a capture request, with the pool's free count after the ending and the fields its
outcome adds (R62). -/
def Lane.weighDone (c : Capture) (o : CaptureOutcome) (more : List Field) (p : Lane) : Lane :=
  p.event 0x82#8 ([.name o.code, .u8 c.context, .u16 c.txn, .text c.description, .money c.unitPrice,
    .u16 p.poolFree] ++ more)

/-- The capture request becomes NONE; its reserved record is free again unless it was appended (R61). -/
def Lane.dropCapture (p : Lane) : Lane :=
  { p with scale := { p.scale with capture := none } }

/-- A pending capture ends other than CAPTURED (R61). -/
def Lane.endCapture (o : CaptureOutcome) (more : List Field) (p : Lane) : Lane :=
  match p.scale.capture with
  | some c => p.dropCapture.weighDone c o more
  | none => p

/-! ## One sample (R28) -/

/-- The newest n of a list that holds the newest last. -/
def newest {α : Type} (n : Nat) (xs : List α) : List α :=
  xs.drop (xs.length - n)

/-- The rail values (R29). -/
def railCount (c : Int) : Bool :=
  c = 8388607 ∨ c = -8388607 ∨ c = -8388608

/-- The filtered count: the mean of the newest N counts, or of all held, rounded half away from zero
(R30). -/
def filtered (n : Nat) (history : List Int) : Int :=
  let xs := newest n history
  roundHalfAway xs.sum xs.length

/-- The division chosen on the unrounded net: 20 units up to 60,000, otherwise 50 (R32). -/
def divisionOf (net : Int) : Nat :=
  if within 60000 net then 20 else 50

/-- Stage 3: gross, net, division and roundings of a filtered count (R31, R32). -/
def chainOf (count z : Int) (gain tare : Nat) : Chain :=
  let gross := grossOf count z gain
  let net := gross - tare
  let e := divisionOf net
  { count := count, gross := gross, net := net, division := e, netRounded := roundTo e net,
    grossRounded := roundTo e gross, tare := tare }

/-- Stage 2: the count enters the history (R30). -/
def Lane.enterHistory (count : Int) (p : Lane) : Lane :=
  { p with scale := { p.scale with history := newest 16 (p.scale.history ++ [count]) } }

/-- Stages 3 and 4: the chain, the motion window and the conditions (R31 to R36). -/
def Lane.computeChain (p : Lane) : Lane :=
  let v := p.inForce
  let s := p.scale
  let chain := chainOf (filtered v.filterLength s.history) s.z v.gain s.tare
  let hold := s.joltExpiry.isSome
  let window := newest v.windowLength (if hold then s.window else s.window ++ [chain.count])
  { p with scale := { s with
      chain := some chain
      window := window
      conditions :=
        { stable := stableAt window v.windowLength s.z v.gain
          overload := overloadAt chain.gross
          underload := underloadAt chain.gross
          hold := hold } } }

/-- The zero range test of R38 step 6 on a count. -/
def Lane.inZeroRange (count : Int) (p : Lane) : Bool :=
  within 3000 (unitsFrom count p.scale.zpu p.inForce.gain)

/-- Z becomes a count. -/
def Lane.setZero (count : Int) (p : Lane) : Lane :=
  { p with scale := { p.scale with z := count } }

/-- The power-up zero test at a STABLE sample in STARTING or ZERO_FAULT (R37). -/
def Lane.powerUpZero (chain : Chain) (p : Lane) : Lane :=
  if within 15000 (unitsFrom chain.count p.inForce.z0 p.inForce.gain) then
    { p with scale := { p.scale with z := chain.count, zpu := chain.count } }.enterUnit .ready
  else if p.scale.unit = .starting then p.enterUnit .zeroFault
  else p

/-- Zero tracking in READY (R39). -/
def Lane.trackZero (chain : Chain) (p : Lane) : Lane :=
  if p.inForce.tracking && p.scale.conditions.stable && p.scale.tare == 0 && p.scale.capture.isNone &&
      within 10 chain.gross && p.inZeroRange chain.count then
    p.setZero chain.count
  else p

/-- Stage 5 (R37, R39). -/
def Lane.zeroStage (chain : Chain) (p : Lane) : Lane :=
  match p.scale.unit with
  | .starting | .zeroFault => if p.scale.conditions.stable then p.powerUpZero chain else p
  | .ready => p.trackZero chain
  | .adcFault | .recordInvalid => p

/-- The obstacle of an unfit sample, none for a fit one (R50, R51). -/
def obstacleOf (c : Conditions) (chain : Chain) : Option Obstacle :=
  if c.hold then some .hold
  else if c.overload then some .overload
  else if c.underload then some .underload
  else if !c.stable then some .motion
  else if chain.netRounded < 400 then some .underMinimum
  else if 150000 < chain.netRounded then some .overMaximum
  else none

/-- The net in grams of a chain (R32). -/
def Chain.netGrams (c : Chain) : Int :=
  c.netRounded / 10

/-- The amount of a weighed item, rounded half up (R52). -/
def weighedAmount (netGrams unitPrice : Int) : Int :=
  (netGrams * unitPrice + 500) / 1000

/-- The record a capture fills (R54). -/
def weighedRecord (c : Capture) (chain : Chain) (amount : Int) (time : Option DateTime) : ItemRecord :=
  { description := c.description, amount := amount, time := time, voided := false,
    detail := .weighed chain.netGrams (chain.tare / 10) (chain.division / 10) c.unitPrice }

/-- The capture is made (R54, R55). -/
def Lane.makeCapture (c : Capture) (chain : Chain) (amount : Int) (p : Lane) : Lane :=
  let record := weighedRecord c chain amount p.clock
  let after := (p.ctx c.context).append record
  let p := p.setCtx c.context after
  let p := { p with scale := { p.scale with
    latch := true
    tare := if p.scale.autoClear then 0 else p.scale.tare
    capture := none } }
  p.weighDone c .captured
    ([.u8 after.items.length, .u16 chain.netGrams.toNat, .u16 (chain.tare / 10), .u16 (chain.division / 10)] ++
      stampField record.time ++ [.money amount, .money after.subtotal] ++ resultFlags after.subtotal false)

/-- The judging of a sample for a pending capture (R50). -/
def Lane.judge (c : Capture) (chain : Chain) (p : Lane) : Lane :=
  match obstacleOf p.scale.conditions chain with
  | some o => { p with scale := { p.scale with capture := some { c with obstacle := o } } }
  | none =>
    let amount := weighedAmount chain.netGrams c.unitPrice
    let subtotal := (p.ctx c.context).subtotal
    let weighed : List Field := [.money amount, .u16 chain.netGrams.toNat, .u16 (chain.division / 10)]
    if 9999999 < amount then p.endCapture .priceLimit (weighed ++ resultFlags subtotal true)
    else if 99999999 < subtotal + amount then
      p.endCapture .totalLimit (weighed ++ [.money subtotal] ++ resultFlags subtotal true)
    else p.makeCapture c chain amount

/-- Stage 6: the capture latch is tested, then a pending capture is judged (R50, R63). -/
def Lane.captureStage (chain : Chain) (p : Lane) : Lane :=
  let p := if chain.gross < 400 then { p with scale := { p.scale with latch := false } } else p
  match p.scale.capture with
  | some c => p.judge c chain
  | none => p

/-- The displayed weight in units: shown in READY when neither OVERLOAD nor UNDERLOAD is set (R33). -/
def Scale.displayed (s : Scale) : Option Chain :=
  if s.unit = .ready ∧ ¬s.conditions.overload ∧ ¬s.conditions.underload then s.chain else none

/-- The tare, in grams, that the reported net was computed with (R44). -/
def Scale.reportedTare (s : Scale) : Nat :=
  match s.chain with
  | some c => c.tare / 10
  | none => s.tare / 10

/-- The live feed's current report (R45). While the displayed weight is blank the report holds no division: R45
does not say, and the model takes what R44 says of WEIGHT_READ (log entry 14). -/
def Scale.report (s : Scale) : FeedReport :=
  { unit := s.unit, shown := s.displayed.map Chain.netGrams, tareGrams := s.reportedTare,
    division := s.displayed.map fun c => c.division / 10, conditions := s.conditions }

/-- The conditions as four flags (R44). -/
def Conditions.fields (c : Conditions) : List Field :=
  [.flag c.stable, .flag c.overload, .flag c.underload, .flag c.hold]

/-- The fields of SCALE_WEIGHT (R45). -/
def FeedReport.fields (r : FeedReport) : List Field :=
  [.name r.unit.code] ++ optional (fun x => [.i16 x]) r.shown ++ [.u16 r.tareGrams] ++
    optional (fun e => [.u16 e]) r.division ++ r.conditions.fields

/-- No SCALE_WEIGHT has been handed over, or 100 ms have passed since the last one (R45). -/
def Lane.feedSpaced (p : Lane) : Bool :=
  match p.scale.lastSend with
  | some t => t + 100000 ≤ p.now
  | none => true

/-- Stage 7: the live feed is served (R45). -/
def Lane.feedStage (p : Lane) : Lane :=
  let report := p.scale.report
  if p.scale.feed ∧ p.scale.lastReport ≠ some report ∧ p.feedSpaced ∧ p.link.events.length < 12 then
    { p with scale := { p.scale with lastReport := some report, lastSend := some p.now } }.event 0x81#8 report.fields
  else p

/-- Stages 2 to 7 of a sample (R28). -/
def Lane.processSample (count : Int) (p : Lane) : Lane :=
  let p := (p.enterHistory count).computeChain
  match p.scale.chain with
  | some chain => ((p.zeroStage chain).captureStage chain).feedStage
  | none => p

/-- The eighth consecutive rail sample enters ADC_FAULT (R29, R59). -/
def Lane.enterAdcFault (p : Lane) : Lane :=
  let p := p.endCapture .adcFault []
  let p := { p with scale := { p.scale with
    history := []
    window := []
    rail := 0
    chain := none
    conditions := { Conditions.clear with hold := p.scale.conditions.hold } } }
  p.enterUnit .adcFault

/-- The rail counter. -/
def Lane.setRail (n : Nat) (p : Lane) : Lane :=
  { p with scale := { p.scale with rail := n } }

/-- The next sample is due a 1/80 s later (R28). -/
def Lane.samplePeriod (p : Lane) : Lane :=
  let p := p.elapseTo p.scale.nextSample
  { p with scale := { p.scale with nextSample := p.now + 12500 } }

/-- Stage 1, the rail test (R29), and what follows it. -/
def Lane.sample (count : Int) (p : Lane) : Lane :=
  let p := p.samplePeriod
  if p.scale.unit = .adcFault then
    if railCount count then (p.setRail 0).feedStage
    else if p.scale.rail + 1 < 8 then (p.setRail (p.scale.rail + 1)).feedStage
    else p.restart.processSample count
  else
    if railCount count then
      if p.scale.rail + 1 < 8 then (p.setRail (p.scale.rail + 1)).processSample count
      else p.enterAdcFault.feedStage
    else (p.setRail 0).processSample count

/-- ADC_SAMPLE (R28). -/
def execAdcSample (count : Int) (s : State) : Host.Outcome State Fault Refusal :=
  s.advance (Lane.sample count)

/-- The jolt hold timer expires; HOLD is cleared at the next sample (R36). -/
def Lane.joltExpire (p : Lane) : Lane :=
  let p := p.elapseIf p.scale.joltExpiry
  { p with scale := { p.scale with joltExpiry := none } }

/-- JOLT_HOLD_EXPIRY (R36). -/
def execJoltHoldExpiry (s : State) : Host.Outcome State Fault Refusal :=
  s.advance Lane.joltExpire

/-! ## Zero and tare -/

/-- The checks that ZERO, TARE and TARE_PRESET make first (R38, R40, R41). -/
def Lane.weighingChecks (p : Lane) : List (Bool × Answer) :=
  [(p.store.inCal, refusedWith .calMode),
   (p.scale.unit ≠ .ready, refusedWith .scaleNotReady),
   (p.scale.capture.isSome, refusedWith .capturePending)]

/-- HOLD set, or STABLE cleared (R38, R40, R72, R73). With no chain no sample was taken, and STABLE is
cleared. -/
def Lane.moving (p : Lane) : Bool :=
  p.scale.conditions.hold || !p.scale.conditions.stable || p.scale.chain.isNone

/-- The count of the most recent sample. -/
def Lane.lastCount (p : Lane) : Int :=
  match p.scale.chain with
  | some c => c.count
  | none => 0

/-- The gross of the most recent sample. -/
def Lane.lastGross (p : Lane) : Int :=
  match p.scale.chain with
  | some c => c.gross
  | none => 0

/-- ZERO's action and reply (R38). -/
def doZero (p : Lane) : Lane × Answer :=
  checked p.weighingChecks
    (checked
      [(p.scale.tare ≠ 0, refusedWith .tareActive),
       (p.moving, refusedWith .motion),
       (!p.inZeroRange p.lastCount, refusedWith .outOfZeroRange)]
      fun p => (p.setZero p.lastCount, ok [])) p

/-- ZERO (R38). -/
def execZero (tag : Byte) (s : State) : Host.Outcome State Fault Refusal :=
  request (.zero tag) doZero s

/-- The tare in internal units. -/
def Lane.setTare (units : Nat) (p : Lane) : Lane :=
  { p with scale := { p.scale with tare := units } }

/-- The gross as a tare: rounded to a multiple of 20 units, ties away from zero (R40). -/
def tareOf (gross : Int) : Nat :=
  (roundTo 20 gross).toNat

/-- TARE's action and reply (R40). -/
def doTare (p : Lane) : Lane × Answer :=
  checked p.weighingChecks
    (checked
      [(p.moving, refusedWith .motion),
       (p.lastGross ≤ 0 || 60000 < p.lastGross, refusedWith .tareRange),
       (tareOf p.lastGross = 0, refusedWith .tareRange)]
      fun p => (p.setTare (tareOf p.lastGross), ok [.u16 (tareOf p.lastGross / 10)])) p

/-- TARE (R40). -/
def execTare (tag : Byte) (s : State) : Host.Outcome State Fault Refusal :=
  request (.tare tag) doTare s

/-- TARE_PRESET's action and reply (R41). -/
def doTarePreset (grams : Nat) (p : Lane) : Lane × Answer :=
  checked p.weighingChecks
    (checked [(grams % 2 ≠ 0 || grams < 2 || 6000 < grams, alone .badValue)]
      fun p => (p.setTare (10 * grams), ok [.u16 grams])) p

/-- TARE_PRESET (R41). -/
def execTarePreset (tag : Byte) (grams : Nat) (s : State) : Host.Outcome State Fault Refusal :=
  request (.tarePreset tag grams) (doTarePreset grams) s

/-- TARE_CLEAR's action and reply (R42). -/
def doTareClear (p : Lane) : Lane × Answer :=
  checked [(p.scale.capture.isSome, refusedWith .capturePending)] (fun p => (p.setTare 0, ok [])) p

/-- TARE_CLEAR (R42). -/
def execTareClear (tag : Byte) (s : State) : Host.Outcome State Fault Refusal :=
  request (.tareClear tag) doTareClear s

/-! ## Settings, reads and the feed -/

/-- SCALE_SETUP's action and reply (R43). An auto-clear byte neither ON nor OFF is a value outside its range, answered
in R43's place for one (R193, log entry 19). -/
def doScaleSetup (autoClear : Byte) (tenths : Nat) (p : Lane) : Lane × Answer :=
  checked
    [(p.scale.capture.isSome, refusedWith .capturePending),
     ((settingOf autoClear).isNone || tenths < 5 || 100 < tenths, alone .badValue)]
    (fun p =>
      let on := isOn autoClear
      ({ p with scale := { p.scale with autoClear := on, timeoutTenths := tenths } }, ok [.flag on, .u8 tenths])) p

/-- SCALE_SETUP (R43). -/
def execScaleSetup (tag : Byte) (autoClear : Byte) (tenths : Nat) (s : State) : Host.Outcome State Fault Refusal :=
  request (.scaleSetup tag autoClear tenths) (doScaleSetup autoClear tenths) s

/-- WEIGHT_READ's reply (R44). -/
def Lane.weightReport (p : Lane) : List Field :=
  let s := p.scale
  [.name s.unit.code] ++ optional (fun c => [.i32 c.count]) s.chain ++
    optional (fun c => [.i16 (c.grossRounded / 10)]) s.displayed ++
    optional (fun c => [.i16 c.netGrams]) s.displayed ++
    [.u16 s.reportedTare] ++ optional (fun c => [.u16 (c.division / 10)]) s.displayed ++
    s.conditions.fields ++ [.flag s.capture.isSome, .flag s.latch]

/-- WEIGHT_READ's action and reply. -/
def doWeightRead (p : Lane) : Lane × Answer :=
  (p, ok p.weightReport)

/-- WEIGHT_READ (R44). -/
def execWeightRead (tag : Byte) (s : State) : Host.Outcome State Fault Refusal :=
  request (.weightRead tag) doWeightRead s

/-- SCALE_FEED's action and reply (R45). -/
def doScaleFeed (setting : Byte) (p : Lane) : Lane × Answer :=
  match settingOf setting with
  | none => (p, alone .badValue)
  | some on => ({ p with scale := { p.scale with feed := on, lastReport := none, lastSend := none } }, ok [])

/-- SCALE_FEED (R45). -/
def execScaleFeed (tag : Byte) (setting : Byte) (s : State) : Host.Outcome State Fault Refusal :=
  request (.scaleFeed tag setting) (doScaleFeed setting) s

/-! ## Weighed items -/

/-- The capture request WEIGH makes (R47, R49). -/
def Lane.captureFor (i : Fin 6) (description : Text) (unitPrice : Int) (p : Lane) : Capture :=
  { context := i, txn := (p.ctx i).txn.getD 0, description := description, unitPrice := unitPrice,
    tenths := p.scale.timeoutTenths, expiry := p.now + p.scale.timeoutTenths * 100000, obstacle := .noSample }

/-- WEIGH accepted: one record is reserved and the capture request becomes PENDING (R49). -/
def Lane.startCapture (description : Text) (unitPrice : Int) (p : Lane) : Lane × Answer :=
  match p.current with
  | none => (p, refusedWith .noSaleOpen)
  | some i =>
    let c := p.captureFor i description unitPrice
    let p := { p with scale := { p.scale with capture := some c } }
    (p, accepted [.u8 i, .u16 c.txn, .u16 p.poolFree, .u8 c.tenths])

/-- WEIGH's action and reply (R48). -/
def doWeigh (description : Text) (unitPrice : Int) (p : Lane) : Lane × Answer :=
  checked
    [(p.store.inCal, refusedWith .calMode),
     (p.noSaleOpen, refusedWith .noSaleOpen),
     (p.currentCtx.saleState ≠ some .opened, alone .wrongState),
     (p.till.locked, refusedWith .keyPosition),
     (!descriptionOk description || unitPrice < 1 || 999999 < unitPrice, alone .badValue),
     (p.scale.unit ≠ .ready, refusedWith .scaleNotReady),
     (p.scale.capture.isSome, alone .busy),
     (p.scale.latch, refusedWith .removeItem),
     (p.poolFree = 0, refusedWith .poolFull),
     (150 ≤ p.currentCtx.items.length, refusedWith .saleFull)]
    (Lane.startCapture description unitPrice) p

/-- WEIGH (R48). -/
def execWeigh (tag : Byte) (description : Text) (unitPrice : Int) (s : State) : Host.Outcome State Fault Refusal :=
  request (.weigh tag description unitPrice) (doWeigh description unitPrice) s

/-- WEIGH_CANCEL's action and reply (R57). -/
def doWeighCancel (p : Lane) : Lane × Answer :=
  checked [(p.scale.capture.isNone, refusedWith .noCapture)]
    (fun p =>
      let p := p.endCapture .cancelled []
      (p, ok [.u16 p.poolFree])) p

/-- WEIGH_CANCEL (R57). -/
def execWeighCancel (tag : Byte) (s : State) : Host.Outcome State Fault Refusal :=
  request (.weighCancel tag) doWeighCancel s

/-- The capture timer expires: the capture ends MOTION_TIMEOUT with the last obstacle; with none pending
the expiry does nothing (R56). -/
def Lane.captureExpire (p : Lane) : Lane :=
  match p.scale.capture with
  | some c => (p.elapseTo c.expiry).endCapture .motionTimeout [.name c.obstacle.code]
  | none => p

/-- CAPTURE_TIMEOUT (R56). -/
def execCaptureTimeout (s : State) : Host.Outcome State Fault Refusal :=
  s.advance Lane.captureExpire

end Sys2Proof.Machine
end

