-- ==== Sys2Proof/Machine/Calibration.lean ====
section
/-! DEFINITION. Machine/Calibration.lean: CAL mode, the commit and its writes, the calibration switch and
IDENTIFY (chapter 4). -/

namespace Sys2Proof.Machine

/-! ## Entering and leaving CAL (R68 to R71) -/

/-- Changes the metrology store. -/
def Lane.withStore (f : Store → Store) (p : Lane) : Lane :=
  { p with store := f p.store }

/-- CAL_STATE: ENTERED 0 or LEFT 1, and the cause (R68). -/
def Lane.calStateEvent (left : Bool) (cause : CalCause) (p : Lane) : Lane :=
  p.event 0x83#8 [.name (if left then 1 else 0), .name cause.code]

/-- The working set; outside CAL, the values in force. -/
def Lane.workingSet (p : Lane) : CalValues :=
  p.store.working.getD p.inForceOutsideCal

/-- Calibration values in a reply (R27, R69). -/
def CalValues.fields (v : CalValues) : List Field :=
  [.i32 v.z0, .i32 v.gain, .u8 v.filterLength, .u8 v.windowLength, .flag v.tracking]

/-- CAL is left: working set discarded, OUT, CAL_STATE LEFT, then the restart unless the unit is in ADC_FAULT
(R71). -/
def Lane.leaveCal (cause : CalCause) (p : Lane) : Lane :=
  let p := p.withStore fun s => { s with working := none, calState := .out, leaveCause := none }
  let p := p.calStateEvent true cause
  if p.scale.unit = .adcFault then p else p.restart

/-- CAL is entered (R69). -/
def Lane.enterCal (p : Lane) : Lane × Answer :=
  let v := p.inForce
  let p := { p with scale := { p.scale with tare := 0, latch := false } }
  let p := p.withStore fun s => { s with working := some v, calState := .entered }
  (p.calStateEvent false .request, ok (v.fields ++ [.u16 p.store.mirror, .flag p.store.counterValid]))

/-- CAL_ENTER's action and reply. -/
def doCalEnter (p : Lane) : Lane × Answer :=
  checked
    [(p.store.inCal, refusedWith .calMode),
     (p.store.switch = .opened, refusedWith .switchOpen),
     (!p.noSaleOpen, refusedWith .saleOpen)]
    Lane.enterCal p

/-- CAL_ENTER (R69). -/
def execCalEnter (tag : Byte) (s : State) : Host.Outcome State Fault Refusal :=
  request (.calEnter tag) doCalEnter s

/-- CAL_EXIT or the opening taken in WRITING: the state becomes LEAVING (R76). -/
def Lane.leaveAfterWrite (cause : CalCause) (p : Lane) : Lane :=
  p.withStore fun s => { s with calState := .leaving, leaveCause := some cause }

/-- CAL_EXIT's action and reply (R68, R71, R76). -/
def doCalExit (p : Lane) : Lane × Answer :=
  match p.store.calState with
  | .out => (p, refusedWith .notCal)
  | .entered => (p.leaveCal .request, ok [])
  | .writing => (p.leaveAfterWrite .request, accepted [])
  | .leaving => (p, alone .busy)

/-- CAL_EXIT (R71). -/
def execCalExit (tag : Byte) (s : State) : Host.Outcome State Fault Refusal :=
  request (.calExit tag) doCalExit s

/-- The switch opens (R68, R76). -/
def Lane.switchOpens (p : Lane) : Lane :=
  let p := p.withStore fun s => { s with switch := .opened }
  match p.store.calState with
  | .entered => p.leaveCal .switch
  | .writing => p.leaveAfterWrite .switch
  | .out | .leaving => p

/-- CAL_SWITCH_OPENING (R68). -/
def execCalSwitchOpening (s : State) : Host.Outcome State Fault Refusal :=
  s.advance Lane.switchOpens

/-- The switch closes: no state changes (R68). -/
def Lane.switchCloses (p : Lane) : Lane :=
  p.withStore fun s => { s with switch := .closed }

/-- CAL_SWITCH_CLOSING (R68). -/
def execCalSwitchClosing (s : State) : Host.Outcome State Fault Refusal :=
  s.advance Lane.switchCloses

/-! ## Calibration requests (R72 to R74) -/

/-- The checks the calibration requests make first. -/
def Lane.calChecks (p : Lane) : List (Bool × Answer) :=
  [(p.store.calState = .out, refusedWith .notCal),
   (p.store.calState = .writing || p.store.calState = .leaving, alone .busy)]

/-- Replaces the working set. -/
def Lane.setWorking (v : CalValues) (p : Lane) : Lane :=
  p.withStore fun s => { s with working := some v }

/-- The present load becomes the calibrated zero (R72). -/
def Lane.calibrateZero (p : Lane) : Lane × Answer :=
  let v := { p.workingSet with z0 := p.lastCount }
  let p := p.setWorking v
  ({ p with scale := { p.scale with z := p.lastCount, zpu := p.lastCount } }, ok v.fields)

/-- CAL_ZERO's action and reply. -/
def doCalZero (p : Lane) : Lane × Answer :=
  checked p.calChecks (checked [(p.moving, refusedWith .motion)] Lane.calibrateZero) p

/-- CAL_ZERO (R72). -/
def execCalZero (tag : Byte) (s : State) : Host.Outcome State Fault Refusal :=
  request (.calZero tag) doCalZero s

/-- C - Z0 for CAL_SPAN (R73). -/
def Lane.spanCounts (p : Lane) : Int :=
  p.lastCount - p.workingSet.z0

/-- The gain of a mass over a count difference, half up (R73). -/
def spanGain (mass counts : Int) : Nat :=
  roundHalfUp (mass.toNat * 65536) counts.toNat

/-- A gain within 1 to 4,194,303 (R65). -/
def gainOk (g : Nat) : Bool :=
  1 ≤ g && g ≤ 4194303

/-- The gain becomes the working gain; the reply gives the gross of the present count under it (R73). -/
def Lane.calibrateSpan (mass : Int) (p : Lane) : Lane × Answer :=
  let g := spanGain mass p.spanCounts
  let v := { p.workingSet with gain := g }
  (p.setWorking v, ok (v.fields ++ [.i32 (grossOf p.lastCount p.scale.z g)]))

/-- CAL_SPAN's action and reply. -/
def doCalSpan (mass : Int) (p : Lane) : Lane × Answer :=
  checked p.calChecks
    (checked
      [(mass < 1000 || 150000 < mass, alone .badValue),
       (p.moving, refusedWith .motion),
       (p.spanCounts ≤ 0, refusedWith .noLoad),
       (!gainOk (spanGain mass p.spanCounts), refusedWith .spanRange)]
      (Lane.calibrateSpan mass)) p

/-- CAL_SPAN (R73). -/
def execCalSpan (tag : Byte) (mass : Int) (s : State) : Host.Outcome State Fault Refusal :=
  request (.calSpan tag mass) (doCalSpan mass) s

/-- N of 4, 8 or 16 and W from 4 to 32 (R65, R74). -/
def lengthsOk (n w : Nat) : Bool :=
  (n == 4 || n == 8 || n == 16) && 4 ≤ w && w ≤ 32

/-- CAL_SET's action and reply (R74). A tracking byte neither on nor off is answered where R74 names it, after CAL's
checks (log entry 19). -/
def doCalSet (n w : Nat) (tracking : Byte) (p : Lane) : Lane × Answer :=
  checked p.calChecks
    (checked [(!lengthsOk n w || (settingOf tracking).isNone, alone .badValue)]
      (fun p =>
        let v := { p.workingSet with filterLength := n, windowLength := w, tracking := isOn tracking }
        (p.setWorking v, ok v.fields))) p

/-- CAL_SET (R74). -/
def execCalSet (tag : Byte) (filterLength windowLength : Nat) (tracking : Byte) (s : State) :
    Host.Outcome State Fault Refusal :=
  request (.calSet tag filterLength windowLength tracking) (doCalSet filterLength windowLength tracking) s

/-! ## The commit (R75, R76) -/

/-- The commit starts with the write of the counter record (R75). -/
def Lane.startCommit (p : Lane) : Lane × Answer :=
  let n := p.store.mirror + 1
  (p.withStore fun s => { s with calState := .writing, commitTime := p.clock, write := some (.calCounter n) },
    accepted [.u16 n])

/-- CAL_COMMIT's action and reply. -/
def doCalCommit (p : Lane) : Lane × Answer :=
  checked p.calChecks (checked [(9999 ≤ p.store.mirror, refusedWith .counterFull)] Lane.startCommit) p

/-- CAL_COMMIT (R75). -/
def execCalCommit (tag : Byte) (s : State) : Host.Outcome State Fault Refusal :=
  request (.calCommit tag) doCalCommit s

/-- The condition a write that ended FAIL leaves (R65). -/
def leftAs {α : Type} : Unreadable → Stored α
  | .erased => .erased
  | .corrupt => .corrupt

/-- The commit ends: CAL_DONE with the outcome and the part that failed, then IN, or CAL is left (R68, R75,
R76). -/
def Lane.endCommit (outcome : List Field) (p : Lane) : Lane :=
  let stamp := p.store.commitTime
  let p := p.withStore fun s => { s with write := none, commitTime := none }
  let p := p.event 0x84#8 (outcome ++ [.u16 p.store.mirror] ++ stampField stamp)
  match p.store.calState with
  | .writing => p.withStore fun s => { s with calState := .entered }
  | .leaving => p.leaveCal (p.store.leaveCause.getD .request)
  | .out | .entered => p

/-- The outcome OK. -/
def commitOk : List Field :=
  [.name 0]

/-- The outcome WRITE_FAIL with its part, COUNTER 0 or RECORD 1 (R75). -/
def commitFailed (part : Nat) : List Field :=
  [.name 1, .name part]

/-- The write of the counter record ends; with none in flight nothing happens (R75 part 1). -/
def Lane.counterWriteEnd (result : WriteEnd) (p : Lane) : Lane :=
  match p.store.write with
  | some (.calCounter n) =>
    match result with
    | .ok =>
      p.withStore fun s =>
        { s with counterRecord := .valid n, mirror := n, counterValid := true
                 write := some (.calRecord ⟨p.workingSet, s.commitTime⟩) }
    | .fail left =>
      (p.withStore fun s => { s with counterRecord := leftAs left, mirror := 9999, counterValid := false }).endCommit
        (commitFailed 0)
  | _ => p

/-- CAL_COUNTER_WRITE_END (R75). -/
def execCalCounterWriteEnd (result : WriteEnd) (s : State) : Host.Outcome State Fault Refusal :=
  s.advance (Lane.counterWriteEnd result)

/-- The write of the calibration record ends; with none in flight nothing happens (R75 part 2). -/
def Lane.recordWriteEnd (result : WriteEnd) (p : Lane) : Lane :=
  match p.store.write with
  | some (.calRecord r) =>
    match result with
    | .ok => (p.withStore fun s => { s with calRecord := .valid r }).endCommit commitOk
    | .fail left => (p.withStore fun s => { s with calRecord := leftAs left }).endCommit (commitFailed 1)
  | _ => p

/-- CAL_RECORD_WRITE_END (R75). -/
def execCalRecordWriteEnd (result : WriteEnd) (s : State) : Host.Outcome State Fault Refusal :=
  s.advance (Lane.recordWriteEnd result)

/-! ## IDENTIFY (R77) -/

/-- The commit time of the calibration record. -/
def Store.recordTime (s : Store) : Option DateTime :=
  match s.calRecord with
  | .valid r => r.commitTime
  | .erased | .corrupt => none

/-- The reply to IDENTIFY (R77). -/
def Lane.identification (p : Lane) : List Field :=
  let s := p.store
  [.u8 Config.partRevision.toNat, .u8 p.link.identity.toNat, .u16 s.mirror, .flag s.counterValid,
   .name (if s.recordValid then 0 else 1)] ++ stampField s.recordTime ++
    [.name s.calState.code, .name (switchCode s.switch)]

/-- IDENTIFY's action and reply. -/
def doIdentify (p : Lane) : Lane × Answer :=
  (p, ok p.identification)

/-- IDENTIFY (R77). -/
def execIdentify (tag : Byte) (s : State) : Host.Outcome State Fault Refusal :=
  request (.identify tag) doIdentify s

end Sys2Proof.Machine
end

