-- ==== Sys2Proof/Machine/Cards.lean ====
section
/-! DEFINITION. Machine/Cards.lean: the card classifier: account checks, the range table, what becomes of a
swipe result, the card queue and the requests of chapter 6. -/

namespace Sys2Proof.Machine

/-- A swipe result as the decoder hands it over (R91). -/
structure SwipeResult where
  head : Head
  time : Option DateTime
  /-- The result of each track, FORMAT for an OK track that is not usable. -/
  resultA : TrackResult
  resultB : TrackResult
  source : Track
  account : Text
  expiry : Option Text
  service : Option Text
  holder : Option Text
  reversed : Bool
  imageA : Option Text
  imageB : Option Text
deriving DecidableEq, Repr

/-! ## Account checks (R94) -/

/-- The value of a digit character. -/
def digitValue (b : Byte) : Nat :=
  b.toNat - 0x30

/-- The Luhn sum over digits from the rightmost on; doubled says whether the first is in an even position
(R94). -/
def luhnFrom : Bool → Text → Nat
  | _, [] => 0
  | false, d :: rest => digitValue d + luhnFrom true rest
  | true, d :: rest =>
    (if 9 < 2 * digitValue d then 2 * digitValue d - 9 else 2 * digitValue d) + luhnFrom false rest

/-- The Luhn sum of an account number. -/
def luhnSum (account : Text) : Nat :=
  luhnFrom false account.reverse

/-- The length check of R94. -/
def accountLengthOk (account : Text) : Bool :=
  12 ≤ account.length && account.length ≤ 19

/-- The last 4 digits. -/
def lastFour (t : Text) : Text :=
  t.drop (t.length - 4)

/-- The masked account number: the first 6 and the last 4 digits, '*' between (6.3). -/
def maskedAccount (account : Text) : Text :=
  account.take 6 ++ List.replicate (account.length - 10) 0x2A#8 ++ lastFour account

/-! ## The range table (R95 to R97) -/

/-- A wildcard position of a mask, positions counted from 1. -/
def wildcard (mask : BitVec 8) (position : Nat) : Bool :=
  mask.getLsbD (position - 1)

/-- The digits of a prefix, from the given position on, equal the account's but at wildcard positions
(R96). -/
def prefixMatches (mask : BitVec 8) (position : Nat) : (digits : Text) → (account : Text) → Bool
  | [], _ => true
  | d :: ds, account =>
    (wildcard mask position || account.head? == some d) && prefixMatches mask (position + 1) ds account.tail

/-- An entry matches an account under a mask (R96). -/
def RangeEntry.accepts (e : RangeEntry) (mask : BitVec 8) (account : Text) : Bool :=
  e.valid &&
    (match e.lengthMin, e.lengthMax, e.digits with
     | some lo, some hi, some ds => lo ≤ account.length && account.length ≤ hi && prefixMatches mask 1 ds account
     | _, _, _ => false)

/-- The prefix length of an entry, wildcard positions included (R96). -/
def RangeEntry.prefixLength (e : RangeEntry) : Nat :=
  match e.digits with
  | some ds => ds.length
  | none => 0

/-- Entries 22 and 23 carry their own mask (6.2). -/
def ownsMask (i : Fin 24) : Bool :=
  22 ≤ i.val

/-- An entry's wildcard mask: the shared mask for 0 to 21, its own for 22 and 23 (R96). -/
def Cards.maskFor (c : Cards) (i : Fin 24) : BitVec 8 :=
  if ownsMask i then c.table[i].ownMask else c.sharedMask

/-- The entry of an index matches an account. -/
def Cards.matchesAt (c : Cards) (account : Text) (i : Fin 24) : Bool :=
  c.table[i].accepts (c.maskFor i) account

/-- The indexes of the entries that share the mask: all but 22 and 23. -/
def sharedIndexes : List (Fin 24) :=
  (List.finRange 24).filter fun i => !ownsMask i

/-- Of two candidates the one with the longer prefix, the earlier on equal lengths (R97 step 3). -/
def Cards.better (c : Cards) (best : Option (Fin 24)) (i : Fin 24) : Option (Fin 24) :=
  match best with
  | none => some i
  | some b => if c.table[b].prefixLength < c.table[i].prefixLength then some i else some b

/-- The deciding entry of an account, none for class UNKNOWN (R97). -/
def Cards.deciding (c : Cards) (account : Text) : Option (Fin 24) :=
  if c.matchesAt account 22 then some 22
  else if c.matchesAt account 23 then some 23
  else (sharedIndexes.filter (c.matchesAt account)).foldl c.better none

/-! ## The card queue (R102 to R105) -/

/-- Payment classes: DEBIT, CREDIT and GIFT (R105). -/
def CardClass.payment : CardClass → Bool
  | .debit => true
  | .credit => true
  | .gift => true
  | .loyalty => false
  | .blocked => false

/-- Changes the first item that a test finds. -/
def updateFirst {α : Type} (test : α → Bool) (f : α → α) : List α → List α
  | [] => []
  | x :: xs => if test x then f x :: xs else x :: updateFirst test f xs

/-- An entry has a handle. -/
def CardEntry.named (h : Nat) (e : CardEntry) : Bool :=
  e.handle = h

/-- The entry of a handle. -/
def Lane.card (h : Nat) (p : Lane) : Option CardEntry :=
  p.cards.queue.find? (CardEntry.named h)

/-- An entry is READY or FETCHED. -/
def CardEntry.offered (e : CardEntry) : Bool :=
  e.state ≠ .held

/-- The card queue replaced. -/
def Lane.setQueue (q : List CardEntry) (p : Lane) : Lane :=
  { p with cards := { p.cards with queue := q } }

/-- The time left on an entry's hold timer, in µs. -/
def CardEntry.left (now : Nat) (e : CardEntry) : Nat :=
  match e.expiresAt with
  | some t => t - now
  | none => 0

/-- CARD_READY for an entry (R105). -/
def Lane.cardReadyEvent (e : CardEntry) (p : Lane) : Lane :=
  p.event 0x8D#8 [.u8 e.handle, .name e.cls.code, .u8 e.rangeIndex, .text e.masked, .u32 (secondsUp (e.left p.now))]

/-- A HELD entry of a payment class, which promotion may take (R105). -/
def CardEntry.promotable (e : CardEntry) : Bool :=
  e.state = .held && e.cls.payment

/-- Promotion: while the mark is set and no entry is READY or FETCHED, the oldest HELD payment card becomes
READY with CARD_READY (R105). -/
def Lane.promote (p : Lane) : Lane :=
  if p.cards.tenderMark && !p.cards.queue.any CardEntry.offered then
    match p.cards.queue.find? CardEntry.promotable with
    | some e =>
      (p.setQueue (updateFirst CardEntry.promotable (fun x => { x with state := .ready }) p.cards.queue)).cardReadyEvent e
    | none => p
  else p

/-- An entry leaves the queue with all its fields (R104). -/
def Lane.removeCard (h : Nat) (p : Lane) : Lane :=
  p.setQueue (p.cards.queue.eraseP (CardEntry.named h))

/-- The TENDER mark. -/
def Lane.setTenderMark (b : Bool) (p : Lane) : Lane :=
  { p with cards := { p.cards with tenderMark := b } }

/-- The notice that the CURRENT sale has entered TENDER (R105). -/
def Lane.enterTender (p : Lane) : Lane :=
  (p.setTenderMark true).promote

/-- A READY entry returns to HELD. -/
def CardEntry.withdrawn (e : CardEntry) : CardEntry :=
  if e.state = .ready then { e with state := .held } else e

/-- An entry is FETCHED. -/
def CardEntry.isFetched (e : CardEntry) : Bool :=
  e.state = .fetched

/-- The notice that the CURRENT sale has left TENDER: a READY entry returns to HELD, a FETCHED one is removed
with CARD_REMOVED SALE_CLOSED (R105). -/
def Lane.leaveTender (p : Lane) : Lane :=
  let p := p.setTenderMark false
  let q := p.cards.queue.map CardEntry.withdrawn
  match q.find? CardEntry.isFetched with
  | some e => (p.setQueue (q.eraseP CardEntry.isFetched)).event 0x8F#8 [.u8 e.handle, .text e.masked, .name 0]
  | none => p.setQueue q

/-! ## What becomes of a swipe result (R94, R100 to R102) -/

/-- The handle after the last one issued, passing over one in the queue (R102). -/
def Cards.nextHandle (c : Cards) : Nat :=
  let after := fun n => if 255 ≤ n then 1 else n + 1
  let h := after c.handleCounter
  if c.queue.any (CardEntry.named h) then after h else h

/-- The entry of a queued result (R103). -/
def Lane.entryFor (r : SwipeResult) (i : Fin 24) (cls : CardClass) (p : Lane) : CardEntry :=
  { handle := p.cards.nextHandle
    head := r.head
    swipeTime := r.time
    cls := cls
    rangeIndex := i
    masked := maskedAccount r.account
    accountLength := r.account.length
    source := r.source
    expiry := r.expiry
    service := r.service
    holder := r.holder
    reversed := r.reversed
    full := some ⟨r.account, r.imageA, r.imageB⟩
    state := .held
    expiresAt := some (p.now + p.cards.holdTens * 10000000) }

/-- A result is queued, or dropped with CARD_OVERRUN when the queue holds 2 entries (R102). -/
def Lane.queueCard (r : SwipeResult) (i : Fin 24) (cls : CardClass) (p : Lane) : Lane :=
  if 2 ≤ p.cards.queue.length then
    (p.event 0x8C#8 ([.name (headCode r.head)] ++ stampField r.time ++
      [.name cls.code, .text (maskedAccount r.account)])).latch .cardOverrun
  else
    let e := p.entryFor r i cls
    let p := { p with cards := { p.cards with queue := p.cards.queue ++ [e], handleCounter := e.handle } }
    (p.event 0x8B#8 [.u8 e.handle, .name (headCode e.head), .name cls.code, .u8 i, .text e.masked]).promote

/-- LOYALTY_APPLIED (R101, R110). -/
def Lane.loyaltyEvent (txn : Nat) (masked : Text) (head : Head) (p : Lane) : Lane :=
  p.event 0x89#8 [.u16 txn, .text masked, .name (headCode head)]

/-- A sale's loyalty number. -/
def Lane.setLoyalty (i : Fin 6) (account : Text) (p : Lane) : Lane :=
  p.setCtx i { p.ctx i with loyalty := some account }

/-- A result of class LOYALTY: applied to the CURRENT sale, dropped as a duplicate, or queued (R101). -/
def Lane.takeLoyalty (r : SwipeResult) (i : Fin 24) (p : Lane) : Lane :=
  match p.current with
  | none => p.queueCard r i .loyalty
  | some k =>
    match (p.ctx k).loyalty with
    | none => (p.setLoyalty k r.account).loyaltyEvent ((p.ctx k).txn.getD 0) (maskedAccount r.account) r.head
    | some _ => p.event 0x8A#8 [.u16 ((p.ctx k).txn.getD 0), .text (maskedAccount r.account)]

/-- CARD_INVALID with its reason: LENGTH or LUHN (R94). -/
def Lane.cardInvalid (r : SwipeResult) (reason : Nat) (p : Lane) : Lane :=
  p.event 0x86#8 ([.name (headCode r.head)] ++ stampField r.time ++ [.name reason, .u8 r.account.length])

/-- The fields CARD_BLOCKED and CARD_UNKNOWN share (R100). -/
def droppedFields (r : SwipeResult) : List Field :=
  [.name (headCode r.head)] ++ stampField r.time ++ [.text (maskedAccount r.account), .u8 r.account.length]

/-- A swipe result is taken: checked, classified, and dropped, applied or queued (R94, R97, R100 to
R102). -/
def Lane.takeResult (r : SwipeResult) (p : Lane) : Lane :=
  if !accountLengthOk r.account then p.cardInvalid r 0
  else if luhnSum r.account % 10 ≠ 0 then p.cardInvalid r 1
  else
    match p.cards.deciding r.account with
    | none => p.event 0x88#8 (droppedFields r)
    | some i =>
      match p.cards.table[i].cls with
      | none => p.event 0x88#8 (droppedFields r)
      | some .blocked => p.event 0x87#8 (droppedFields r ++ [.u8 i])
      | some .loyalty => p.takeLoyalty r i
      | some .debit => p.queueCard r i .debit
      | some .credit => p.queueCard r i .credit
      | some .gift => p.queueCard r i .gift

/-! ## Held loyalty entries at BEGIN (R110) -/

/-- A HELD entry of class LOYALTY. -/
def CardEntry.heldLoyalty (e : CardEntry) : Bool :=
  e.state = .held && e.cls = .loyalty

/-- The oldest HELD LOYALTY entry is applied to a new sale and removed, with LOYALTY_APPLIED (R110). -/
def Lane.applyHeldLoyalty (i : Fin 6) (p : Lane) : Lane :=
  match p.cards.queue.find? CardEntry.heldLoyalty with
  | none => p
  | some e =>
    match e.full with
    | none => p
    | some d =>
      let p := p.setLoyalty i d.account
      let p := p.setQueue (p.cards.queue.eraseP CardEntry.heldLoyalty)
      (p.loyaltyEvent ((p.ctx i).txn.getD 0) e.masked e.head).promote

/-! ## The hold timers (R106) -/

/-- The hold timer of an entry expires: the entry is removed, CARD_EXPIRED is handed over and promotion is
tried. With no running timer of that handle nothing happens (R106). -/
def Lane.expireCard (h : Nat) (p : Lane) : Lane :=
  match p.card h with
  | none => p
  | some e =>
    match e.expiresAt with
    | none => p
    | some t =>
      (((p.elapseTo t).removeCard h).event 0x8E#8 [.u8 h, .name e.cls.code, .text e.masked]).promote

/-- CARD_EXPIRED (R106). -/
def execCardExpired (handle : Nat) (s : State) : Host.Outcome State Fault Refusal :=
  s.advance (Lane.expireCard handle)

/-- CARD_SETUP's action and reply (R106). -/
def doCardSetup (tens : Nat) (p : Lane) : Lane × Answer :=
  checked [(tens < 1 || 30 < tens, alone .badValue)]
    (fun p => ({ p with cards := { p.cards with holdTens := tens } }, ok [.u8 tens])) p

/-- CARD_SETUP (R106). -/
def execCardSetup (tag : Byte) (tens : Nat) (s : State) : Host.Outcome State Fault Refusal :=
  request (.cardSetup tag tens) (doCardSetup tens) s

/-! ## The range requests (R98, R99) -/

/-- The fields of an entry in the order of R95; the own mask, present only for entries 22 and 23, is an optional field
(log entry 17). -/
def entryFields (i : Fin 24) (e : RangeEntry) : List Field :=
  [.flag e.valid] ++ textField e.digits ++ optional (fun c => [.name (CardClass.code c)]) e.cls ++
    optional (fun n => [.u8 n]) e.lengthMin ++ optional (fun n => [.u8 n]) e.lengthMax ++
    [.flag e.cashbackAllowed, .money e.cashbackLimit] ++
    optional (fun m => [.mask m]) (if ownsMask i then some e.ownMask else none)

/-- A prefix of 1 to 8 digits (R98). -/
def rangeDigitsOk (digits : Option Text) : Bool :=
  match digits with
  | some ds => 1 ≤ ds.length && ds.length ≤ 8 && ds.all isDigit
  | none => false

/-- Length bounds from 12 to 19, minimum not above maximum (R98). -/
def rangeLengthsOk (lo hi : Option Nat) : Bool :=
  match lo, hi with
  | some lo, some hi => 12 ≤ lo && lo ≤ 19 && 12 ≤ hi && hi ≤ 19 && lo ≤ hi
  | _, _ => false

/-- An own mask given only for entries 22 and 23, its positions 1 to 8 (R98). -/
def ownMaskOk (index : Nat) (mask : Option (List Nat)) : Bool :=
  match mask with
  | none => true
  | some ps => 22 ≤ index && ps.all fun p => 1 ≤ p && p ≤ 8

/-- The class the entry's byte names. -/
def rangeClass (e : RangeFields) : Option CardClass :=
  e.cls.bind classOf

/-- The checks of R98 step 3 on an entry with valid set. -/
def rangeFieldsOk (index : Nat) (e : RangeFields) : Bool :=
  rangeDigitsOk e.digits && (rangeClass e).isSome && rangeLengthsOk e.lengthMin e.lengthMax &&
    (e.cashbackAllowed = 0#8 || rangeClass e = some .debit) &&
    0 ≤ e.cashbackLimit && e.cashbackLimit ≤ 50000 && ownMaskOk index e.ownMask

/-- The entry as written: one with valid cleared takes the values of R95 in every field (R98). That 01h
is set, or yes, is log entry 39. -/
def entryOf (e : RangeFields) : RangeEntry :=
  if e.valid = 1#8 then
    { valid := true, digits := e.digits, cls := rangeClass e, lengthMin := e.lengthMin, lengthMax := e.lengthMax,
      cashbackAllowed := e.cashbackAllowed = 1#8, cashbackLimit := e.cashbackLimit,
      ownMask := maskOf (e.ownMask.getD []) }
  else RangeEntry.cleared

/-- The bytes of the entry's two flags and of its class, when it has one, name something; otherwise the entry cannot
be read, whatever its valid flag says (R184 step 2, log entry 19). -/
def rangeReadable (e : RangeFields) : Bool :=
  (settingOf e.valid).isSome && (settingOf e.cashbackAllowed).isSome && e.cls.all fun b => (classOf b).isSome

/-- A FETCHED entry of the queue uses the index (R98 step 4). -/
def Lane.fetchedAt (index : Nat) (p : Lane) : Bool :=
  p.cards.queue.any fun e => e.isFetched && e.rangeIndex.val == index

/-- A range table entry is replaced; the reply carries it as written (R98). -/
def Lane.writeRange (index : Nat) (e : RangeEntry) (p : Lane) : Lane × Answer :=
  if h : index < 24 then
    ({ p with cards := { p.cards with table := p.cards.table.set index e h } }, ok (entryFields ⟨index, h⟩ e))
  else (p, alone .badValue)

/-- RANGE_WRITE's action and reply: an entry that cannot be read is answered before R98's checks (R98, R184). -/
def doRangeWrite (index : Nat) (entry : RangeFields) (p : Lane) : Lane × Answer :=
  if !rangeReadable entry then (p, alone .badValue)
  else
    checked
      [(!p.till.manager, refusedWith .keyPosition),
       (24 ≤ index, alone .badValue),
       (entry.valid = 1#8 && !rangeFieldsOk index entry, alone .badValue),
       (p.fetchedAt index, alone .busy)]
      (Lane.writeRange index (entryOf entry)) p

/-- RANGE_WRITE (R98). -/
def execRangeWrite (tag : Byte) (index : Nat) (entry : RangeFields) (s : State) : Host.Outcome State Fault Refusal :=
  request (.rangeWrite tag index entry) (doRangeWrite index entry) s

/-- RANGE_MASK's action and reply (R99). -/
def doRangeMask (positions : List Nat) (p : Lane) : Lane × Answer :=
  checked
    [(!p.till.manager, refusedWith .keyPosition),
     (!positions.all fun q => 1 ≤ q && q ≤ 8, alone .badValue)]
    (fun p => ({ p with cards := { p.cards with sharedMask := maskOf positions } }, ok [.mask (maskOf positions)])) p

/-- RANGE_MASK (R99). -/
def execRangeMask (tag : Byte) (positions : List Nat) (s : State) : Host.Outcome State Fault Refusal :=
  request (.rangeMask tag positions) (doRangeMask positions) s

/-- The reply to RANGE_READ for an index (R99). -/
def Lane.rangeReport (i : Fin 24) (p : Lane) : List Field :=
  entryFields i p.cards.table[i] ++ [.mask p.cards.sharedMask] ++
    listed (fun e => [.name (CardEntry.state e).code]) (p.cards.queue.filter fun e => e.rangeIndex = i)

/-- RANGE_READ's action and reply (R99). -/
def doRangeRead (index : Nat) (p : Lane) : Lane × Answer :=
  if h : index < 24 then (p, ok (p.rangeReport ⟨index, h⟩)) else (p, alone .badValue)

/-- RANGE_READ (R99). -/
def execRangeRead (tag : Byte) (index : Nat) (s : State) : Host.Outcome State Fault Refusal :=
  request (.rangeRead tag index) (doRangeRead index) s

/-! ## The queue's requests (R107 to R109, R118) -/

/-- The track images, each marked with its track (R107), as a list that gives track A's first (log entry 15). -/
def imageFields (d : FullData) : List Field :=
  listed (fun (t, image) => [.name (trackCode t), .text image])
    ((match d.imageA with | some x => [(Track.a, x)] | none => []) ++
      (match d.imageB with | some x => [(Track.b, x)] | none => []))

/-- The reply to CARD_FETCH (R107). -/
def Lane.fetchReport (e : CardEntry) (p : Lane) : List Field :=
  let d := e.full.getD ⟨[], none, none⟩
  let r := p.cards.table[e.rangeIndex]
  [.u8 e.handle, .name (headCode e.head)] ++ stampField e.swipeTime ++
    [.name e.cls.code, .u8 e.rangeIndex, .name (sourceCode e.source)] ++ textField e.expiry ++
    textField e.service ++ textField e.holder ++ [.flag e.reversed, .text d.account] ++ imageFields d ++
    [.flag r.cashbackAllowed, .money r.cashbackLimit]

/-- A fetched entry: full data erased, hold timer stopped (R107). -/
def CardEntry.fetch (e : CardEntry) : CardEntry :=
  { e with full := none, expiresAt := none, state := .fetched }

/-- The entry of a handle is not in the queue. -/
def Lane.noCard (h : Nat) (p : Lane) : Bool :=
  (p.card h).isNone

/-- The entry of a handle is in a state. -/
def Lane.cardIs (h : Nat) (s : CardState) (p : Lane) : Bool :=
  (p.card h).any fun e => e.state = s

/-- A READY entry is fetched (R107). -/
def Lane.fetchCard (h : Nat) (p : Lane) : Lane × Answer :=
  match p.card h with
  | none => (p, refusedWith .noCard)
  | some e => (p.setQueue (updateFirst (CardEntry.named h) CardEntry.fetch p.cards.queue), ok (p.fetchReport e))

/-- CARD_FETCH's action and reply (R107). -/
def doCardFetch (h : Nat) (p : Lane) : Lane × Answer :=
  checked
    [(!handleOk h, alone .badValue),
     (p.noCard h, refusedWith .noCard),
     (!p.cardIs h .ready, refusedWith .notReady)]
    (Lane.fetchCard h) p

/-- CARD_FETCH (R107). -/
def execCardFetch (tag : Byte) (handle : Nat) (s : State) : Host.Outcome State Fault Refusal :=
  request (.cardFetch tag handle) (doCardFetch handle) s

/-- An entry in CARD_LIST (R108). -/
def CardEntry.listFields (now : Nat) (e : CardEntry) : List Field :=
  [.u8 e.handle, .name e.state.code, .name (headCode e.head)] ++ stampField e.swipeTime ++
    [.name e.cls.code, .u8 e.rangeIndex, .text e.masked, .u8 e.accountLength] ++ textField e.expiry ++
    [.flag e.reversed, .flag e.holder.isSome, .flag e.full.isSome] ++
    optional (fun t => [.u32 (secondsUp (t - now))]) e.expiresAt

/-- CARD_LIST's action and reply (R108). -/
def doCardList (p : Lane) : Lane × Answer :=
  (p, ok ([.flag p.cards.tenderMark] ++ listed (CardEntry.listFields p.now) p.cards.queue))

/-- CARD_LIST (R108). -/
def execCardList (tag : Byte) (s : State) : Host.Outcome State Fault Refusal :=
  request (.cardList tag) doCardList s

/-- CARD_DISCARD's action and reply (R109). -/
def doCardDiscard (h : Nat) (p : Lane) : Lane × Answer :=
  checked
    [(!handleOk h, alone .badValue),
     (p.noCard h, refusedWith .noCard)]
    (fun p =>
      let p := p.removeCard h
      (p.promote, ok [.u8 p.cards.queue.length])) p

/-- CARD_DISCARD (R109). -/
def execCardDiscard (tag : Byte) (handle : Nat) (s : State) : Host.Outcome State Fault Refusal :=
  request (.cardDiscard tag handle) (doCardDiscard handle) s

/-- A declined entry is removed: CARD_DECLINED, then promotion (R118). -/
def Lane.declineCard (h : Nat) (p : Lane) : Lane × Answer :=
  match p.card h with
  | none => (p, refusedWith .noCard)
  | some e =>
    let p := p.removeCard h
    let p := p.event 0x90#8 [.u8 h, .name e.cls.code, .text e.masked, .u16 p.currentTxn]
    (p.promote, ok [.u8 p.cards.queue.length])

/-- DECLINE_CARD's action and reply (R118). -/
def doDeclineCard (h : Nat) (p : Lane) : Lane × Answer :=
  checked
    [(!handleOk h, alone .badValue),
     (p.noCard h, refusedWith .noCard),
     (p.cardIs h .held, refusedWith .notReady)]
    (Lane.declineCard h) p

/-- DECLINE_CARD (R118). -/
def execDeclineCard (tag : Byte) (handle : Nat) (s : State) : Host.Outcome State Fault Refusal :=
  request (.declineCard tag handle) (doDeclineCard handle) s

end Sys2Proof.Machine
end

