-- ==== Sys2Proof/Machine/Drawers.lean ====
section
/-! DEFINITION. Machine/Drawers.lean: the till controller: kicks and the solenoid driver, drawer sensors,
alarms, the key switch, the assistance button, the lane light and the requests of chapter 8. -/

namespace Sys2Proof.Machine

/-! ## Drawer records -/

/-- Changes a drawer record and judges the lane light afresh (R146). -/
def Lane.onDrawer (d : Drawer) (f : DrawerRecord → DrawerRecord) (p : Lane) : Lane :=
  p.setDrawer d (f (p.drawer d))

/-- The alarm timer's expiry for a drawer opened at a moment; none with the alarm time OFF (R141). -/
def Till.alarmFrom (since : Nat) (t : Till) : Option Nat :=
  if t.alarmSeconds = 0 then none else some (since + t.alarmSeconds * 1000000)

/-- A drawer enters OPEN, with open since and the alarm timer from that moment (R131). -/
def Lane.enterOpen (d : Drawer) (p : Lane) : Lane :=
  p.onDrawer d fun r =>
    { r with state := .opened, kick := none, confirmUntil := none, openSince := some p.now
             alarmAt := p.till.alarmFrom p.now }

/-- A drawer takes a state other than OPEN and OPEN_LONG: no time open and no timer runs. -/
def DrawerRecord.leaveTo (s : DrawerState) (r : DrawerRecord) : DrawerRecord :=
  { r with state := s, kick := none, confirmUntil := none, openSince := none, alarmAt := none }

/-- A drawer takes CLOSED or OPEN from its closed sensor (R131, R138). -/
def Lane.settleDrawer (d : Drawer) (p : Lane) : Lane :=
  match (p.drawer d).closed with
  | .shut => p.onDrawer d (DrawerRecord.leaveTo .closed)
  | .opened => p.enterOpen d

/-- PRESENCE is latched and DRAWER_PRESENCE handed over (R131). -/
def Lane.presenceEvent (d : Drawer) (l : TrayLevel) (p : Lane) : Lane :=
  (p.latch (.presence d)).event 0x94#8 [.name (drawerCode d), .name (trayCode l)]

/-- FORCED is latched and DRAWER_FORCED handed over (R131). -/
def Lane.forcedEvent (d : Drawer) (p : Lane) : Lane :=
  (p.latch (.forced d)).event 0x93#8 [.name (drawerCode d)]

/-- The time a drawer has been open, in whole seconds rounded down (R131). -/
def DrawerRecord.secondsOpen (now : Nat) (r : DrawerRecord) : Nat :=
  match r.openSince with
  | some t => wholeSeconds (now - t)
  | none => 0

/-- The drawer becomes CLOSED with DRAWER_CLOSED (R131). -/
def Lane.closeDrawer (d : Drawer) (p : Lane) : Lane :=
  let seconds := (p.drawer d).secondsOpen p.now
  (p.onDrawer d (DrawerRecord.leaveTo .closed)).event 0x95#8 [.name (drawerCode d), .u32 seconds]

/-- An OPEN drawer becomes OPEN_LONG: ALARM is latched and DRAWER_ALARM handed over (R141). -/
def Lane.openTooLong (d : Drawer) (p : Lane) : Lane :=
  ((p.onDrawer d fun r => { r with state := .openLong, alarmAt := none }).latch (.alarm d)).event 0x96#8
    [.name (drawerCode d), .u8 p.till.alarmSeconds]

/-! ## The solenoid driver (R133, R135) -/

/-- Changes the solenoid driver and the waiting place. -/
def Lane.setDriver (driver : Option Driving) (waiting : Option Drawer) (p : Lane) : Lane :=
  { p with till := { p.till with driver := driver, waiting := waiting } }

/-- A drawer's pulse starts (R135). -/
def Lane.startPulse (d : Drawer) (p : Lane) : Lane :=
  (p.setDriver (some ⟨d, p.now⟩) none).onDrawer d fun r =>
    { r with state := .kicking, kick := r.kick.map fun k => { k with openMark := false } }

/-- A kick is accepted: its pulse starts with the driver IDLE, otherwise the drawer is PENDING in the waiting
place (R134). -/
def Lane.acceptKick (basis : KickBasis) (requester : Requester) (d : Drawer) (p : Lane) : Lane :=
  let p := p.onDrawer d fun r =>
    { r with kick := some ⟨basis, requester, p.till.pulseMs, false⟩ }
  match p.till.driver with
  | none => p.startPulse d
  | some _ => (p.setDriver p.till.driver (some d)).onDrawer d fun r => { r with state := .pending }

/-- A pulse has ended: its end is reported to the weighing unit, and a waiting drawer's pulse starts
(R133). -/
def Lane.releaseSolenoid (p : Lane) : Lane :=
  let p := p.joltHold
  match p.till.waiting with
  | some w => p.startPulse w
  | none => p.setDriver none none

/-- The time a pulse was driven, in whole ms and at most its length (R129, log entry 21). -/
def drivenMs (pulseMs since now : Nat) : Nat :=
  min pulseMs ((now - since) / 1000)

/-- The pulse length of a drawer's kick. -/
def DrawerRecord.pulse (r : DrawerRecord) : Nat :=
  match r.kick with
  | some k => k.pulseMs
  | none => 0

/-- The drive report is written (R129). -/
def Lane.writeDrive (g : Driving) (c : DriveCurrent) (p : Lane) : Lane :=
  p.onDrawer g.drawer fun r =>
    let driven := if c = .normal then r.pulse else drivenMs r.pulse g.since p.now
    { r with drive := some ⟨r.pulse, driven, c⟩ }

/-! ## Kick endings (R137) -/

/-- A drive report's fields: pulse length asked, time driven, current (R129). -/
def DriveReport.fields (d : DriveReport) : List Field :=
  [.u16 d.pulseMs, .u8 d.drivenMs, .name d.current.code]

/-- The grant as 0 or 1. -/
def grantField (g : Bool) : Field :=
  .u8 (if g then 1 else 0)

/-- DRAWER_DONE for a kick that has ended: the drive report, one optional group (log entry 15), when the kick reached
its pulse, and the fault reason for FAULT (R137). -/
def Lane.drawerDone (d : Drawer) (k : Kick) (o : KickOutcome) (pulsed : Bool) (p : Lane) : Lane :=
  let r := p.drawer d
  let reason : List Field :=
    match o, r.faultReason with
    | .fault, some f => [.name f.code]
    | _, _ => []
  p.event 0x92#8
    ([.name (drawerCode d), .name o.code, .name k.basis.code, .name k.requester.code, grantField r.grant] ++
      optional DriveReport.fields (if pulsed then r.drive else none) ++ reason)

/-- DRAWER_DONE for the kick the drawer held before its ending. -/
def Lane.reportKick (d : Drawer) (k : Option Kick) (o : KickOutcome) (pulsed : Bool) (p : Lane) : Lane :=
  match k with
  | some k => p.drawerDone d k o pulsed
  | none => p

/-- A kick of basis GRANT that ends OPENED consumes the grant (R132). -/
def DrawerRecord.consumeGrant (k : Option Kick) (r : DrawerRecord) : DrawerRecord :=
  match k with
  | some { basis := .grant, .. } => { r with grant := false }
  | _ => r

/-- A kick ends OPENED: the drawer becomes OPEN, with DRAWER_DONE (R137). -/
def Lane.kickOpened (d : Drawer) (p : Lane) : Lane :=
  let k := (p.drawer d).kick
  ((p.onDrawer d (DrawerRecord.consumeGrant k)).enterOpen d).reportKick d k .opened true

/-! ## The pulse's endings (R135, R138) -/

/-- The pulse of the drawer driven reaches its full length (R135). With the driver IDLE nothing happens. -/
def Lane.pulseEnd (p : Lane) : Lane :=
  match p.till.driver with
  | none => p
  | some g =>
    let p := p.elapseTo (g.since + (p.drawer g.drawer).pulse * 1000)
    let opened := (p.drawer g.drawer).kick.any fun k => k.openMark
    let p := (p.writeDrive g .normal).releaseSolenoid
    if opened then
      let p := p.kickOpened g.drawer
      if (p.drawer g.drawer).closed = .shut then p.closeDrawer g.drawer else p
    else p.onDrawer g.drawer fun r => { r with state := .confirming, confirmUntil := some (p.now + 500000) }

/-- KICK_PULSE_END (R135). -/
def execKickPulseEnd (s : State) : Host.Outcome State Fault Refusal :=
  s.advance Lane.pulseEnd

/-- The current sensed at a current fault (R138). -/
def faultCurrent : CurrentFault → DriveCurrent
  | .short => .short
  | .openCoil => .none

/-- The fault reason of a current fault (R138). -/
def faultReasonOf : CurrentFault → DrawerFault
  | .short => .solenoidShort
  | .openCoil => .solenoidOpen

/-- The earliest moment of a current fault: an open coil is judged 5 ms after the pulse started (R138). -/
def faultMoment (f : CurrentFault) (since : Nat) : Nat :=
  match f with
  | .short => since
  | .openCoil => since + 5000

/-- A current fault cuts the pulse: the drawer becomes FAULT and its kick ends FAULT (R138). With the driver
IDLE nothing happens. -/
def Lane.currentFault (f : CurrentFault) (p : Lane) : Lane :=
  match p.till.driver with
  | none => p
  | some g =>
    let p := p.elapseTo (faultMoment f g.since)
    let k := (p.drawer g.drawer).kick
    let p := (p.writeDrive g (faultCurrent f)).releaseSolenoid
    (p.onDrawer g.drawer fun r => { r.leaveTo .fault with faultReason := some (faultReasonOf f) }).reportKick
      g.drawer k .fault true

/-- SOLENOID_CURRENT_FAULT (R138). -/
def execSolenoidCurrentFault (fault : CurrentFault) (s : State) : Host.Outcome State Fault Refusal :=
  s.advance (Lane.currentFault fault)

/-! ## Timers (R136, R141) -/

/-- The confirm window expires: the kick ends JAMMED; with no window running nothing happens (R136). -/
def Lane.confirmExpire (d : Drawer) (p : Lane) : Lane :=
  match (p.drawer d).confirmUntil with
  | none => p
  | some t =>
    let p := p.elapseTo t
    let k := (p.drawer d).kick
    (p.onDrawer d (DrawerRecord.leaveTo .closed)).reportKick d k .jammed true

/-- CONFIRM_WINDOW_EXPIRY (R136). -/
def execConfirmWindowExpiry (drawer : Drawer) (s : State) : Host.Outcome State Fault Refusal :=
  s.advance (Lane.confirmExpire drawer)

/-- The alarm timer of a drawer expires; with none running nothing happens (R141). -/
def Lane.alarmExpire (d : Drawer) (p : Lane) : Lane :=
  match (p.drawer d).alarmAt with
  | none => p
  | some t => (p.elapseTo t).openTooLong d

/-- ALARM_TIMER_EXPIRY (R141). -/
def execAlarmTimerExpiry (drawer : Drawer) (s : State) : Host.Outcome State Fault Refusal :=
  s.advance (Lane.alarmExpire drawer)

/-! ## Sensor events (R131, R135, R136, R139) -/

/-- The tray present sensor's level. -/
def Lane.setTray (d : Drawer) (l : TrayLevel) (p : Lane) : Lane :=
  p.onDrawer d fun r => { r with tray := l }

/-- The closed sensor's level. -/
def Lane.setClosed (d : Drawer) (l : ClosedLevel) (p : Lane) : Lane :=
  p.onDrawer d fun r => { r with closed := l }

/-- The drawer becomes ABSENT with DRAWER_PRESENCE REMOVED, and then the DRAWER_DONE of a kick that was in
flight (R131, R139). -/
def Lane.becomeAbsent (d : Drawer) (pulsed : Bool) (p : Lane) : Lane :=
  let k := (p.drawer d).kick
  ((p.onDrawer d (DrawerRecord.leaveTo .absent)).presenceEvent d .removed).reportKick d k .removed pulsed

/-- A KICKING drawer's pulse is cut, with current CUT (R139, R148). -/
def Lane.cutPulse (p : Lane) : Lane :=
  match p.till.driver with
  | some g => (p.writeDrive g .cut).releaseSolenoid
  | none => p

/-- The tray is removed (R131, R139). A level already taken is no change. -/
def Lane.trayRemoved (d : Drawer) (p : Lane) : Lane :=
  if (p.drawer d).tray = .removed then p
  else
    let p := p.setTray d .removed
    match (p.drawer d).state with
    | .closed | .opened | .openLong | .fault => p.becomeAbsent d false
    | .pending => (p.setDriver p.till.driver none).becomeAbsent d false
    | .kicking => p.cutPulse.becomeAbsent d true
    | .confirming => p.becomeAbsent d true
    | .absent => p

/-- TRAY_REMOVED (R131). -/
def execTrayRemoved (drawer : Drawer) (s : State) : Host.Outcome State Fault Refusal :=
  s.advance (Lane.trayRemoved drawer)

/-- The tray is inserted (R131). -/
def Lane.trayInserted (d : Drawer) (p : Lane) : Lane :=
  if (p.drawer d).tray = .present then p
  else
    let p := p.setTray d .present
    if (p.drawer d).state = .absent then (p.settleDrawer d).presenceEvent d .present else p

/-- TRAY_INSERTED (R131). -/
def execTrayInserted (drawer : Drawer) (s : State) : Host.Outcome State Fault Refusal :=
  s.advance (Lane.trayInserted drawer)

/-- The closed sensor opens (R131, R135, R136, R139). -/
def Lane.closedOpens (d : Drawer) (p : Lane) : Lane :=
  if (p.drawer d).closed = .opened then p
  else
    let p := p.setClosed d .opened
    match (p.drawer d).state with
    | .closed => (p.enterOpen d).forcedEvent d
    | .pending =>
      let k := (p.drawer d).kick
      (((p.setDriver p.till.driver none).enterOpen d).forcedEvent d).reportKick d k .withdrawn false
    | .kicking => p.onDrawer d fun r => { r with kick := r.kick.map fun k => { k with openMark := true } }
    | .confirming => p.kickOpened d
    | .opened | .openLong | .absent | .fault => p

/-- CLOSED_SENSOR_OPENS (R131). -/
def execClosedSensorOpens (drawer : Drawer) (s : State) : Host.Outcome State Fault Refusal :=
  s.advance (Lane.closedOpens drawer)

/-- The closed sensor closes (R131, R135). -/
def Lane.closedCloses (d : Drawer) (p : Lane) : Lane :=
  if (p.drawer d).closed = .shut then p
  else
    let p := p.setClosed d .shut
    match (p.drawer d).state with
    | .opened | .openLong => p.closeDrawer d
    | .closed | .pending | .kicking | .confirming | .absent | .fault => p

/-- CLOSED_SENSOR_CLOSES (R131). -/
def execClosedSensorCloses (drawer : Drawer) (s : State) : Host.Outcome State Fault Refusal :=
  s.advance (Lane.closedCloses drawer)

/-! ## The key switch, the button and the light (R144 to R146) -/

/-- A new key position is taken, with KEY_SWITCH (R144). -/
def Lane.keyChange (k : KeyPosition) (p : Lane) : Lane :=
  if p.till.key = k then p
  else { p with till := { p.till with key := k } }.event 0x97#8 [.name (keyCode p.till.key), .name (keyCode k)]

/-- KEY_POSITION_CHANGE (R144). -/
def execKeyPositionChange (position : KeyPosition) (s : State) : Host.Outcome State Fault Refusal :=
  s.advance (Lane.keyChange position)

/-- The press count after a press: 1 with the latch clear, otherwise 1 more up to 255 (R145). -/
def Till.pressed (t : Till) : Nat :=
  if t.assist then min 255 (t.presses + 1) else 1

/-- A press of the assistance button (R145). -/
def Lane.assistPress (p : Lane) : Lane :=
  (p.withTill { p.till with assist := true, presses := p.till.pressed }).event 0x98#8 [.u8 p.till.pressed]

/-- ASSIST_BUTTON_PRESS (R145). -/
def execAssistButtonPress (s : State) : Host.Outcome State Fault Refusal :=
  s.advance Lane.assistPress

/-- The commanded and the shown mode. -/
def Lane.lightFields (p : Lane) : List Field :=
  [.name p.till.commanded.code, .name p.till.shown.code]

/-- ASSIST_CLEAR's action and reply. -/
def doAssistClear (p : Lane) : Lane × Answer :=
  let p := p.withTill { p.till with assist := false, presses := 0 }
  (p, ok p.lightFields)

/-- ASSIST_CLEAR (R145). -/
def execAssistClear (tag : Byte) (s : State) : Host.Outcome State Fault Refusal :=
  request (.assistClear tag) doAssistClear s

/-- LIGHT's action and reply. -/
def doLight (mode : Byte) (p : Lane) : Lane × Answer :=
  match lightOf mode with
  | none => (p, alone .badValue)
  | some m =>
    let p := p.withTill { p.till with commanded := m }
    (p, ok p.lightFields)

/-- LIGHT (R146). -/
def execLight (tag : Byte) (mode : Byte) (s : State) : Host.Outcome State Fault Refusal :=
  request (.light tag mode) (doLight mode) s

/-! ## Kick requests (R134, R140) -/

/-- A drawer in a state that answers BUSY (R134 step 5). -/
def DrawerState.engaged : DrawerState → Bool
  | .pending | .kicking | .confirming | .opened | .openLong => true
  | .absent | .closed | .fault => false

/-- The checks of the drawer's state that DRAWER_OPEN, NO_SALE and auto-open share (R134, R140). -/
def Lane.kickChecks (d : Drawer) (p : Lane) : List (Bool × Answer) :=
  [((p.drawer d).state = .absent, refusedWith .absent),
   ((p.drawer d).state = .fault, refusedWith .fault),
   ((p.drawer d).state.engaged, alone .busy)]

/-- DRAWER_OPEN's action and reply. -/
def doDrawerOpen (drawer : Byte) (p : Lane) : Lane × Answer :=
  match drawerOf drawer with
  | none => (p, alone .badValue)
  | some d =>
    checked [(p.till.locked, refusedWith .keyPosition)]
      (checked (p.kickChecks d)
        (checked [(!(p.drawer d).grant, refusedWith .noGrant)]
          (fun p =>
            let p := p.acceptKick .grant .terminal d
            (p, accepted [.name (p.drawer d).state.code])))) p

/-- DRAWER_OPEN (R134). -/
def execDrawerOpen (tag : Byte) (drawer : Byte) (s : State) : Host.Outcome State Fault Refusal :=
  request (.drawerOpen tag drawer) (doDrawerOpen drawer) s

/-- NO_SALE's action and reply. -/
def doNoSale (drawer : Byte) (p : Lane) : Lane × Answer :=
  match drawerOf drawer with
  | none => (p, alone .badValue)
  | some d =>
    checked
      [(!p.till.manager, refusedWith .keyPosition),
       (!p.noSaleOpen, refusedWith .saleOpen)]
      (checked (p.kickChecks d) (fun p => (p.acceptKick .noSale .terminal d, accepted []))) p

/-- NO_SALE (R140). -/
def execNoSale (tag : Byte) (drawer : Byte) (s : State) : Host.Outcome State Fault Refusal :=
  request (.noSale tag drawer) (doNoSale drawer) s

/-- DRAWER_CLEAR_FAULT's action and reply. -/
def doDrawerClearFault (drawer : Byte) (p : Lane) : Lane × Answer :=
  match drawerOf drawer with
  | none => (p, alone .badValue)
  | some d =>
    checked [((p.drawer d).state ≠ .fault, alone .wrongState)]
      (fun p =>
        let p := p.settleDrawer d
        (p, ok [.name (p.drawer d).state.code])) p

/-- DRAWER_CLEAR_FAULT (R138). -/
def execDrawerClearFault (tag : Byte) (drawer : Byte) (s : State) : Host.Outcome State Fault Refusal :=
  request (.drawerClearFault tag drawer) (doDrawerClearFault drawer) s

/-! ## Settings, the active drawer and the report (R141 to R143, R147) -/

/-- A pulse length the setting allows (R142). -/
def pulseOk (ms : Nat) : Bool :=
  40 ≤ ms && ms ≤ 200 && ms % 10 == 0

/-- An alarm time the setting allows; 0 is OFF (R142, R193). -/
def alarmOk (seconds : Nat) : Bool :=
  seconds == 0 || seconds == 15 || seconds == 30 || seconds == 60 || seconds == 120

/-- The new alarm time acts on an OPEN drawer's timer; an instant already passed makes it OPEN_LONG (R141). -/
def Lane.retime (d : Drawer) (p : Lane) : Lane :=
  match (p.drawer d).state, (p.drawer d).openSince with
  | .opened, some since =>
    match p.till.alarmFrom since with
    | none => p.onDrawer d fun r => { r with alarmAt := none }
    | some t => if t ≤ p.now then p.openTooLong d else p.onDrawer d fun r => { r with alarmAt := some t }
  | _, _ => p

/-- DRAWER_SETUP's action and reply (R142). Drawer A's timer is treated before drawer B's, so of two drawers that
become OPEN_LONG the DRAWER_ALARM of A comes first (log entry 23). An interlock byte neither ON nor OFF is answered
in R142's second step (log entry 19). -/
def doDrawerSetup (pulseMs alarmSeconds : Nat) (interlock : Byte) (p : Lane) : Lane × Answer :=
  checked
    [(!p.till.manager, refusedWith .keyPosition),
     (!pulseOk pulseMs || !alarmOk alarmSeconds || (settingOf interlock).isNone, alone .badValue)]
    (fun p =>
      let on := isOn interlock
      let p := { p with till := { p.till with pulseMs := pulseMs, alarmSeconds := alarmSeconds, interlock := on } }
      ((p.retime .a).retime .b, ok [.u16 pulseMs, .u8 alarmSeconds, .flag on])) p

/-- DRAWER_SETUP (R142). -/
def execDrawerSetup (tag : Byte) (pulseMs alarmSeconds : Nat) (interlock : Byte) (s : State) :
    Host.Outcome State Fault Refusal :=
  request (.drawerSetup tag pulseMs alarmSeconds interlock) (doDrawerSetup pulseMs alarmSeconds interlock) s

/-- DRAWER_SELECT's action and reply. -/
def doDrawerSelect (drawer : Byte) (p : Lane) : Lane × Answer :=
  match drawerOf drawer with
  | none => (p, alone .badValue)
  | some d =>
    checked [(!p.noSaleOpen, refusedWith .saleOpen)]
      (fun p => ({ p with till := { p.till with active := d } }, ok [.name (drawerCode d)])) p

/-- DRAWER_SELECT (R143). -/
def execDrawerSelect (tag : Byte) (drawer : Byte) (s : State) : Host.Outcome State Fault Refusal :=
  request (.drawerSelect tag drawer) (doDrawerSelect drawer) s

/-- A kick's fields in DRAWER_STATUS. -/
def Kick.fields (k : Kick) : List Field :=
  [.name k.basis.code, .name k.requester.code, .u16 k.pulseMs]

/-- A drawer in DRAWER_STATUS, its flags as the latched flag set holds them (R129, R147). -/
def Lane.drawerFields (d : Drawer) (p : Lane) : List Field :=
  let r := p.drawer d
  [.name r.state.code, .name (trayCode r.tray), .name (closedCode r.closed), grantField r.grant] ++
    optional Kick.fields r.kick ++ optional (fun f => [.name (DrawerFault.code f)]) r.faultReason ++
    optional DriveReport.fields r.drive ++ optional (fun t => [.u32 (wholeSeconds (p.now - t))]) r.openSince ++
    [.flag (p.link.latched (.presence d)), .flag (p.link.latched (.forced d)), .flag (p.link.latched (.alarm d))]

/-- IDLE or DRIVING, and the drawer driven. -/
def driverFields (g : Option Driving) : List Field :=
  [.name (if g.isSome then 1 else 0)] ++ optional (fun x => [.name (drawerCode (Driving.drawer x))]) g

/-- The reply to DRAWER_STATUS (R147): drawer A's fields, then drawer B's, without a count (log entry 15). -/
def Lane.tillReport (p : Lane) : List Field :=
  let t := p.till
  p.drawerFields .a ++ p.drawerFields .b ++ driverFields t.driver ++
    optional (fun d => [.name (drawerCode d)]) t.waiting ++
    [.name (drawerCode t.active), .u16 t.pulseMs, .u8 t.alarmSeconds, .flag t.interlock, .name (keyCode t.key),
     .flag t.assist, .u8 t.presses, .name t.commanded.code, .name t.shown.code]

/-- DRAWER_STATUS's action and reply. -/
def doDrawerStatus (p : Lane) : Lane × Answer :=
  (p, ok p.tillReport)

/-- DRAWER_STATUS (R147). -/
def execDrawerStatus (tag : Byte) (s : State) : Host.Outcome State Fault Refusal :=
  request (.drawerStatus tag) doDrawerStatus s

/-! ## What settlement asks of the till controller (R121, R122) -/

/-- A grant is requested on a drawer (R132). -/
def Lane.setGrant (d : Drawer) (p : Lane) : Lane :=
  p.onDrawer d fun r => { r with grant := true }

/-- The auto-open outcome (R122). -/
inductive AutoOpen where
  | notAsked
  | kickStarted
  | refused (r : Reason)
deriving DecidableEq, Repr

/-- The outcome's bytes: one byte, and the reason code of a refusal (R122). -/
def AutoOpen.fields : AutoOpen → List Field
  | .notAsked => [.name 0]
  | .kickStarted => [.name 1]
  | .refused r => [.name 2, .reason r]

/-- Auto-open asks for a kick as DRAWER_OPEN does, with requester SETTLEMENT (R122, R134). -/
def Lane.autoKick (d : Drawer) (p : Lane) : Lane × AutoOpen :=
  if p.till.locked then (p, .refused .keyPosition)
  else
    match (p.drawer d).state with
    | .absent => (p, .refused .absent)
    | .fault => (p, .refused .fault)
    | .pending | .kicking | .confirming | .opened | .openLong => (p, .refused .busy)
    | .closed => if (p.drawer d).grant then (p.acceptKick .grant .settlement d, .kickStarted) else (p, .refused .noGrant)

end Sys2Proof.Machine
end

