-- ==== Sys2Proof/Machine/Receipt.lean ====
section
/-! DEFINITION. Machine/Receipt.lean: the receipt composer: amounts and lines, the lines of each kind of job,
the ask for the next line, and the header requests (chapter 9). -/

namespace Sys2Proof.Machine

/-! ## Amounts and texts (R151, R152) -/

/-- A text of the manual as bytes. -/
def str (s : String) : Text :=
  s.toList.map fun c => BitVec.ofNat 8 c.toNat

/-- A digit's character. -/
def digitByte (n : Nat) : Byte :=
  BitVec.ofNat 8 (0x30 + n % 10)

/-- The decimal digits of a number before those already written; the first argument bounds their count. -/
def decimalFrom : Nat → Nat → Text → Text
  | 0, _, tail => tail
  | fuel + 1, n, tail =>
    if n < 10 then digitByte n :: tail else decimalFrom fuel (n / 10) (digitByte n :: tail)

/-- A number in decimal without leading zeros (R152). -/
def decimal (n : Nat) : Text :=
  decimalFrom (n.log2 + 1) n []

/-- Spaces. -/
def blanks (n : Nat) : Text :=
  List.replicate n 0x20#8

/-- Zeros on the left, up to a width. -/
def zeroPadded (width : Nat) (digits : Text) : Text :=
  List.replicate (width - digits.length) 0x30#8 ++ digits

/-- A magnitude with a point before its last x digits (R152). -/
def pointed (x : Nat) (n : Nat) : Text :=
  if x = 0 then decimal n
  else
    let digits := zeroPadded (x + 1) (decimal n)
    digits.take (digits.length - x) ++ [0x2E#8] ++ digits.drop (digits.length - x)

/-- An amount in minor units under the fixed exponent (R152). -/
def amountText (x : Nat) (amount : Int) : Text :=
  (if amount < 0 then [0x2D#8] else []) ++ pointed x amount.natAbs

/-- A weight in grams as kilograms with three decimals (R152). -/
def weightText (grams : Int) : Text :=
  pointed 3 grams.natAbs

/-- Two digits, zero-padded. -/
def twoDigits (n : Nat) : Text :=
  zeroPadded 2 (decimal n)

/-- hh:mm, or --:-- where the time is absent (R152). -/
def timeText : Option DateTime → Text
  | some t => twoDigits t.hour ++ str ":" ++ twoDigits t.minute
  | none => str "--:--"

/-- A text line of 32 positions: left text from position 1, right text ending at position 32 (R151). -/
def textLine (left right : Text) : Text :=
  left ++ blanks (32 - left.length - right.length) ++ right

/-- A class by its name. -/
def classText : CardClass → Text
  | .debit => str "DEBIT"
  | .credit => str "CREDIT"
  | .gift => str "GIFT"
  | .loyalty => str "LOYALTY"
  | .blocked => str "BLOCKED"

/-! ## The lines of a job (R153 to R158, R161) -/

/-- Places numbered from a first one. -/
def numbered {α : Type} : Nat → List α → List (Nat × α)
  | _, [] => []
  | n, a :: as => (n, a) :: numbered (n + 1) as

/-- The header section (R153). -/
def headerLines (header : List Text) : List (Place × Text) :=
  (numbered 1 header).map fun (n, l) => (.header n, textLine l [])

/-- The lines of an item record (R154). -/
def itemLines (x : Nat) (n : Nat) (r : ItemRecord) : List (Place × Text) :=
  match r.detail with
  | .keyed quantity unit =>
    [(.item n 1, textLine r.description (amountText x r.amount))] ++
      (if 1 < quantity then
        [(.item n 2, textLine (str "  " ++ decimal quantity ++ str " x " ++ amountText x unit) [])]
      else [])
  | .weighed net _ division price =>
    [(.item n 1, textLine r.description (str "e=" ++ decimal division ++ str "g")),
     (.item n 2, textLine (weightText net ++ str " kg @ " ++ amountText x price ++ str "/kg")
       (amountText x r.amount))]
  | .void item =>
    [(.item n 1, textLine (str "VOID OF ITEM " ++ decimal item) []),
     (.item n 2, textLine r.description (amountText x r.amount))]

/-- The items section. -/
def itemsLines (x : Nat) (items : List ItemRecord) : List (Place × Text) :=
  (numbered 1 items).flatMap fun (n, r) => itemLines x n r

/-- What a tender adds to the tender sum (R112). -/
def Tender.settlementValue (t : Tender) : Int :=
  match t.card with
  | some c => t.amount + c.cashback
  | none => t.amount

/-- A tender's cashback, 0 for CASH. -/
def Tender.cashback (t : Tender) : Int :=
  match t.card with
  | some c => c.cashback
  | none => 0

/-- The lines of a tender (R155). -/
def tenderLines (x : Nat) (n : Nat) (t : Tender) : List (Place × Text) :=
  match t.card with
  | none => [(.tender n 1, textLine (str "CASH") (amountText x t.amount))]
  | some c =>
    [(.tender n 1, textLine (classText c.cls ++ str " ****" ++ c.lastDigits) (amountText x t.settlementValue)),
     (.tender n 2, textLine (str "  AUTH " ++ c.approval) [])]

/-- The tenders section. -/
def tendersLines (x : Nat) (tenders : List Tender) : List (Place × Text) :=
  (numbered 1 tenders).flatMap fun (n, t) => tenderLines x n t

/-- The cashback of the settling tender, the last of the list (R116, R155). -/
def Context.cashback (c : Context) : Int :=
  match c.tenders.getLast? with
  | some t => t.cashback
  | none => 0

/-- The change section (R155). -/
def changeLines (x : Nat) (c : Context) : List (Place × Text) :=
  (if 0 < c.cashback then [(.cashback, textLine (str "CASHBACK") (amountText x c.cashback))] else []) ++
    (if c.tenders.isEmpty then [(.change, textLine (str "REFUND") (amountText x c.changeDue))]
     else [(.change, textLine (str "CHANGE") (amountText x (c.changeDue - c.cashback)))])

/-- A loyalty number with every digit but the last 4 written as '*' (R156). -/
def starred (number : Text) : Text :=
  List.replicate (number.length - 4) 0x2A#8 ++ number.drop (number.length - 4)

/-- The loyalty section (R156). -/
def loyaltyLines (c : Context) : List (Place × Text) :=
  match c.loyalty with
  | some number => [(.loyalty, textLine (str "LOYALTY " ++ starred number) [])]
  | none => []

/-- The footer, with the counter mirror as four digits (R156). -/
def footerLine (mirror : Nat) : Place × Text :=
  (.footer, textLine (str "SCALE CAL " ++ zeroPadded 4 (decimal mirror)) [])

/-- The restart section (R153). -/
def restartLines (c : Context) : List (Place × Text) :=
  if c.restarted then [(.restart, textLine (str "NUMBERING RESTARTED") [])] else []

/-- The line that names the sale (R153, R157). -/
def saleLine (title : Text) (c : Context) : Place × Text :=
  (.sale, textLine (title ++ decimal (c.txn.getD 0)) (timeText c.closeTime))

/-- The lines of a receipt (R153). -/
def receiptLines (header : List Text) (x : Nat) (mirror : Nat) (c : Context) : List (Place × Text) :=
  headerLines header ++ [saleLine (str "SALE ") c] ++ restartLines c ++ itemsLines x c.items ++
    [(.subtotal, textLine (str "SUBTOTAL") (amountText x c.subtotal))] ++ tendersLines x c.tenders ++
    changeLines x c ++ loyaltyLines c ++ [footerLine mirror]

/-- The lines of a void slip (R157). -/
def voidSlipLines (header : List Text) (x : Nat) (c : Context) : List (Place × Text) :=
  headerLines header ++ [saleLine (str "CANCELLED SALE ") c] ++ restartLines c ++ itemsLines x c.items ++
    [(.noPayment, textLine (str "NO PAYMENT") [])]

/-- The lines of a copy (R158). -/
def copyLines (header : List Text) (x : Nat) (mirror : Nat) (c : Context) : List (Place × Text) :=
  (if c.saleState = some .cancelled then voidSlipLines header x c else receiptLines header x mirror c) ++
    [(.copy, textLine (str "COPY") [])]

/-- The lines of a slip (R161). -/
def slipLines (lines : List Text) : List (Place × Text) :=
  (numbered 1 lines).map fun (n, l) => (.slip n, textLine l [])

/-- The context a position names; a FREE one's fields when it names none. -/
def Lane.namedCtx (i : Option (Fin 6)) (p : Lane) : Context :=
  match i with
  | some i => p.ctx i
  | none => Context.freed

/-- The lines of the job at a position, from the state as it stands (R150, R153). -/
def Lane.jobLines (q : Position) (p : Lane) : List (Place × Text) :=
  match q.kind with
  | .receipt => receiptLines q.header q.exponent p.store.mirror (p.namedCtx q.context)
  | .voidSlip => voidSlipLines q.header q.exponent (p.namedCtx q.context)
  | .copy => copyLines q.header q.exponent p.store.mirror (p.namedCtx q.context)
  | .slip => slipLines (p.printer.slip.getD [])

/-! ## The composer's position (R150) -/

/-- The position made for a job's first line: header and exponent fixed, the line count 0. -/
def Lane.positionFor (j : Job) (p : Lane) : Position :=
  { kind := j.kind, context := j.context, header := p.composer.header, exponent := p.composer.exponent,
    place := .header 0, lines := 0 }

/-- Writes the position. -/
def Lane.setPosition (q : Option Position) (p : Lane) : Lane :=
  { p with composer := { p.composer with position := q } }

/-- The print engine asks for the next line of a job: the line and its number in the job, or none for END,
which makes the position absent (R150). -/
def Lane.askLine (j : Job) (p : Lane) : Lane × Option (Text × Nat) :=
  let q := p.composer.position.getD (p.positionFor j)
  match (p.jobLines q)[q.lines]? with
  | some (place, text) =>
    (p.setPosition (some { q with place := place, lines := q.lines + 1 }), some (text, q.lines + 1))
  | none => (p.setPosition none, none)

/-! ## Header requests (R162) -/

/-- The header lines and the exponent as a reply holds them. -/
def headerFields (header : List Text) (exponent : Nat) : List Field :=
  listed (fun l => [.text l]) header ++ [.u8 exponent]

/-- HEADER_SET's action and reply. -/
def doHeaderSet (lines : List Text) (exponent : Nat) (p : Lane) : Lane × Answer :=
  checked
    [(!p.till.manager, refusedWith .keyPosition),
     (4 < lines.length || !lines.all lineOk || 3 < exponent, alone .badValue)]
    (fun p => ({ p with composer := { p.composer with header := lines, exponent := exponent } },
      ok (headerFields lines exponent))) p

/-- HEADER_SET (R162). -/
def execHeaderSet (tag : Byte) (lines : List Text) (exponent : Nat) (s : State) :
    Host.Outcome State Fault Refusal :=
  request (.headerSet tag lines exponent) (doHeaderSet lines exponent) s

/-- HEADER_READ's action and reply. -/
def doHeaderRead (p : Lane) : Lane × Answer :=
  (p, ok (headerFields p.composer.header p.composer.exponent))

/-- HEADER_READ (R162). -/
def execHeaderRead (tag : Byte) (s : State) : Host.Outcome State Fault Refusal :=
  request (.headerRead tag) doHeaderRead s

end Sys2Proof.Machine
end

