-- ==== Sys2Proof/Machine/Print.lean ====
section
/-! DEFINITION. Machine/Print.lean: the print engine: the queue and its jobs, dot rows, pauses, tail feed and
cut, job end, and the requests of chapter 10; with REPRINT and SLIP of chapter 9, which append jobs. -/

namespace Sys2Proof.Machine

/-! ## Updates of the print engine -/

/-- Changes the print engine. -/
def Lane.withPrinter (f : Printer → Printer) (p : Lane) : Lane :=
  { p with printer := f p.printer }

/-- The head of the print queue (R164). -/
def Lane.headJob (p : Lane) : Option Job :=
  p.printer.queue.head?

/-- The head job's state. -/
def Printer.setHead (s : JobState) (e : Printer) : Printer :=
  match e.queue with
  | [] => e
  | j :: rest => { e with queue := { j with state := s } :: rest }

/-- The line copy, line number and row are cleared (R174). -/
def Printer.clearLine (e : Printer) : Printer :=
  { e with line := none, lineNumber := 0, phase := .line, row := 0, tailRows := 0 }

/-- The kind, context and transaction number of a job, the last two absent for a SLIP (R174). -/
def Job.fields (j : Job) : List Field :=
  [.name j.kind.code] ++ optional (fun i => [.u8 (Fin.val i)]) j.context ++ optional (fun n => [.u16 n]) j.txn

/-! ## Dot rows (R168, R169) -/

/-- The solenoid-energised condition (R133). -/
def Lane.energised (p : Lane) : Bool :=
  p.till.driver.isSome

/-- The strobe group limit of a row that begins now (R168). -/
def Lane.strobeLimit (p : Lane) : Nat :=
  if p.energised then 16 else 64

/-- The strobe time in µs at a head temperature (R168). -/
def strobeTime (t : Int) : Nat :=
  let x := 480 - 4 * (t - 25)
  if x < 280 then 280 else if 640 < x then 640 else x.toNat

/-- The number of a row's groups: ceil(B / L), 0 when B is 0 (R168). -/
def strobeGroups (black limit : Nat) : Nat :=
  (black + limit - 1) / limit

/-- The row period in µs: 1,000 at least, doubled at 65 °C or more (R168). -/
def rowPeriod (t : Int) (groups : Nat) : Nat :=
  let base := max 1000 (groups * strobeTime t + 100)
  if 65 ≤ t then 2 * base else base

/-- The strobe groups of a row's black dots, given from the left: the first L of them, the next L, and so on, the last
group holding the rest (R169). -/
def groupDots (dots : List Nat) (limit : Nat) : List (List Nat) :=
  (List.range (strobeGroups dots.length limit)).map fun k => (dots.drop (k * limit)).take limit

/-- The figures of a row that begins at a moment, from the places of its black dots (R168, R169). -/
def rowFigures (now : Nat) (t : Int) (dots : List Nat) (limit : Nat) : RowFigures :=
  let groups := strobeGroups dots.length limit
  { black := dots.length, limit := limit, groups := groups, fires := groupDots dots limit, strobe := strobeTime t,
    period := rowPeriod t groups, ends := now + rowPeriod t groups }

/-- The dots being fired at an elapsed time within the row: the groups one after another from the row start, each for
the strobe time; none once the last has been fired (R169, log entry 38). -/
def RowFigures.firing (now : Nat) (f : RowFigures) : List Nat :=
  f.fires.getD ((now + f.period - f.ends) / f.strobe) []

/-- A dot of a line's row, by its place from the left, is black: it is in the cell of a character that is no space, and
the font makes it black there (R168, log entry 8). -/
def dotBlack (text : Text) (row place : Nat) : Bool :=
  match text[place / 14]? with
  | some c => c ≠ 0x20#8 && (Config.fontRow c row).getLsbD (place % 14)
  | none => false

/-- The places of the black dots of a line's row, from the left; rows 24 to 29 are blank (R168). -/
def rowDots (line : Text) (row : Nat) : List Nat :=
  if row < 24 then (List.range (14 * line.length)).filter (dotBlack line row) else []

/-- A row begins with its figures fixed (R168); the limit is held for PRINT_STATUS (R178). -/
def Lane.beginRow (dots : List Nat) (p : Lane) : Lane :=
  p.withPrinter fun e =>
    { e with figures := some (rowFigures p.now e.temperature dots p.strobeLimit), limit := p.strobeLimit }

/-! ## Pauses (R170) -/

/-- The first condition that stands at a job's row start (R170). -/
def Printer.rowObstacle (e : Printer) : Option PauseReason :=
  if e.paper = .out then some .paperOut
  else if e.cover = .opened then some .coverOpen
  else if e.supply = .low then some .supplyLow
  else if !e.sensorValid then some .headSensor
  else if 75 ≤ e.temperature then some .headHot
  else none

/-- The phase, and the row of a line or the tail row count; a cut has no row (R170, R173). -/
def Printer.placeFields (e : Printer) : List Field :=
  match e.phase with
  | .line => [.name e.phase.code, .u8 e.row]
  | .tail => [.name e.phase.code, .u8 e.tailRows]
  | .cut => [.name e.phase.code]

/-- The head job and the engine pause with a reason, with PRINT_PAUSED (R170, R173). -/
def Lane.pauseHead (r : PauseReason) (p : Lane) : Lane :=
  match p.headJob with
  | none => p
  | some j =>
    (p.withPrinter fun e => { e.setHead (.paused r) with engine := .paused }).event 0x99#8
      ([.name r.code] ++ j.fields ++ [.u16 p.printer.lineNumber] ++ p.printer.placeFields)

/-- The black dots of the row that stands next: those of the line copy, none in the tail. -/
def Printer.nextDots (e : Printer) : List Nat :=
  match e.phase, e.line with
  | .line, some l => rowDots l e.row
  | _, _ => []

/-- A row start of the head job: a pause, or a row in flight (R168, R170). -/
def Lane.startRow (p : Lane) : Lane :=
  match p.printer.rowObstacle with
  | some r => p.pauseHead r
  | none => p.beginRow p.printer.nextDots

/-- The composer is asked for the job's next line: its row 0 starts, or at END the tail feed (R168, R173). -/
def Lane.nextLine (j : Job) (p : Lane) : Lane :=
  match p.askLine j with
  | (p, some (text, number)) =>
    (p.withPrinter fun e => { e with line := some text, lineNumber := number, phase := .line, row := 0 }).startRow
  | (p, none) => (p.withPrinter fun e => { e with phase := .tail, row := 0, tailRows := 0 }).startRow

/-- The head job starts, or the engine becomes IDLE (R165, R174 step 6). -/
def Lane.startHead (p : Lane) : Lane :=
  match p.headJob with
  | none => p.withPrinter fun e => { e with engine := .idle }
  | some j => (p.withPrinter fun e => { e.setHead .printing with engine := .running }).nextLine j

/-! ## The queue (R123, R164) -/

/-- A job that names a context, QUEUED, with the context's transaction number (R164). -/
def Lane.jobFor (k : JobKind) (i : Fin 6) (p : Lane) : Job :=
  { kind := k, context := some i, txn := (p.ctx i).txn, state := .queued }

/-- A job joins the queue at its end. -/
def Lane.enqueue (j : Job) (p : Lane) : Lane :=
  p.withPrinter fun e => { e with queue := e.queue ++ [j] }

/-- A job is appended, and starts when the engine is IDLE (R165). -/
def Lane.appendJob (j : Job) (p : Lane) : Lane :=
  if p.printer.engine = .idle then (p.enqueue j).startHead else p.enqueue j

/-- The print queue holds 4 jobs. -/
def Lane.queueFull (p : Lane) : Bool :=
  4 ≤ p.printer.queue.length

/-- A RECEIPT or VOID_SLIP goes to the print queue, or to the settlement backlog when the queue holds 4 jobs
(R123). -/
def Lane.placeJob (k : JobKind) (i : Fin 6) (p : Lane) : Lane :=
  if p.queueFull then { p with sale := { p.sale with backlog := some ⟨k, i⟩ } } else p.appendJob (p.jobFor k i)

/-- Notice of a free place: a backlog job moves to the end of the queue (R123). -/
def Lane.freePlace (p : Lane) : Lane :=
  match p.sale.backlog with
  | none => p
  | some b =>
    if p.queueFull then p
    else { p.enqueue (p.jobFor b.kind b.context) with sale := { p.sale with backlog := none } }

/-! ## Job end (R23, R174) -/

/-- The context that was LAST_PRINTED becomes FREE, or PRINT_HELD when pinned (R23). -/
def Lane.retireLastPrinted (p : Lane) : Lane :=
  match p.firstOf .lastPrinted with
  | none => p
  | some i => if (p.ctx i).pin = 0 then p.freeCtx i else p.setCtx i { p.ctx i with role := .printHeld }

/-- The end of a RECEIPT or VOID_SLIP job (R23). -/
def Lane.receiptEnd (i : Fin 6) (p : Lane) : Lane :=
  let p := p.retireLastPrinted
  p.setCtx i { p.ctx i with role := .lastPrinted }

/-- The end of a COPY job (R23). -/
def Lane.copyEnd (i : Fin 6) (p : Lane) : Lane :=
  let p := p.setCtx i { p.ctx i with pin := 0 }
  if (p.ctx i).role = .printHeld then p.freeCtx i else p

/-- The report of a job's end: to the sale engine, or the slip buffer emptied (R174 steps 2 and 3). -/
def Lane.jobReport (j : Job) (p : Lane) : Lane :=
  match j.kind, j.context with
  | .receipt, some i => p.receiptEnd i
  | .voidSlip, some i => p.receiptEnd i
  | .copy, some i => p.copyEnd i
  | _, _ => p.withPrinter fun e => { e with slip := none }

/-- PRINT_DONE with the outcome COMPLETED, the state DONE, the lines printed and the jobs left (R174). -/
def Lane.printDone (j : Job) (lines : Nat) (p : Lane) : Lane :=
  p.event 0x9B#8 (j.fields ++
    [.name 0, .name (JobState.code .done), .u16 lines, .u8 p.printer.queue.length])

/-- PRINT_DONE with the outcome ABORTED: the kind, the outcome, the state the job was in and the lines printed whole,
and nothing else (R176). That the lines take 2 bytes, as they do with COMPLETED, is the model's choice: only a slip, of
at most 40 lines, is aborted, and R193's width by range could be 1 byte (DESIGN CHOICE, log entry 15). -/
def Lane.printAborted (j : Job) (lines : Nat) (p : Lane) : Lane :=
  p.event 0x9B#8 [.name j.kind.code, .name 1, .name j.state.code, .u16 lines]

/-- The head job's cut ended OK (R174). -/
def Lane.jobEnd (p : Lane) : Lane :=
  match p.headJob with
  | none => p
  | some j =>
    let lines := p.printer.lineNumber
    let p := p.withPrinter fun e => { e.clearLine with queue := e.queue.tail }
    ((p.jobReport j).freePlace.printDone j lines).startHead

/-! ## Tail, cut and feed (R173, R177) -/

/-- The cut starts: cover, then supply, then 300 ms of the cutter motor (R173). -/
def Lane.startCut (p : Lane) : Lane :=
  let p := p.withPrinter fun e => { e with phase := .cut }
  if p.printer.cover = .opened then p.pauseHead .coverOpen
  else if p.printer.supply = .low then p.pauseHead .supplyLow
  else p.withPrinter fun e => { e with cutUntil := some (p.now + 300000) }

/-- A row of the head job has ended (R168, R173). -/
def Lane.jobRowEnd (p : Lane) : Lane :=
  match p.printer.phase, p.headJob with
  | .line, some j =>
    if p.printer.row + 1 < 30 then (p.withPrinter fun e => { e with row := e.row + 1 }).startRow else p.nextLine j
  | .tail, some _ =>
    let p := p.withPrinter fun e => { e with tailRows := e.tailRows + 1 }
    if p.printer.tailRows < 40 then p.startRow else p.startCut
  | _, _ => p

/-- The feed ends: FEED_DONE with the outcome, the reason of STOPPED and the rows fed; then the head job
starts or the engine is IDLE (R177). -/
def Lane.feedEnd (fed : Nat) (stopped : Option PauseReason) (p : Lane) : Lane :=
  let outcome : List Field :=
    match stopped with
    | some r => [.name 0, .name r.code]
    | none => [.name 1]
  ((p.withPrinter fun e => { e with feed := none }).event 0x9C#8 (outcome ++ [.u8 fed])).startHead

/-- A row of a FEED has ended (R177). -/
def Lane.feedRowEnd (f : Feed) (p : Lane) : Lane :=
  let fed := f.fed + 1
  let p := p.withPrinter fun e => { e with feed := some { f with fed := fed } }
  if f.asked ≤ fed then p.feedEnd fed none
  else if p.printer.paper = .out then p.feedEnd fed (some .paperOut)
  else if p.printer.cover = .opened then p.feedEnd fed (some .coverOpen)
  else p.beginRow []

/-- The row or cut in flight of a removed slip has ended (R176). -/
def Lane.drained (p : Lane) : Lane :=
  (p.withPrinter fun e => { e with draining := false }).startHead

/-- The dot row in flight ends when its period has passed; with none in flight nothing happens. -/
def Lane.rowEnd (p : Lane) : Lane :=
  match p.printer.figures with
  | none => p
  | some r =>
    let p := (p.elapseTo r.ends).withPrinter fun e => { e with figures := none }
    match p.printer.draining, p.printer.feed with
    | true, _ => p.drained
    | false, some f => p.feedRowEnd f
    | false, none => p.jobRowEnd

/-- DOT_ROW_END (R168). -/
def execDotRowEnd (s : State) : Host.Outcome State Fault Refusal :=
  s.advance Lane.rowEnd

/-- The 300 ms of the cut in flight end; with none in flight nothing happens (R173, R176). -/
def Lane.cutEnd (p : Lane) : Lane :=
  match p.printer.cutUntil with
  | none => p
  | some t =>
    let p := (p.elapseTo t).withPrinter fun e => { e with cutUntil := none }
    if p.printer.draining then p.drained
    else if p.printer.cutterHome then p.jobEnd
    else p.pauseHead .cutterJam

/-- CUT_END (R173). -/
def execCutEnd (s : State) : Host.Outcome State Fault Refusal :=
  s.advance Lane.cutEnd

/-! ## Sensors and the head temperature (R166, R167, R171) -/

/-- The head job is paused with a reason. -/
def Lane.pausedFor (p : Lane) : Option PauseReason :=
  match p.headJob with
  | some { state := .paused r, .. } => some r
  | _ => none

/-- A pause ends: the job PRINTING, the engine RUNNING, the line from row 0 or the tail from its first row,
with PRINT_RESUMED and its cause, COOLED 0 or REQUEST 1 (R171, R172). -/
def Lane.endPause (cause : Nat) (p : Lane) : Lane :=
  (p.withPrinter fun e => { e.setHead .printing with engine := .running, row := 0, tailRows := 0 }).event
    0x9A#8 [.name cause]

/-- The restart after a pause: a row start, or the cut from its checks (R171, R172). -/
def Lane.restartHead (p : Lane) : Lane :=
  if p.printer.phase = .cut then p.startCut else p.startRow

/-- A reading within -20 to 120 °C (R167). -/
def readingValid (t : Int) : Bool :=
  -20 ≤ t && t ≤ 120

/-- The temperature input gives a reading (R167). -/
def Printer.read (t : Int) (e : Printer) : Printer :=
  if readingValid t then { e with temperature := t, sensorValid := true, lastReading := t }
  else { e with sensorValid := false, lastReading := t }

/-- A reading is taken at the end of a 100 ms period; a valid one of 60 °C or less ends a HEAD_HOT pause
(R167, R171). -/
def Lane.temperatureReading (t : Int) (p : Lane) : Lane :=
  let p := p.elapseTo p.printer.nextReading
  let p := p.withPrinter fun e => { e.read t with nextReading := p.now + 100000 }
  if p.pausedFor = some .headHot ∧ readingValid t ∧ t ≤ 60 then (p.endPause 0).restartHead else p

/-- HEAD_TEMP_READING (R167). -/
def execHeadTempReading (reading : Int) (s : State) : Host.Outcome State Fault Refusal :=
  s.advance (Lane.temperatureReading reading)

/-- A change of a printer input is taken; NORMAL to NEAR_END gives PAPER_NEAR_END (R166, R173). -/
def Lane.printerInput (i : PrinterInput) (p : Lane) : Lane :=
  match i with
  | .paper l => p.withPrinter fun e => { e with paper := l }
  | .nearEnd l =>
    let q := p.withPrinter fun e => { e with nearEnd := l }
    if p.printer.nearEnd = .normal ∧ l = .nearEnd then q.event 0x9D#8 [] else q
  | .cover l => p.withPrinter fun e => { e with cover := l }
  | .supply l => p.withPrinter fun e => { e with supply := l }
  | .cutterHome h => p.withPrinter fun e => { e with cutterHome := h }

/-- PRINTER_SENSOR_CHANGE (R166). -/
def execPrinterSensorChange (input : PrinterInput) (s : State) : Host.Outcome State Fault Refusal :=
  s.advance (Lane.printerInput input)

/-! ## PRINT_RESUME and the restart (R172) -/

/-- The pause came at a cut (R172, R173). -/
def Printer.atCut (e : Printer) : Bool :=
  e.phase = .cut

/-- PRINT_RESUME accepted: the reply carries the job's kind, context and line number (R172). -/
def Lane.resumePrint (p : Lane) : Lane × Answer :=
  match p.headJob with
  | none => (p, alone .wrongState)
  | some j =>
    let p := (p.endPause 1).withPrinter fun e => { e with restartDue := true }
    (p, ok ([.name j.kind.code] ++ optional (fun i => [.u8 (Fin.val i)]) j.context ++ [.u16 p.printer.lineNumber]))

/-- PRINT_RESUME's action and reply. -/
def doPrintResume (p : Lane) : Lane × Answer :=
  checked
    [(p.printer.engine ≠ .paused, alone .wrongState),
     (p.pausedFor = some .headHot, refusedWith .headHot),
     (p.pausedFor = some .cutterJam && !p.printer.cutterHome, refusedWith .cutterJam),
     (!p.printer.atCut && p.printer.paper = .out, refusedWith .paperOut),
     (p.printer.cover = .opened, refusedWith .coverOpen),
     (p.printer.supply = .low, refusedWith .supplyLow),
     (!p.printer.atCut && !p.printer.sensorValid, refusedWith .headSensor)]
    Lane.resumePrint p

/-- PRINT_RESUME (R172). -/
def execPrintResume (tag : Byte) (s : State) : Host.Outcome State Fault Refusal :=
  request (.printResume tag) doPrintResume s

/-- The restart that follows PRINT_RESUME's reply; without one due nothing happens (R172). -/
def Lane.printRestart (p : Lane) : Lane :=
  if p.printer.restartDue then (p.withPrinter fun e => { e with restartDue := false }).restartHead else p

/-- PRINT_RESTART (R172). -/
def execPrintRestart (s : State) : Host.Outcome State Fault Refusal :=
  s.advance Lane.printRestart

/-! ## PRINT_ABORT (R176) -/

/-- A SLIP job. -/
def Job.isSlip (j : Job) : Bool :=
  j.kind = .slip

/-- The lines printed whole of a removed slip: those before the line in flight, every line in the tail or
cut, none while QUEUED (R176). -/
def Printer.wholeLines (s : JobState) (e : Printer) : Nat :=
  match s, e.phase with
  | .queued, _ => 0
  | _, .line => e.lineNumber - 1
  | _, _ => e.lineNumber

/-- A row or a cut is in flight. -/
def Printer.inFlight (e : Printer) : Bool :=
  e.figures.isSome || e.cutUntil.isSome

/-- The slip leaves the queue with its buffer; one that was the head job takes the line copy, the composer's
position and a due restart with it, and leaves its row or cut in flight to run out (R163, R176). -/
def Lane.removeSlip (j : Job) (p : Lane) : Lane :=
  let p := p.withPrinter fun e => { e with queue := e.queue.eraseP Job.isSlip, slip := none }
  match j.state with
  | .queued | .done => p
  | .printing | .paused _ =>
    (p.setPosition none).withPrinter fun e =>
      { e.clearLine with draining := e.inFlight, restartDue := false }

/-- The next head job after a removal: it starts when the removed job was the head and nothing of it is in
flight (R165, R176). -/
def Lane.afterRemoval (j : Job) (p : Lane) : Lane :=
  match j.state with
  | .queued | .done => p
  | .printing | .paused _ => if p.printer.draining then p else p.startHead

/-- The SLIP job is removed (R176); the reply counts the jobs left. -/
def Lane.abortSlip (p : Lane) : Lane × Answer :=
  match p.printer.queue.find? Job.isSlip with
  | none => (p, refusedWith .legalJob)
  | some j =>
    let lines := p.printer.wholeLines j.state
    let p := ((p.removeSlip j).freePlace.printAborted j lines).afterRemoval j
    (p, ok [.u8 p.printer.queue.length])

/-- PRINT_ABORT's action and reply. -/
def doPrintAbort (p : Lane) : Lane × Answer :=
  checked
    [(p.printer.queue.isEmpty, refusedWith .noJob),
     (!p.printer.queue.any Job.isSlip, refusedWith .legalJob)]
    Lane.abortSlip p

/-- PRINT_ABORT (R176). -/
def execPrintAbort (tag : Byte) (s : State) : Host.Outcome State Fault Refusal :=
  request (.printAbort tag) doPrintAbort s

/-! ## FEED and PRINT_STATUS (R177, R178) -/

/-- FEED's action and reply. -/
def doFeed (rows : Nat) (p : Lane) : Lane × Answer :=
  checked
    [(rows < 1 || 255 < rows, alone .badValue),
     (p.printer.engine ≠ .idle, alone .busy),
     (p.printer.paper = .out, refusedWith .paperOut),
     (p.printer.cover = .opened, refusedWith .coverOpen)]
    (fun p =>
      ((p.withPrinter fun e => { e with engine := .feeding, feed := some ⟨rows, 0⟩ }).beginRow [], accepted [])) p

/-- FEED (R177). -/
def execFeed (tag : Byte) (rows : Nat) (s : State) : Host.Outcome State Fault Refusal :=
  request (.feed tag rows) (doFeed rows) s

/-- The pause reason of a PAUSED job. -/
def JobState.reason : JobState → Option PauseReason
  | .paused r => some r
  | _ => none

/-- A job in PRINT_STATUS. -/
def Job.statusFields (j : Job) : List Field :=
  j.fields ++ [.name j.state.code] ++ optional (fun r => [.name (PauseReason.code r)]) j.state.reason

/-- The head job's place, while RUNNING or PAUSED (R178). -/
def Printer.headPlace (e : Printer) : Option Printer :=
  match e.queue with
  | [] => none
  | j :: _ => if j.state = .queued then none else some e

/-- The row of a line or the tail row count; none at a cut. -/
def Printer.rowCount (e : Printer) : Option Nat :=
  match e.phase with
  | .line => some e.row
  | .tail => some e.tailRows
  | .cut => none

/-- The reply to PRINT_STATUS (R178). That the slip's number of lines is an optional field, absent with the slip buffer
empty and not a count of 0, and that the cutter home level is a flag, 1 for home, are the model's choice (DESIGN
CHOICE, log entry 15). -/
def Lane.printReport (p : Lane) : List Field :=
  let e := p.printer
  [.name e.engine.code] ++ listed Job.statusFields e.queue ++
    optional (fun h => [.u16 (Printer.lineNumber h)]) e.headPlace ++
    optional (fun h => [.name (Printer.phase h).code]) e.headPlace ++
    optional (fun n => [.u8 n]) (e.headPlace.bind Printer.rowCount) ++
    optional (fun f => [.u8 (Feed.asked f)]) e.feed ++ optional (fun f => [.u8 (Feed.fed f)]) e.feed ++
    [.flag e.slip.isSome] ++ optional (fun l => [.u8 (List.length l)]) e.slip ++
    [.i8 e.temperature, .flag e.sensorValid, .i8 e.lastReading] ++
    [.name (paperCode e.paper), .name (nearEndCode e.nearEnd), .name (coverCode e.cover),
     .name (supplyCode e.supply), .flag e.cutterHome] ++
    [.flag p.energised, .u8 e.limit]

/-- PRINT_STATUS's action and reply. -/
def doPrintStatus (p : Lane) : Lane × Answer :=
  (p, ok p.printReport)

/-- PRINT_STATUS (R178). -/
def execPrintStatus (tag : Byte) (s : State) : Host.Outcome State Fault Refusal :=
  request (.printStatus tag) doPrintStatus s

/-! ## REPRINT and SLIP (R159, R160) -/

/-- The LAST_PRINTED context is pinned and its COPY job appended (R159). On an IDLE engine the job starts before the
reply, so a PRINT_PAUSED of its first row precedes the ACCEPTED (log entry 23). -/
def Lane.reprint (p : Lane) : Lane × Answer :=
  match p.firstOf .lastPrinted with
  | none => (p, refusedWith .nothingToCopy)
  | some i =>
    let p := p.setCtx i { p.ctx i with pin := 1 }
    (p.appendJob (p.jobFor .copy i), accepted [.u8 i, .u16 ((p.ctx i).txn.getD 0)])

/-- The LAST_PRINTED context is pinned. -/
def Lane.copyWaiting (p : Lane) : Bool :=
  match p.firstOf .lastPrinted with
  | some i => (p.ctx i).pin ≠ 0
  | none => false

/-- REPRINT's action and reply. -/
def doReprint (p : Lane) : Lane × Answer :=
  checked
    [((p.firstOf .lastPrinted).isNone, refusedWith .nothingToCopy),
     (p.copyWaiting, alone .busy),
     (p.queueFull, alone .full)]
    Lane.reprint p

/-- REPRINT (R159). -/
def execReprint (tag : Byte) (s : State) : Host.Outcome State Fault Refusal :=
  request (.reprint tag) doReprint s

/-- SLIP's action and reply (R160). On an IDLE engine the job starts before the reply, so a PRINT_PAUSED of its first
row precedes the ACCEPTED (log entry 23). -/
def doSlip (lines : List Text) (p : Lane) : Lane × Answer :=
  checked
    [(lines.length < 1 || 40 < lines.length || !lines.all lineOk, alone .badValue),
     (p.printer.slip.isSome, alone .busy),
     (p.queueFull, alone .full)]
    (fun p =>
      ((p.withPrinter fun e => { e with slip := some lines }).appendJob ⟨.slip, none, none, .queued⟩,
        accepted [.u8 lines.length])) p

/-- SLIP (R160). -/
def execSlip (tag : Byte) (lines : List Text) (s : State) : Host.Outcome State Fault Refusal :=
  request (.slip tag lines) (doSlip lines) s

end Sys2Proof.Machine
end

