-- ==== Sys2Proof/Machine/Settlement.lean ====
section
/-! DEFINITION. Machine/Settlement.lean: settlement, tenders and the requests of chapter 7. -/

namespace Sys2Proof.Machine

/-! ## Settlement (R119 to R126) -/

/-- A CASH tender. -/
def Tender.isCash (t : Tender) : Bool :=
  t.card.isNone

/-- The tender list holds a CASH tender, or the change due is above 0 (R121). -/
def Context.grantDue (c : Context) : Bool :=
  c.tenders.any Tender.isCash || 0 < c.changeDue

/-- The figures fixed at settlement (R119). -/
def Context.settled (time : Option DateTime) (c : Context) : Context :=
  { c with saleState := some .settled, closeTime := time, changeDue := c.tenderSum - c.subtotal }

/-- The grant and auto-open of a settlement (R121, R122). -/
def Lane.grantAndOpen (c : Context) (p : Lane) : Lane × AutoOpen :=
  if c.grantDue then
    let p := p.setGrant c.drawer
    if p.sale.autoOpen then p.autoKick c.drawer else (p, .notAsked)
  else (p, .notAsked)

/-- SETTLED (R126). -/
def Lane.settledEvent (i : Fin 6) (by_ : SettledBy) (auto : AutoOpen) (backlog : Bool) (p : Lane) : Lane :=
  let c := p.ctx i
  p.event 0x91#8
    ([.u8 i, .u16 (c.txn.getD 0), .name by_.code, .money c.subtotal, .money c.tenderSum, .money c.changeDue,
      .money c.cashback, .u8 c.tenders.length, .name (drawerCode c.drawer), .flag c.grantDue] ++ auto.fields ++
      [.name (if backlog then 1 else 0)] ++ stampField c.closeTime)

/-- The role of a context. -/
def Lane.setRole (i : Fin 6) (r : Role) (p : Lane) : Lane :=
  p.setCtx i { p.ctx i with role := r }

/-- Settlement: the figures, the notice of leaving TENDER, the grant and auto-open, PRINT_HELD, the receipt
job, SETTLED (R119, R120). A PRINT_PAUSED of the receipt's first row precedes SETTLED (log entry 23). -/
def Lane.settle (i : Fin 6) (by_ : SettledBy) (p : Lane) : Lane :=
  let c := (p.ctx i).settled p.clock
  let p := p.setCtx i c
  let p := if by_ = .total then p else p.leaveTender
  let (p, auto) := p.grantAndOpen c
  let p := p.setRole i .printHeld
  let backlog := p.queueFull
  (p.placeJob .receipt i).settledEvent i by_ auto backlog

/-! ## Tenders (R112 to R117) -/

/-- A tender joins the list, and the tender sum grows by its settlement value (R112, R113). -/
def Context.addTender (t : Tender) (c : Context) : Context :=
  { c with tenders := c.tenders ++ [t], tenderSum := c.tenderSum + t.settlementValue }

/-- The settlement backlog holds a job (R123). -/
def Lane.backlogged (p : Lane) : Bool :=
  p.sale.backlog.isSome

/-- The checks that TENDER_CASH and TENDER_CARD make first (R114, R115). -/
def Lane.tenderChecks (p : Lane) : List (Bool × Answer) :=
  [(p.noSaleOpen, refusedWith .noSaleOpen),
   (p.currentCtx.saleState ≠ some .tender, alone .wrongState),
   (p.till.locked, refusedWith .keyPosition),
   (p.backlogged, refusedWith .printBacklog)]

/-- The totals, the count of an OK reply and LIMIT; neither totals nor count with no sale open (R113). -/
def Answer.withTenderTotals (c : Context) (a : Answer) : Answer :=
  let limit : List Field := [.flag (tenderLimit a.reason)]
  if a.reason = some .noSaleOpen then { a with fields := limit }
  else
    { a with fields :=
        [.money c.subtotal, .money c.tenderSum, .money c.balance, .money c.changeDue] ++ a.fields ++ limit }

/-- A tender request's body with the totals of the sale that was CURRENT when it was taken (R113). -/
def withTenderReply (body : Lane → Lane × Answer) (p : Lane) : Lane × Answer :=
  let r := body p
  match p.current with
  | some i => (r.1, r.2.withTenderTotals (r.1.ctx i))
  | none => (r.1, r.2.withTenderTotals Context.freed)

/-- An amount of 1 to 99,999,999 (R112). -/
def tenderAmountOk (x : Int) : Bool :=
  1 ≤ x && x ≤ 99999999

/-- The tender joins the CURRENT sale; a balance of 0 or below settles it, otherwise it stays in TENDER and
the classifier is asked as stay says (R114, R117). -/
def Lane.takeTender (t : Tender) (by_ : SettledBy) (stay : Lane → Lane) (p : Lane) : Lane × Answer :=
  match p.current with
  | none => (p, refusedWith .noSaleOpen)
  | some i =>
    let c := (p.ctx i).addTender t
    let p := p.setCtx i c
    (if 0 < c.balance then stay p else p.settle i by_, ok [.u8 c.tenders.length])

/-- TENDER_CASH's checks and action. -/
def Lane.cashTender (amount : Int) (p : Lane) : Lane × Answer :=
  let c := p.currentCtx
  checked p.tenderChecks
    (checked
      [(!tenderAmountOk amount, alone .badValue),
       (8 ≤ c.tenders.length, refusedWith .tenderFull),
       (99999999 < c.tenderSum + amount, refusedWith .totalLimit),
       (999999 < c.tenderSum + amount - c.subtotal, refusedWith .changeLimit)]
      (fun p => p.takeTender ⟨amount, p.clock, none⟩ .tenderCash id)) p

/-- TENDER_CASH's action and reply (R114). -/
def doTenderCash (amount : Int) (p : Lane) : Lane × Answer :=
  withTenderReply (Lane.cashTender amount) p

/-- TENDER_CASH (R114). -/
def execTenderCash (tag : Byte) (amount : Int) (s : State) : Host.Outcome State Fault Refusal :=
  request (.tenderCash tag amount) (doTenderCash amount) s

/-- A cashback of 0 to 50,000 (R115). -/
def cashbackOk (x : Int) : Bool :=
  0 ≤ x && x ≤ 50000

/-- The cashback checks against the entry's class, its range entry and the balance due (R116). -/
def cashbackChecks (e : CardEntry) (r : RangeEntry) (balance amount cashback : Int) : List (Bool × Answer) :=
  [(0 < cashback && e.cls ≠ .debit, refusedWith .cashbackNotAllowed),
   (0 < cashback && !r.cashbackAllowed, refusedWith .cashbackNotAllowed),
   (r.cashbackLimit < cashback, refusedWith .cashbackLimit),
   (0 < cashback && amount < balance, refusedWith .cashbackPartial)]

/-- The tender of a fetched card (R117). -/
def cardTenderOf (e : CardEntry) (amount cashback : Int) (approval : Text) (time : Option DateTime) : Tender :=
  { amount := amount, time := time
    card := some ⟨e.handle, e.head, e.cls, lastFour e.masked, approval, cashback⟩ }

/-- TENDER_CARD's checks from step 7 on, and its action: the entry is removed without an event; while the sale
stays in TENDER promotion is tried (R115, R117). -/
def Lane.tenderEntry (e : CardEntry) (amount cashback : Int) (approval : Text) (p : Lane) : Lane × Answer :=
  let c := p.currentCtx
  checked
    [(8 ≤ c.tenders.length, refusedWith .tenderFull),
     (c.balance < amount, refusedWith .overBalance)]
    (checked (cashbackChecks e p.cards.table[e.rangeIndex] c.balance amount cashback)
      (checked [(99999999 < c.tenderSum + amount + cashback, refusedWith .totalLimit)]
        (fun p =>
          (p.removeCard e.handle).takeTender (cardTenderOf e amount cashback approval p.clock) .tenderCard
            Lane.promote))) p

/-- TENDER_CARD's checks and action. -/
def Lane.cardTender (handle : Nat) (amount cashback : Int) (approval : Text) (p : Lane) : Lane × Answer :=
  checked p.tenderChecks
    (checked
      [(!handleOk handle || !tenderAmountOk amount || !cashbackOk cashback || !approvalOk approval, alone .badValue),
       (!p.cardIs handle .fetched, refusedWith .noCard)]
      (fun p =>
        match p.card handle with
        | none => (p, refusedWith .noCard)
        | some e => p.tenderEntry e amount cashback approval)) p

/-- TENDER_CARD's action and reply (R115 to R117). -/
def doTenderCard (handle : Nat) (amount cashback : Int) (approval : Text) (p : Lane) : Lane × Answer :=
  withTenderReply (Lane.cardTender handle amount cashback approval) p

/-- TENDER_CARD (R115). -/
def execTenderCard (tag : Byte) (handle : Nat) (amount cashback : Int) (approval : Text) (s : State) :
    Host.Outcome State Fault Refusal :=
  request (.tenderCard tag handle amount cashback approval) (doTenderCard handle amount cashback approval) s

/-! ## SETTLE_SETUP and SALE_TENDERS (R122, R127) -/

/-- SETTLE_SETUP's action and reply. -/
def doSettleSetup (autoOpen : Byte) (p : Lane) : Lane × Answer :=
  match settingOf autoOpen with
  | none => (p, alone .badValue)
  | some on => ({ p with sale := { p.sale with autoOpen := on } }, ok [.flag on])

/-- SETTLE_SETUP (R122). -/
def execSettleSetup (tag : Byte) (autoOpen : Byte) (s : State) : Host.Outcome State Fault Refusal :=
  request (.settleSetup tag autoOpen) (doSettleSetup autoOpen) s

/-- The context, not FREE, that holds a transaction number; the lower-numbered of two (R127). -/
def Lane.saleOf (txn : Nat) (p : Lane) : Option (Fin 6) :=
  contextNumbers.find? fun i => (p.ctx i).role ≠ .free && (p.ctx i).txn = some txn

/-- A tender's fields (R112). -/
def Tender.fields (t : Tender) : List Field :=
  match t.card with
  | none => [.name 0, .money t.amount] ++ stampField t.time
  | some c =>
    [.name 1, .money t.amount] ++ stampField t.time ++
      [.u8 c.handle, .name (headCode c.head), .name c.cls.code, .text c.lastDigits, .text c.approval,
       .money c.cashback]

/-- A sale state in a report; a context that is not FREE has one (R1). -/
def stateField (c : Context) : Field :=
  .name (match c.saleState with | some s => s.code | none => 0)

/-- The context's job is in the settlement backlog (R127). -/
def Lane.backlogHolds (i : Fin 6) (p : Lane) : Bool :=
  p.sale.backlog.any fun b => b.context = i

/-- The reply to SALE_TENDERS (R127). -/
def Lane.tendersReport (i : Fin 6) (p : Lane) : List Field :=
  let c := p.ctx i
  [.name c.role.code, stateField c, .money c.subtotal, .money c.tenderSum, .money c.balance, .money c.changeDue,
    .name (drawerCode c.drawer)] ++ stampField c.closeTime ++ listed Tender.fields c.tenders ++
    [.flag (p.backlogHolds i)]

/-- SALE_TENDERS's action and reply. -/
def doSaleTenders (txn : Nat) (p : Lane) : Lane × Answer :=
  if txn < 1 ∨ 65535 < txn then (p, alone .badValue)
  else
    match p.saleOf txn with
    | none => (p, refusedWith .noSuchSale)
    | some i => (p, ok (p.tendersReport i))

/-- SALE_TENDERS (R127). -/
def execSaleTenders (tag : Byte) (txn : Nat) (s : State) : Host.Outcome State Fault Refusal :=
  request (.saleTenders tag txn) (doSaleTenders txn) s

end Sys2Proof.Machine
end

