-- ==== Sys2Proof/Machine/Swipe.lean ====
section
/-! DEFINITION. Machine/Swipe.lean: the swipe decoder: the decode channel, cells and bits, the checks of a
track, account data, and the end of a swipe (chapter 5). -/

namespace Sys2Proof.Machine

/-! ## Cells and bits (R82, R83) -/

/-- 10 × |x − y| ≤ 4 × y (R82, R83). In SYNC both are multiplied by the group's length, so that its mean stays
exact. -/
def withinFortyPercent (x y : Nat) : Bool :=
  10 * (x - y + (y - x)) ≤ 4 * y

/-- A later interval in SYNC: it joins the candidate group, or starts it afresh (R82). -/
def joinGroup (group : List Nat) (d : Nat) : List Nat :=
  match group with
  | [] => [d]
  | _ :: _ => if withinFortyPercent (d * group.length) group.sum then group ++ [d] else [d]

/-- The four newest. -/
def newestFour (xs : List Nat) : List Nat :=
  xs.drop (xs.length - 4)

/-- A track leaves SYNC when the group holds 8 intervals (R82). -/
def syncPhase (t : Nat) (group : List Nat) : TrackPhase :=
  if group.length = 8 then
    .cells (roundHalfUp group.sum 8) t false (newestFour group) (List.replicate 8 false)
  else .sync (some t) group

/-- A transition within 25 % to 75 % of the reference (R83). -/
def midCell (reference d : Nat) : Bool :=
  reference ≤ 4 * d && 4 * d ≤ 3 * reference

/-- A bit is stored while the assembly holds fewer than 1,024 (R84). -/
def storeBit (bits : List Bool) (b : Bool) : List Bool :=
  if bits.length < 1024 then bits ++ [b] else bits

/-- A cell closes with its length: the tolerance test, the bit, and the next reference (R83). -/
def closeCell (reference : Nat) (t : Nat) (mid : Bool) (history : List Nat) (bits : List Bool) (length : Nat) :
    TrackPhase :=
  if withinFortyPercent length reference then
    let history := newestFour (history ++ [length])
    .cells (roundHalfUp history.sum 4) t false history (storeBit bits mid)
  else .failed

/-- A transition at a moment is taken on a track (R82, R83). -/
def TrackPhase.take (t : Nat) : TrackPhase → TrackPhase
  | .sync none group => .sync (some t) group
  | .sync (some last) group => syncPhase t (joinGroup group (t - last))
  | .cells reference start mid history bits =>
    let d := t - start
    if !mid && midCell reference d then .cells reference start true history bits
    else closeCell reference t mid history bits d
  | .failed => .failed

/-- A transition is taken on a track's assembly. -/
def TrackAssembly.take (t : Nat) (a : TrackAssembly) : TrackAssembly :=
  { seen := true, phase := a.phase.take t }

/-! ## The decode channel (R79 to R81) -/

/-- A head's enable. -/
def Swipe.enabled (h : Head) (w : Swipe) : Bool :=
  match h with
  | .front => w.front
  | .stand => w.stand

/-- Both assemblies are emptied and made ready (R79). -/
def Swipe.emptied (w : Swipe) : Swipe :=
  { w with trackA := TrackAssembly.fresh, trackB := TrackAssembly.fresh }

/-- The channel is released (R81, R92). -/
def Swipe.released (w : Swipe) : Swipe :=
  { w.emptied with channel := none, endExpiry := none }

/-- A transition on a track of the owning head: it is decoded, and the end timer restarts at 25 ms (R81). -/
def Swipe.transition (now : Nat) (track : Track) (t : Nat) (w : Swipe) : Swipe :=
  let w := { w with endExpiry := some (now + 25000) }
  match track with
  | .a => { w with trackA := w.trackA.take t }
  | .b => { w with trackB := w.trackB.take t }

/-- A transition reaches the decoder: ignored on a disabled head or on the head that does not own the channel,
a claim while the channel is IDLE (R79, R80). -/
def Swipe.flux (now : Nat) (h : Head) (track : Track) (t : Nat) (w : Swipe) : Swipe :=
  if w.enabled h then
    match w.channel with
    | none => { w.emptied with channel := some h }.transition now track t
    | some owner => if owner = h then w.transition now track t else w
  else w

/-- A transition on a track, with its time stamp (log entry 31). -/
def Lane.flux (h : Head) (track : Track) (t : Nat) (p : Lane) : Lane :=
  let p := p.elapseTo t
  { p with swipe := p.swipe.flux p.now h track t }

/-- FLUX_TRANSITION (R79). -/
def execFluxTransition (head : Head) (track : Track) (time : Nat) (s : State) : Host.Outcome State Fault Refusal :=
  s.advance (Lane.flux head track time)

/-! ## Characters and checks (R85 to R88) -/

/-- Bits per character, parity included (R85). -/
def characterBits : Track → Nat
  | .a => 7
  | .b => 5

/-- The value of the start sentinel (R85). -/
def startSentinel : Track → Nat
  | .a => 0x05
  | .b => 0x0B

/-- The value of the end sentinel (R85). -/
def endSentinel : Track → Nat
  | .a => 0x1F
  | .b => 0x0F

/-- The capacity in characters (R85). -/
def trackCapacity : Track → Nat
  | .a => 79
  | .b => 40

/-- The character of a value (R85). -/
def characterOf : Track → Nat → Byte
  | .a, v => BitVec.ofNat 8 (0x20 + v)
  | .b, v => BitVec.ofNat 8 (0x30 + v)

/-- The value of bits, the least significant first. -/
def bitsValue : List Bool → Nat
  | [] => 0
  | b :: bs => b.toNat + 2 * bitsValue bs

/-- An odd number of 1 bits (R85). -/
def oddParity (bits : List Bool) : Bool :=
  bits.foldl xor false

/-- The data value of a character's bits. -/
def characterValue (k : Track) (bits : List Bool) : Nat :=
  bitsValue (bits.take (characterBits k - 1))

/-- The string from its first 1 bit on, when the start sentinel stands there (R86). -/
def findStart (k : Track) (bits : List Bool) : Option (List Bool) :=
  let s := bits.dropWhile not
  let c := s.take (characterBits k)
  if c.length = characterBits k ∧ characterValue k c = startSentinel k ∧ oddParity c then some s else none

/-- The LRC check on the bits after the end sentinel (R88). -/
def checkLrc (k : Track) (bits : List Bool) (lrc : Nat) (image : Text) : TrackResult × Text :=
  let c := bits.take (characterBits k)
  if c.length = characterBits k ∧ characterValue k c = lrc ∧ oddParity c then (.ok, image) else (.lrc, [])

/-- The characters from the start sentinel, at most the number given: the track's result and its image (R87). A track
whose start sentinel is followed at once by its end sentinel passes every check of R87 and R88 and is OK with an
image of two characters (log entry 37). -/
def readCharacters (k : Track) : Nat → List Bool → Nat → Text → TrackResult × Text
  | 0, _, _, _ => (.noEnd, [])
  | room + 1, bits, lrc, image =>
    let c := bits.take (characterBits k)
    let rest := bits.drop (characterBits k)
    let v := characterValue k c
    if c.length < characterBits k then (.noEnd, [])
    else if !oddParity c then (.parity, [])
    else if v = endSentinel k then checkLrc k rest (lrc ^^^ v) (image ++ [characterOf k v])
    else readCharacters k room rest (lrc ^^^ v) (image ++ [characterOf k v])

/-- A track as the swipe end finds it: its result, the image of an OK track, the reversed mark (R84). -/
structure TrackReading where
  result : TrackResult
  image : Text
  reversed : Bool
deriving DecidableEq, Repr

/-- A track without an image. -/
def TrackReading.failed (r : TrackResult) : TrackReading :=
  ⟨r, [], false⟩

/-- The characters of a string whose start was found. -/
def readFrom (k : Track) (bits : List Bool) (reversed : Bool) : TrackReading :=
  let r := readCharacters k (trackCapacity k) bits 0 []
  ⟨r.1, r.2, reversed⟩

/-- The checks of R86 to R88 on stored bits, in the stored order and then reversed. -/
def readBits (k : Track) (bits : List Bool) : TrackReading :=
  match findStart k bits with
  | some s => readFrom k s false
  | none =>
    match findStart k bits.reverse with
    | some s => readFrom k s true
    | none => .failed .noStart

/-- A track is finished at the swipe end (R84). -/
def TrackAssembly.finish (k : Track) (a : TrackAssembly) : TrackReading :=
  if !a.seen then .failed .absent
  else
    match a.phase with
    | .sync _ _ => .failed .noStart
    | .failed => .failed .cellError
    | .cells _ _ _ _ bits => readBits k bits

/-! ## Account data (R89 to R91) -/

/-- What a usable track yields. -/
structure AccountData where
  account : Text
  expiry : Option Text
  service : Option Text
  holder : Option Text
deriving DecidableEq, Repr

/-- The image of an OK track. -/
def TrackReading.okImage (r : TrackReading) : Option Text :=
  if r.result = .ok then some r.image else none

/-- The characters between the sentinels. -/
def innerText (image : Text) : Text :=
  (image.drop 1).dropLast

/-- What stands after the first separator; none without one. -/
def afterSeparator (separator : Byte) (t : Text) : Option Text :=
  match t.dropWhile fun b => b ≠ separator with
  | [] => none
  | _ :: rest => some rest

/-- What stands before the first separator. -/
def beforeSeparator (separator : Byte) (t : Text) : Text :=
  t.takeWhile fun b => b ≠ separator

/-- A month from 01 to 12 in the last two of four digits. -/
def monthOk (t : Text) : Bool :=
  match t with
  | [_, _, m, n] => let v := 10 * digitValue m + digitValue n; 1 ≤ v && v ≤ 12
  | _ => false

/-- The expiry: four digits with a month (R89). -/
def expiryOf (t : Text) : Option Text :=
  let e := t.take 4
  if e.length = 4 ∧ e.all isDigit ∧ monthOk e then some e else none

/-- The service code: three digits after those four (R89). -/
def serviceOf (t : Text) : Option Text :=
  let c := (t.drop 4).take 3
  if c.length = 3 ∧ c.all isDigit then some c else none

/-- An account field: one or more digits. -/
def accountFieldOk (t : Text) : Bool :=
  !t.isEmpty && t.all isDigit

/-- The account data of track B, none when it is not usable (R89). -/
def accountB (r : TrackReading) : Option AccountData :=
  r.okImage.bind fun image =>
    let inner := innerText image
    let account := beforeSeparator 0x3D#8 inner
    let rest := afterSeparator 0x3D#8 inner
    if accountFieldOk account then some ⟨account, rest.bind expiryOf, rest.bind serviceOf, none⟩ else none

/-- The name: at most 26 characters without trailing spaces, none when nothing remains (R90). -/
def holderOf (t : Text) : Option Text :=
  match ((t.take 26).reverse.dropWhile fun b => b = 0x20#8).reverse with
  | [] => none
  | n => some n

/-- The account data of track A after its format code and with a first separator (R90). -/
def accountAfterCode (t : Text) (rest : Text) : Option AccountData :=
  let account := beforeSeparator 0x5E#8 t
  if accountFieldOk account then
    match afterSeparator 0x5E#8 rest with
    | some last => some ⟨account, expiryOf last, serviceOf last, holderOf (beforeSeparator 0x5E#8 rest)⟩
    | none => some ⟨account, none, none, none⟩
  else none

/-- The account data of track A, none when it is not usable (R90). -/
def accountA (r : TrackReading) : Option AccountData :=
  r.okImage.bind fun image =>
    match innerText image with
    | 0x42#8 :: t => (afterSeparator 0x5E#8 t).bind (accountAfterCode t)
    | _ => none

/-- A track's result with FORMAT for an OK track that is not usable (R91). -/
def markedResult (r : TrackReading) (d : Option AccountData) : TrackResult :=
  if r.result = .ok ∧ d.isNone then .format else r.result

/-- The reversed mark of an OK track. -/
def reversedField (r : TrackReading) : List Field :=
  if r.result = .ok then [.flag r.reversed] else []

/-- CARD_ERROR, when no track is usable (R91): track A's result and reversed mark before track B's (log entry 15). -/
def Lane.cardErrorEvent (h : Head) (a b : TrackReading) (p : Lane) : Lane :=
  p.event 0x85#8 ([.name (headCode h)] ++ stampField p.clock ++
    [.name (markedResult a (accountA a)).code, .name (markedResult b (accountB b)).code] ++ reversedField a ++ reversedField b)

/-- A swipe result from its source track (R91). -/
def swipeResult (h : Head) (time : Option DateTime) (source : Track) (d : AccountData) (holder : Option Text)
    (a b : TrackReading) : SwipeResult :=
  { head := h, time := time, resultA := markedResult a (accountA a), resultB := markedResult b (accountB b)
    source := source, account := d.account, expiry := d.expiry, service := d.service
    holder := holder
    reversed := match source with | .a => a.reversed | .b => b.reversed
    imageA := a.okImage, imageB := b.okImage }

/-- The name when the source is track B: track A's, when its account number is the same (R91). -/
def holderFor (account : Text) (a : Option AccountData) : Option Text :=
  a.bind fun d => if d.account = account then d.holder else none

/-- The result of a finished swipe goes to the card classifier, or CARD_ERROR to the lane link (R91). -/
def Lane.handOver (h : Head) (a b : TrackReading) (p : Lane) : Lane :=
  match accountB b, accountA a with
  | some d, other => p.takeResult (swipeResult h p.clock .b d (holderFor d.account other) a b)
  | none, some d => p.takeResult (swipeResult h p.clock .a d d.holder a b)
  | none, none => p.cardErrorEvent h a b

/-- The swipe end timer expires and the swipe ends; with none running nothing happens (R81). -/
def Lane.swipeEnd (p : Lane) : Lane :=
  match p.swipe.channel, p.swipe.endExpiry with
  | some h, some t =>
    let p := p.elapseTo t
    let p := p.handOver h (p.swipe.trackA.finish .a) (p.swipe.trackB.finish .b)
    { p with swipe := p.swipe.released }
  | _, _ => p

/-- SWIPE_END (R81). -/
def execSwipeEnd (s : State) : Host.Outcome State Fault Refusal :=
  s.advance Lane.swipeEnd

/-! ## READER_ENABLE (R78, R92) -/

/-- A head's enable is set; OFF for the owning head discards its swipe (R92). -/
def Swipe.setEnable (h : Head) (on : Bool) (w : Swipe) : Swipe :=
  let w :=
    match h with
    | .front => { w with front := on }
    | .stand => { w with stand := on }
  if on = false ∧ w.channel = some h then w.released else w

/-- Both enables and the channel (R78). -/
def Swipe.fields (w : Swipe) : List Field :=
  [.flag w.front, .flag w.stand, .name (channelCode w.channel)]

/-- READER_ENABLE's action and reply. -/
def doReaderEnable (head setting : Byte) (p : Lane) : Lane × Answer :=
  match headOf head, settingOf setting with
  | some h, some on =>
    let p := { p with swipe := p.swipe.setEnable h on }
    (p, ok p.swipe.fields)
  | _, _ => (p, alone .badValue)

/-- READER_ENABLE (R78). -/
def execReaderEnable (tag : Byte) (head setting : Byte) (s : State) : Host.Outcome State Fault Refusal :=
  request (.readerEnable tag head setting) (doReaderEnable head setting) s

end Sys2Proof.Machine
end

