-- ==== Sys2Proof/Machine/Resets.lean ====
section
/-! DEFINITION. Machine/Resets.lean: the three resets: power-on, the reset input and the lane reset, each block
by its own table (R24, R46, R66, R93, R111, R128, R148, R149, R179, R195). -/

namespace Sys2Proof.Machine

/-! ## Drawers from their sensors (R148) -/

/-- A drawer's state from its sensors: ABSENT, CLOSED, or OPEN with open since at the reset and the alarm timer
started (R148). -/
def DrawerRecord.fromSensors (now : Nat) (alarmAt : Option Nat) (r : DrawerRecord) : DrawerRecord :=
  let r := { r with kick := none, confirmUntil := none, openSince := none, alarmAt := none }
  match r.tray, r.closed with
  | .removed, _ => { r with state := .absent }
  | .present, .shut => { r with state := .closed }
  | .present, .opened => { r with state := .opened, openSince := some now, alarmAt := alarmAt }

/-! ## The metrology store's start-up check (R65, R66) -/

/-- A record after a write was stopped: as it was, as it was being written, or not VALID (R65). -/
def tornTo {α : Type} (torn : TornRecord) (old : Stored α) (new : α) : Stored α :=
  match torn with
  | .old => old
  | .new => .valid new
  | .unreadable left => leftAs left

/-- The records after a supply loss or a reset input, with a write in flight or none (R65). -/
def Store.interrupted (torn : TornRecord) (s : Store) : Store :=
  match s.write with
  | none => s
  | some (.txnNumber n) => { s with txnRecord := tornTo torn s.txnRecord n }
  | some (.calCounter n) => { s with counterRecord := tornTo torn s.counterRecord n }
  | some (.calRecord r) => { s with calRecord := tornTo torn s.calRecord r }

/-- The counter mirror and its valid mark from the counter record (R66). -/
def mirrorOf : Stored Nat → Nat × Bool
  | .valid n => (n, true)
  | .erased => (0, true)
  | .corrupt => (9999, false)

/-- The store after its start-up check: CAL is OUT, no write is in flight (R66, R68). -/
def Store.startUp (switch : SwitchLevel) (torn : TornRecord) (s : Store) : Store :=
  let s := s.interrupted torn
  { s with
    mirror := (mirrorOf s.counterRecord).1
    counterValid := (mirrorOf s.counterRecord).2
    calState := .out
    switch := switch
    working := none
    leaveCause := none
    commitTime := none
    write := none }

/-- The transaction number record's number, none when it is not VALID (R66). -/
def Store.lastTxn (s : Store) : Option Nat :=
  match s.txnRecord with
  | .valid n => some n
  | .erased | .corrupt => none

/-! ## Power-on and the reset input -/

/-- The lane link after power-on or the reset input, before the start-up check (R195). -/
def Link.restarted (straps : Byte) (clock : Option DateTime) (nextSecond : Nat) : Link :=
  { Link.reset with sending := none, flags := 0, clock := clock, nextSecond := nextSecond, identity := straps }

/-- The sale engine after the start-up check (R9, R24, R66). -/
def Sale.startUp (last : Option Nat) : Sale :=
  { Sale.reset with counter := last.getD 0, restartPending := last.isNone }

/-- COUNTER_LOST is latched when the transaction number record is not VALID (R66). -/
def Link.counterCheck (last : Option Nat) (l : Link) : Link :=
  match last with
  | some _ => l
  | none => l.latch .counterLost

/-- A drawer after power-on or the reset input (R142, R148). -/
def drawerAtReset (now : Nat) (tray : TrayLevel) (closed : ClosedLevel) : DrawerRecord :=
  { DrawerRecord.reset with tray := tray, closed := closed }.fromSensors now (some (now + 30000000))

/-- The till controller after power-on or the reset input (R148). -/
def Till.startUp (now : Nat) (i : ResetInputs) : Till :=
  { Till.reset with
    drawerA := drawerAtReset now i.trayA i.closedA
    drawerB := drawerAtReset now i.trayB i.closedB
    key := i.key.getD .locked
    shownSince := now }

/-- The print engine after power-on or the reset input, with its levels and the first reading (R166, R167,
R179). -/
def Printer.startUp (now : Nat) (i : ResetInputs) : Printer :=
  { Printer.reset with
    paper := i.paper
    nearEnd := i.nearEnd
    cover := i.cover
    supply := i.supply
    cutterHome := i.cutterHome
    nextReading := now + 100000 }.read i.temperature

/-- Power-on and the reset input: the start-up check first, then every block's values, then the weighing
unit's restart with its SCALE_STATE; left is the byte of the state the unit left (R24, R25, R66). -/
def Lane.startUp (i : ResetInputs) (torn : TornRecord) (now : Nat) (clock : Option DateTime) (nextSecond : Nat)
    (left : Nat) (p : Lane) : Lane :=
  let store := p.store.startUp i.switch torn
  let p : Lane :=
    { now := now
      link := (Link.restarted i.straps clock nextSecond).counterCheck store.lastTxn
      sale := Sale.startUp store.lastTxn
      scale := { Scale.reset with nextSample := now + 12500 }
      store := store
      swipe := Swipe.reset
      cards := Cards.reset
      till := Till.startUp now i
      composer := Composer.reset
      printer := Printer.startUp now i }
  p.restarted.scaleStateEvent left

/-- Power-on: elapsed time begins and the clock is UNSET (R189). -/
def Lane.powerOn (i : ResetInputs) (torn : TornRecord) (p : Lane) : Lane :=
  p.startUp i torn 0 none 1000000 Config.stateLeftAtPowerOn.toNat

/-- POWER_ON (R24, R66). -/
def execPowerOn (inputs : ResetInputs) (torn : TornRecord) (s : State) : Host.Outcome State Fault Refusal :=
  s.advance (Lane.powerOn inputs torn)

/-- The reset input: the clock goes on (R189). -/
def Lane.resetInput (i : ResetInputs) (torn : TornRecord) (p : Lane) : Lane :=
  p.startUp i torn p.now p.link.clock p.link.nextSecond p.scale.unit.code

/-- RESET_INPUT (R24, R66). -/
def execResetInput (inputs : ResetInputs) (torn : TornRecord) (s : State) : Host.Outcome State Fault Refusal :=
  s.advance (Lane.resetInput inputs torn)

/-! ## The lane reset (R191) -/

/-- The link's lane-reset values (R195). -/
def Link.laneReset (l : Link) : Link :=
  { l with receiver := .hunt, inProgress := none, reply := none, sending := none, events := [], flags := 0,
           newRate := none }

/-- The sale engine's (R24, R128). -/
def Sale.laneReset (s : Sale) : Sale :=
  { s with contexts := Vector.replicate 6 Context.freed, stack := [], backlog := none }

/-- The weighing unit's (R46). -/
def Scale.laneReset (s : Scale) : Scale :=
  { s with tare := 0, capture := none, latch := false, lastReport := none, lastSend := none }

/-- The card classifier's (R111). -/
def Cards.laneReset (c : Cards) : Cards :=
  { c with queue := [], tenderMark := false }

/-- A drawer's: FAULT is kept, every other state comes from the sensors; the grant is 0 (R148). -/
def Till.drawerReset (now : Nat) (t : Till) (r : DrawerRecord) : DrawerRecord :=
  if r.state = .fault then { r with grant := false }
  else { r.fromSensors now (t.alarmFrom now) with grant := false }

/-- The till controller's, after a running pulse was cut (R148). -/
def Till.laneReset (now : Nat) (t : Till) : Till :=
  { t with
    drawerA := t.drawerReset now t.drawerA
    drawerB := t.drawerReset now t.drawerB
    driver := none
    waiting := none
    assist := false
    presses := 0 }

/-- The print engine's (R179). -/
def Printer.laneReset (e : Printer) : Printer :=
  { e.clearLine with queue := [], slip := none, engine := .idle, draining := false, restartDue := false,
                     figures := none, cutUntil := none, feed := none }

/-- A running pulse is cut at once, with current CUT and its end reported (R148). -/
def Lane.cutForReset (p : Lane) : Lane :=
  match p.till.driver with
  | some g => (p.writeDrive g .cut).joltHold
  | none => p

/-- Every block takes its lane-reset values (R191); the metrology store keeps everything (R66, R71). -/
def Lane.laneReset (p : Lane) : Lane :=
  let p := p.cutForReset
  { p with
    link := p.link.laneReset
    sale := p.sale.laneReset
    scale := p.scale.laneReset
    swipe := p.swipe.released
    cards := p.cards.laneReset
    till := (p.till.laneReset p.now).judgeLight p.now
    composer := { p.composer with position := none }
    printer := p.printer.laneReset }

/-- BEGIN's write is in flight, so that its reply has not been handed over. -/
def Lane.beginWriting (p : Lane) : Bool :=
  match p.store.write with
  | some (.txnNumber _) => true
  | _ => false

/-- LANE_RESET (R191). It comes when the reply of RESET_LANE has been sent, so never while BEGIN is in
progress; then it has no effect (log entry 29). -/
def execLaneReset (s : State) : Host.Outcome State Fault Refusal :=
  s.advance fun p => if p.beginWriting then p else p.laneReset

end Sys2Proof.Machine
end

