-- ==== Sys2Proof/Machine/Sales.lean ====
section
/-! DEFINITION. Machine/Sales.lean: the sale engine's requests of chapter 1: BEGIN and its store write, items,
TOTAL, cancelling, the suspend stack and the reports. -/

namespace Sys2Proof.Machine

/-! ## BEGIN (R9, R10) -/

/-- The number after the counter; 1 after 65,535 (R9). -/
def nextTxn (counter : Nat) : Nat :=
  if 65535 ≤ counter then 1 else counter + 1

/-- A drawer in OPEN or OPEN_LONG. -/
def DrawerRecord.isOpen (r : DrawerRecord) : Bool :=
  r.state = .opened || r.state = .openLong

/-- The interlock stands against a BEGIN (R10 step 4). -/
def Till.interlocked (t : Till) : Bool :=
  t.interlock && (t.drawerA.isOpen || t.drawerB.isOpen)

/-- The LAST_PRINTED context, when it is not pinned. -/
def Lane.reclaimable (p : Lane) : Option (Fin 6) :=
  match p.firstOf .lastPrinted with
  | some i => if (p.ctx i).pin = 0 then some i else none
  | none => none

/-- A context is obtainable (R10 step 5). -/
def Lane.obtainable (p : Lane) : Bool :=
  (p.firstOf .free).isSome || p.reclaimable.isSome

/-- The checks of BEGIN before the write (R10). -/
def Lane.beginChecks (p : Lane) : List (Bool × Answer) :=
  [(p.store.inCal, refusedWith .calMode),
   (!p.noSaleOpen, refusedWith .saleOpen),
   (p.till.locked, refusedWith .keyPosition),
   (p.till.interlocked, refusedWith .drawerNotClosed),
   (!p.obtainable, refusedWith .noSlot)]

/-- BEGIN is taken: a failed check is answered; otherwise the number is written, and the reply waits for the
write's end (R10). -/
def Lane.serveBegin (p : Lane) : Lane :=
  match firstFailing p.beginChecks with
  | some a => p.respond a
  | none => { p with store := { p.store with write := some (.txnNumber (nextTxn p.sale.counter)) } }

/-- BEGIN (R10). -/
def execBegin (tag : Byte) (s : State) : Host.Outcome State Fault Refusal :=
  s.advance (Lane.arrive (frameFor (.beginSale tag)) Lane.serveBegin)

/-- The context a BEGIN takes: the lowest-numbered FREE one, the LAST_PRINTED one being freed when none is
(R10). -/
def Lane.obtain (p : Lane) : Lane :=
  match p.firstOf .free with
  | some _ => p
  | none =>
    match p.reclaimable with
    | some i => p.freeCtx i
    | none => p

/-- The values BEGIN gives a context (R1). -/
def Lane.newSale (txn : Nat) (p : Lane) : Context :=
  { Context.freed with
    role := .current
    txn := some txn
    saleState := some .opened
    drawer := p.till.active
    beginTime := p.clock
    restarted := p.sale.restartPending }

/-- The sale is opened after the write ended OK (R9, R10). -/
def Lane.openSale (txn : Nat) (p : Lane) : Lane :=
  let p := p.obtain
  match p.firstOf .free with
  | none => p.respond (refusedWith .noSlot)
  | some i =>
    let p := p.setCtx i (p.newSale txn)
    let p := { p with sale := { p.sale with restartPending := false } }
    (p.applyHeldLoyalty i).respond (ok [.u8 i, .u16 txn])

/-- The write of BEGIN ends: the counter takes the number and the sale is opened, or BEGIN is refused with
STORE_FAIL (R9). With no such write in flight nothing happens. -/
def Lane.txnWriteEnd (result : WriteEnd) (p : Lane) : Lane :=
  match p.store.write with
  | some (.txnNumber n) =>
    match result with
    | .ok =>
      let p := { p with store := { p.store with txnRecord := .valid n, write := none } }
      { p with sale := { p.sale with counter := n } }.openSale n
    | .fail left =>
      { p with store := { p.store with
          txnRecord := match left with | .erased => .erased | .corrupt => .corrupt
          write := none } }.respond (refusedWith .storeFail)
  | _ => p

/-- TXN_NUMBER_WRITE_END (R9). -/
def execTxnNumberWriteEnd (result : WriteEnd) (s : State) : Host.Outcome State Fault Refusal :=
  s.advance (Lane.txnWriteEnd result)

/-! ## The replies of ITEM, VOID_ITEM and TOTAL (R12) -/

/-- The subtotal and the result flags after the fields of an OK reply; no subtotal with no sale open. -/
def Answer.withSubtotal (subtotal : Int) (a : Answer) : Answer :=
  if a.reason = some .noSaleOpen then { a with fields := [.flag false, .flag false, .flag false] }
  else { a with fields := a.fields ++ [.money subtotal] ++ resultFlags subtotal (saleLimit a.reason) }

/-- TOTAL's reply: the subtotal first (R14). -/
def Answer.withTotal (subtotal : Int) (a : Answer) : Answer :=
  if a.reason = some .noSaleOpen then { a with fields := [.flag false, .flag false, .flag false] }
  else { a with fields := [.money subtotal] ++ a.fields ++ resultFlags subtotal (saleLimit a.reason) }

/-- A body answered with the subtotal of the CURRENT sale as it stands after it (R12). -/
def withItemReply (body : Lane → Lane × Answer) (p : Lane) : Lane × Answer :=
  let r := body p
  (r.1, r.2.withSubtotal r.1.currentCtx.subtotal)

/-- The checks that ITEM, VOID_ITEM and TOTAL make first (R11, R13, R14). -/
def Lane.itemChecks (p : Lane) : List (Bool × Answer) :=
  [(p.noSaleOpen, refusedWith .noSaleOpen),
   (p.currentCtx.saleState ≠ some .opened, alone .wrongState),
   (p.till.locked, refusedWith .keyPosition),
   (p.scale.capture.isSome, refusedWith .capturePending)]

/-- A record joins the CURRENT sale after its list was changed by f; the reply gives its number and amount. -/
def Lane.appendItem (f : List ItemRecord → List ItemRecord) (r : ItemRecord) (p : Lane) : Lane × Answer :=
  match p.current with
  | none => (p, refusedWith .noSaleOpen)
  | some i =>
    let c := Context.append r { p.ctx i with items := f (p.ctx i).items }
    (p.setCtx i c, ok [.u8 c.items.length, .money r.amount])

/-! ## ITEM (R11) -/

/-- A KEYED record (R5, R11). -/
def keyedRecord (description : Text) (quantity : Nat) (unitAmount : Int) (time : Option DateTime) : ItemRecord :=
  { description := description, amount := quantity * unitAmount, time := time, voided := false,
    detail := .keyed quantity unitAmount }

/-- ITEM's checks and action. -/
def Lane.item (description : Text) (quantity : Nat) (unitAmount : Int) (p : Lane) : Lane × Answer :=
  let amount : Int := quantity * unitAmount
  checked p.itemChecks
    (checked
      [(!descriptionOk description || quantity < 1 || 999 < quantity || !within 9999999 unitAmount, alone .badValue),
       (!within 9999999 amount, refusedWith .amountLimit),
       (amount < 0 && !p.till.manager, refusedWith .keyPosition),
       (!within 99999999 (p.currentCtx.subtotal + amount), refusedWith .totalLimit),
       (p.poolFree = 0, refusedWith .poolFull),
       (150 ≤ p.currentCtx.items.length, refusedWith .saleFull)]
      (fun p => p.appendItem id (keyedRecord description quantity unitAmount p.clock))) p

/-- ITEM's action and reply. -/
def doItem (description : Text) (quantity : Nat) (unitAmount : Int) (p : Lane) : Lane × Answer :=
  withItemReply (Lane.item description quantity unitAmount) p

/-- ITEM (R11). -/
def execItem (tag : Byte) (description : Text) (quantity : Nat) (unitAmount : Int) (s : State) :
    Host.Outcome State Fault Refusal :=
  request (.item tag description quantity unitAmount) (doItem description quantity unitAmount) s

/-! ## VOID_ITEM (R13) -/

/-- The record of an item number, counted from 1 (R6). -/
def Context.item (c : Context) (number : Nat) : Option ItemRecord :=
  if number = 0 then none else c.items[number - 1]?

/-- A VOID record. -/
def ItemRecord.isVoid (r : ItemRecord) : Bool :=
  match r.detail with
  | .void _ => true
  | _ => false

/-- The VOID record for a record (R5, R13). -/
def voidRecord (number : Nat) (r : ItemRecord) (time : Option DateTime) : ItemRecord :=
  { description := r.description, amount := -r.amount, time := time, voided := false, detail := .void number }

/-- The voided field of a record is set (R13). -/
def markVoided (number : Nat) (items : List ItemRecord) : List ItemRecord :=
  items.modify (number - 1) fun r => { r with voided := true }

/-- VOID_ITEM's checks from step 6 on, and its action, on the named record. -/
def Lane.voidRecordOf (number : Nat) (r : ItemRecord) (p : Lane) : Lane × Answer :=
  checked
    [(r.isVoid, refusedWith .notVoidable),
     (r.voided, refusedWith .alreadyVoided),
     (!within 99999999 (p.currentCtx.subtotal - r.amount), refusedWith .totalLimit),
     (p.poolFree = 0, refusedWith .poolFull),
     (150 ≤ p.currentCtx.items.length, refusedWith .saleFull)]
    (fun p => p.appendItem (markVoided number) (voidRecord number r p.clock)) p

/-- VOID_ITEM's checks and action. -/
def Lane.voidItem (number : Nat) (p : Lane) : Lane × Answer :=
  checked p.itemChecks
    (fun p =>
      match p.currentCtx.item number with
      | none => (p, alone .badValue)
      | some r => p.voidRecordOf number r) p

/-- VOID_ITEM's action and reply. -/
def doVoidItem (index : Nat) (p : Lane) : Lane × Answer :=
  withItemReply (Lane.voidItem index) p

/-- VOID_ITEM (R13). -/
def execVoidItem (tag : Byte) (index : Nat) (s : State) : Host.Outcome State Fault Refusal :=
  request (.voidItem tag index) (doVoidItem index) s

/-! ## TOTAL and BACK_TO_ITEMS (R14, R15) -/

/-- The sale state of a context. -/
def Lane.setSaleState (i : Fin 6) (s : SaleState) (p : Lane) : Lane :=
  p.setCtx i { p.ctx i with saleState := some s }

/-- TOTAL passes its checks: TENDER for a subtotal above 0, otherwise settlement (R14). -/
def Lane.totalSale (p : Lane) : Lane × Answer :=
  match p.current with
  | none => (p, refusedWith .noSaleOpen)
  | some i =>
    let subtotal := (p.ctx i).subtotal
    if 0 < subtotal then
      ((p.setSaleState i .tender).enterTender, ok [.name SaleState.tender.code, .money subtotal, .money 0])
    else (p.settle i .total, ok [.name SaleState.settled.code, .money subtotal, .money (-subtotal)])

/-- TOTAL's checks and action. -/
def Lane.total (p : Lane) : Lane × Answer :=
  checked p.itemChecks
    (checked
      [(p.currentCtx.items.isEmpty, refusedWith .empty),
       (p.backlogged, refusedWith .printBacklog),
       (p.currentCtx.subtotal < -999999, refusedWith .changeLimit)]
      Lane.totalSale) p

/-- TOTAL's action and reply; it leaves the subtotal as it was. -/
def doTotal (p : Lane) : Lane × Answer :=
  let r := p.total
  (r.1, r.2.withTotal p.currentCtx.subtotal)

/-- TOTAL (R14). -/
def execTotal (tag : Byte) (s : State) : Host.Outcome State Fault Refusal :=
  request (.total tag) doTotal s

/-- The CURRENT sale returns to OPEN (R15). -/
def Lane.backToItems (p : Lane) : Lane × Answer :=
  match p.current with
  | none => (p, refusedWith .noSaleOpen)
  | some i => ((p.setSaleState i .opened).leaveTender, ok [.money (p.ctx i).subtotal])

/-- BACK_TO_ITEMS's action and reply. -/
def doBackToItems (p : Lane) : Lane × Answer :=
  checked
    [(p.noSaleOpen, refusedWith .noSaleOpen),
     (p.currentCtx.saleState ≠ some .tender, alone .wrongState),
     (p.till.locked, refusedWith .keyPosition),
     (!p.currentCtx.tenders.isEmpty, refusedWith .tendersPresent),
     (p.cards.queue.any CardEntry.isFetched, refusedWith .cardFetched)]
    Lane.backToItems p

/-- BACK_TO_ITEMS (R15). -/
def execBackToItems (tag : Byte) (s : State) : Host.Outcome State Fault Refusal :=
  request (.backToItems tag) doBackToItems s

/-! ## CANCEL_SALE (R16) -/

/-- A CARD tender in the list of a sale in TENDER. -/
def Context.cardTendered (c : Context) : Bool :=
  c.saleState = some .tender && c.tenders.any fun t => !t.isCash

/-- The sale is cancelled: the capture, the notice to the classifier, the state and the void slip (R16). On an IDLE
engine the void slip starts before the reply, so a PRINT_PAUSED of its first row precedes the OK (log entry 23). -/
def Lane.cancelSale (p : Lane) : Lane × Answer :=
  match p.current with
  | none => (p, refusedWith .noSaleOpen)
  | some i =>
    let p := p.endCapture .cancelled []
    let p := if (p.ctx i).saleState = some .tender then p.leaveTender else p
    let c := { p.ctx i with saleState := some .cancelled, closeTime := p.clock, role := .printHeld }
    ((p.setCtx i c).placeJob .voidSlip i, ok [.u16 (c.txn.getD 0)])

/-- CANCEL_SALE's action and reply. -/
def doCancelSale (p : Lane) : Lane × Answer :=
  checked
    [(p.noSaleOpen, refusedWith .noSaleOpen),
     (p.currentCtx.cardTendered, refusedWith .cardTendered),
     (!p.currentCtx.items.isEmpty && !p.till.manager, refusedWith .keyPosition),
     (p.backlogged, refusedWith .printBacklog)]
    Lane.cancelSale p

/-- CANCEL_SALE (R16). -/
def execCancelSale (tag : Byte) (s : State) : Host.Outcome State Fault Refusal :=
  request (.cancelSale tag) doCancelSale s

/-! ## The suspend stack (R17 to R20) -/

/-- Replaces the suspend stack. -/
def Lane.setStack (stack : List (Fin 6)) (p : Lane) : Lane :=
  { p with sale := { p.sale with stack := stack } }

/-- The CURRENT sale goes on top of the stack (R18). -/
def Lane.suspendSale (p : Lane) : Lane × Answer :=
  match p.current with
  | none => (p, refusedWith .noSaleOpen)
  | some i =>
    let p := p.endCapture .cancelled []
    let p := (p.setRole i .suspended).setStack (p.sale.stack ++ [i])
    (p, ok [.u16 ((p.ctx i).txn.getD 0), .u8 p.sale.stack.length])

/-- SUSPEND's action and reply. -/
def doSuspend (p : Lane) : Lane × Answer :=
  checked
    [(p.noSaleOpen, refusedWith .noSaleOpen),
     (p.currentCtx.saleState ≠ some .opened, alone .wrongState),
     (3 ≤ p.sale.stack.length, refusedWith .stackFull)]
    Lane.suspendSale p

/-- SUSPEND (R18). -/
def execSuspend (tag : Byte) (s : State) : Host.Outcome State Fault Refusal :=
  request (.suspend tag) doSuspend s

/-- The top of the stack becomes CURRENT (R19). -/
def Lane.resumeSale (p : Lane) : Lane × Answer :=
  match p.sale.stack.getLast? with
  | none => (p, refusedWith .stackEmpty)
  | some i =>
    let p := (p.setRole i .current).setStack p.sale.stack.dropLast
    (p, ok [.u8 i, .u16 ((p.ctx i).txn.getD 0), .money (p.ctx i).subtotal])

/-- RESUME's action and reply. -/
def doResume (p : Lane) : Lane × Answer :=
  checked
    [(p.store.inCal, refusedWith .calMode),
     (!p.noSaleOpen, refusedWith .saleOpen),
     (p.till.locked, refusedWith .keyPosition),
     (p.sale.stack.isEmpty, refusedWith .stackEmpty)]
    Lane.resumeSale p

/-- RESUME (R19). -/
def execResume (tag : Byte) (s : State) : Host.Outcome State Fault Refusal :=
  request (.resume tag) doResume s

/-- The bottom of the stack is dropped: with items only at MANAGER (R20). -/
def doDropSuspended (p : Lane) : Lane × Answer :=
  match p.sale.stack with
  | [] => (p, refusedWith .stackEmpty)
  | i :: _ =>
    checked [(!(p.ctx i).items.isEmpty && !p.till.manager, refusedWith .keyPosition)]
      (fun p =>
        let txn := (p.ctx i).txn.getD 0
        let p := p.freeCtx i
        (p, ok [.u16 txn, .u8 p.sale.stack.length])) p

/-- DROP_SUSPENDED (R20). -/
def execDropSuspended (tag : Byte) (s : State) : Host.Outcome State Fault Refusal :=
  request (.dropSuspended tag) doDropSuspended s

/-! ## Reports (R21, R22) -/

/-- A context that is not FREE. -/
def Context.taken (c : Context) : Option Context :=
  if c.role = .free then none else some c

/-- A context in SALE_STATUS. -/
def Context.statusFields (c : Context) : List Field :=
  [.name c.role.code] ++ optional (fun x => [.u16 ((Context.txn x).getD 0)]) c.taken ++
    optional (fun x => [stateField x]) c.taken ++ optional (fun x => [.u8 (Context.pin x)]) c.taken

/-- The last 4 digits of a loyalty number. -/
def Context.loyaltyDigits (c : Context) : Option Text :=
  c.loyalty.map lastFour

/-- The part of SALE_STATUS on the CURRENT sale, each field optional (R21, R193). -/
def currentFields (i : Option (Fin 6)) (c : Option Context) : List Field :=
  optional (fun n => [.u8 (Fin.val n)]) i ++
    optional (fun x => [.u8 (Context.items x).length]) c ++
    optional (fun x => [.u8 (Context.tenders x).length]) c ++
    optional (fun x => [.money (Context.subtotal x)]) c ++
    optional (fun x => [.money (Context.tenderSum x)]) c ++
    optional (fun x => [.money (Context.balance x)]) c ++
    optional (fun x => [.money (Context.changeDue x)]) c ++
    optional (fun x => [.name (drawerCode (Context.drawer x))]) c ++
    stampField (c.bind Context.beginTime) ++
    optional (fun x => [.flag (Context.restarted x)]) c ++
    textField (c.bind Context.loyaltyDigits)

/-- The reply to SALE_STATUS (R21). -/
def Lane.saleReport (p : Lane) : List Field :=
  contextNumbers.flatMap (fun i => (p.ctx i).statusFields) ++ listed (fun i => [.u8 (Fin.val i)]) p.sale.stack ++
    [.u16 p.poolFree, .flag p.backlogged, .flag p.scale.capture.isSome] ++
    currentFields p.current (p.current.map fun i => p.ctx i)

/-- SALE_STATUS's action and reply. -/
def doSaleStatus (p : Lane) : Lane × Answer :=
  (p, ok p.saleReport)

/-- SALE_STATUS (R21). -/
def execSaleStatus (tag : Byte) (s : State) : Host.Outcome State Fault Refusal :=
  request (.saleStatus tag) doSaleStatus s

/-- The kind of a record: KEYED, WEIGHED or VOID (R5). -/
def ItemDetail.code : ItemDetail → Nat
  | .keyed _ _ => 0
  | .weighed _ _ _ _ => 1
  | .void _ => 2

/-- The fields of a record's kind (R5). -/
def ItemDetail.fields : ItemDetail → List Field
  | .keyed quantity unit => [.u16 quantity, .money unit]
  | .weighed net tare division price => [.u16 net.toNat, .u16 tare, .u16 division, .money price]
  | .void item => [.u8 item]

/-- A numbered record in SALE_ITEMS (R22). -/
def itemReport (n : Nat × ItemRecord) : List Field :=
  [.u8 n.1, .name n.2.detail.code, .text n.2.description, .money n.2.amount] ++ stampField n.2.time ++
    [.flag n.2.voided] ++ n.2.detail.fields

/-- SALE_ITEMS's action and reply. -/
def doSaleItems (first count : Nat) (p : Lane) : Lane × Answer :=
  checked
    [(p.noSaleOpen, refusedWith .noSaleOpen),
     (first < 1 || 150 < first || count < 1 || 8 < count, alone .badValue)]
    (fun p => (p, ok (listed itemReport (((numbered 1 p.currentCtx.items).drop (first - 1)).take count)))) p

/-- SALE_ITEMS (R22). -/
def execSaleItems (tag : Byte) (first count : Nat) (s : State) : Host.Outcome State Fault Refusal :=
  request (.saleItems tag first count) (doSaleItems first count) s

end Sys2Proof.Machine
end

