-- ==== Sys2Proof/Machine/Link.lean ====
section
/-! DEFINITION. Machine/Link.lean: the lane link: its own requests, the request a frame carries, bytes and
frames, and the end of a frame on the transmit line (chapter 11). -/

namespace Sys2Proof.Machine

/-! ## Updates of the link -/

/-- Changes the lane link. -/
def Lane.withLink (f : Link → Link) (p : Lane) : Lane :=
  { p with link := f p.link }

/-! ## The link's requests (R187 to R192) -/

/-- The drawer driver's byte in STATUS: IDLE 0 or DRIVING 1 (R192). -/
def driverCode (g : Option Driving) : Nat :=
  if g.isSome then 1 else 0

/-- The reply to STATUS (R192). -/
def Lane.statusReport (p : Lane) : List Field :=
  [.flagSet p.link.flags, .u8 p.link.events.length, .enableSet p.link.enabled, .name p.link.rate.code] ++
    stampField p.clock ++
    [.u8 p.link.identity.toNat, .name p.store.calState.code, .name (switchCode p.store.switch),
     .name p.scale.unit.code, .flag p.scale.capture.isSome] ++
    p.swipe.fields ++ [.u8 p.cards.queue.length] ++ optional (fun i => [.u8 (Fin.val i)]) p.current ++
    [.u8 p.sale.stack.length, .u16 p.poolFree, .name (driverCode p.till.driver), .name (keyCode p.till.key),
     .name p.till.shown.code, .name p.printer.engine.code, .u8 p.printer.queue.length]

/-- STATUS's action and reply. -/
def doStatus (p : Lane) : Lane × Answer :=
  (p, ok p.statusReport)

/-- STATUS (R192). -/
def execStatus (tag : Byte) (s : State) : Host.Outcome State Fault Refusal :=
  request (.status tag) doStatus s

/-- FLAGS_CLEAR's action and reply: bits 11 to 15 are BAD_VALUE (R188). -/
def doFlagsClear (set : BitVec 16) (p : Lane) : Lane × Answer :=
  checked [(set &&& 0xF800#16 ≠ 0, alone .badValue)]
    (fun p =>
      let p := p.withLink fun l => { l with flags := l.flags &&& ~~~set }
      (p, ok [.flagSet p.link.flags])) p

/-- FLAGS_CLEAR (R188). -/
def execFlagsClear (tag : Byte) (set : BitVec 16) (s : State) : Host.Outcome State Fault Refusal :=
  request (.flagsClear tag set) (doFlagsClear set) s

/-- EVENT_MASK's action and reply: bit 31 is BAD_VALUE (R187). -/
def doEventMask (set : BitVec 32) (p : Lane) : Lane × Answer :=
  checked [(set.getLsbD 31, alone .badValue)]
    (fun p => (p.withLink fun l => { l with enabled := set }, ok [.enableSet set])) p

/-- EVENT_MASK (R187). -/
def execEventMask (tag : Byte) (set : BitVec 32) (s : State) : Host.Outcome State Fault Refusal :=
  request (.eventMask tag set) (doEventMask set) s

/-- CLOCK_SET's action and reply: the next second begins from the request (R189). -/
def doClockSet (t : DateTime) (p : Lane) : Lane × Answer :=
  checked [(!t.valid, alone .badValue)]
    (fun p => (p.withLink fun l => { l with clock := some t, nextSecond := p.now + 1000000 }, ok [.stamp t])) p

/-- CLOCK_SET (R189). -/
def execClockSet (tag : Byte) (year month day hour minute second : Nat) (s : State) :
    Host.Outcome State Fault Refusal :=
  request (.clockSet tag year month day hour minute second) (doClockSet ⟨year, month, day, hour, minute, second⟩) s

/-- A day after another; after 2099-12-31 comes 2000-01-01 (R189). -/
def DateTime.nextDay (t : DateTime) : DateTime :=
  let t := { t with hour := 0, minute := 0, second := 0 }
  if t.day < daysInMonth t.year t.month then { t with day := t.day + 1 }
  else if t.month < 12 then { t with day := 1, month := t.month + 1 }
  else if t.year < 99 then { t with day := 1, month := 1, year := t.year + 1 }
  else { t with day := 1, month := 1, year := 0 }

/-- A second later by the calendar (R189). -/
def DateTime.nextSecond (t : DateTime) : DateTime :=
  if t.second < 59 then { t with second := t.second + 1 }
  else if t.minute < 59 then { t with minute := t.minute + 1, second := 0 }
  else if t.hour < 23 then { t with hour := t.hour + 1, minute := 0, second := 0 }
  else t.nextDay

/-- The clock's second ends; an UNSET clock stays UNSET (R189). -/
def Lane.clockTick (p : Lane) : Lane :=
  let p := p.elapseTo p.link.nextSecond
  p.withLink fun l => { l with clock := l.clock.map DateTime.nextSecond, nextSecond := p.now + 1000000 }

/-- CLOCK_TICK (R189). -/
def execClockTick (s : State) : Host.Outcome State Fault Refusal :=
  s.advance Lane.clockTick

/-- LINK_RATE's action and reply: the rate waits for the reply's last byte (R190). -/
def doLinkRate (rate : Byte) (p : Lane) : Lane × Answer :=
  match rateOf rate with
  | none => (p, alone .badValue)
  | some r => (p.withLink fun l => { l with newRate := some r }, ok [])

/-- LINK_RATE (R190). -/
def execLinkRate (tag : Byte) (rate : Byte) (s : State) : Host.Outcome State Fault Refusal :=
  request (.linkRate tag rate) (doLinkRate rate) s

/-- RESET_LANE's reply; the lane reset comes when its last byte has been sent (R191). -/
def doResetLane (p : Lane) : Lane × Answer :=
  (p, ok [])

/-- RESET_LANE (R191). -/
def execResetLane (tag : Byte) (s : State) : Host.Outcome State Fault Refusal :=
  request (.resetLane tag) doResetLane s

/-- The reply to a code outside the catalogue (R184). -/
def doUnknownRequest (p : Lane) : Lane × Answer :=
  (p, alone .unknownRequest)

/-- UNKNOWN_REQUEST (R184). -/
def execUnknownRequest (code tag : Byte) (payload : Text) (s : State) : Host.Outcome State Fault Refusal :=
  request (.unknownRequest code tag payload) doUnknownRequest s

/-! ## The request a complete frame carries (R182, R184) -/

/-- What the owner of a request does with it (R184 step 3). A command that is no request comes in no frame. -/
def serveRequest (i : Instr) : Lane → Lane :=
  match i with
  | .beginSale _ => Lane.serveBegin
  | .item _ d q u => Lane.serve (doItem d q u)
  | .voidItem _ n => Lane.serve (doVoidItem n)
  | .total _ => Lane.serve doTotal
  | .backToItems _ => Lane.serve doBackToItems
  | .cancelSale _ => Lane.serve doCancelSale
  | .suspend _ => Lane.serve doSuspend
  | .resume _ => Lane.serve doResume
  | .dropSuspended _ => Lane.serve doDropSuspended
  | .saleStatus _ => Lane.serve doSaleStatus
  | .saleItems _ first count => Lane.serve (doSaleItems first count)
  | .zero _ => Lane.serve doZero
  | .tare _ => Lane.serve doTare
  | .tarePreset _ g => Lane.serve (doTarePreset g)
  | .tareClear _ => Lane.serve doTareClear
  | .scaleSetup _ a n => Lane.serve (doScaleSetup a n)
  | .weightRead _ => Lane.serve doWeightRead
  | .scaleFeed _ b => Lane.serve (doScaleFeed b)
  | .weigh _ d x => Lane.serve (doWeigh d x)
  | .weighCancel _ => Lane.serve doWeighCancel
  | .calEnter _ => Lane.serve doCalEnter
  | .calExit _ => Lane.serve doCalExit
  | .calZero _ => Lane.serve doCalZero
  | .calSpan _ m => Lane.serve (doCalSpan m)
  | .calSet _ n w b => Lane.serve (doCalSet n w b)
  | .calCommit _ => Lane.serve doCalCommit
  | .identify _ => Lane.serve doIdentify
  | .readerEnable _ h b => Lane.serve (doReaderEnable h b)
  | .rangeWrite _ n e => Lane.serve (doRangeWrite n e)
  | .rangeMask _ m => Lane.serve (doRangeMask m)
  | .rangeRead _ n => Lane.serve (doRangeRead n)
  | .cardSetup _ n => Lane.serve (doCardSetup n)
  | .cardFetch _ h => Lane.serve (doCardFetch h)
  | .cardList _ => Lane.serve doCardList
  | .cardDiscard _ h => Lane.serve (doCardDiscard h)
  | .tenderCash _ a => Lane.serve (doTenderCash a)
  | .tenderCard _ h a c code => Lane.serve (doTenderCard h a c code)
  | .declineCard _ h => Lane.serve (doDeclineCard h)
  | .settleSetup _ b => Lane.serve (doSettleSetup b)
  | .saleTenders _ n => Lane.serve (doSaleTenders n)
  | .drawerOpen _ d => Lane.serve (doDrawerOpen d)
  | .noSale _ d => Lane.serve (doNoSale d)
  | .drawerClearFault _ d => Lane.serve (doDrawerClearFault d)
  | .drawerSetup _ ms a b => Lane.serve (doDrawerSetup ms a b)
  | .drawerSelect _ d => Lane.serve (doDrawerSelect d)
  | .assistClear _ => Lane.serve doAssistClear
  | .light _ m => Lane.serve (doLight m)
  | .drawerStatus _ => Lane.serve doDrawerStatus
  | .reprint _ => Lane.serve doReprint
  | .slip _ lines => Lane.serve (doSlip lines)
  | .headerSet _ lines x => Lane.serve (doHeaderSet lines x)
  | .headerRead _ => Lane.serve doHeaderRead
  | .printResume _ => Lane.serve doPrintResume
  | .printAbort _ => Lane.serve doPrintAbort
  | .feed _ n => Lane.serve (doFeed n)
  | .printStatus _ => Lane.serve doPrintStatus
  | .status _ => Lane.serve doStatus
  | .flagsClear _ m => Lane.serve (doFlagsClear m)
  | .clockSet _ y mo d h mi s => Lane.serve (doClockSet ⟨y, mo, d, h, mi, s⟩)
  | .linkRate _ r => Lane.serve (doLinkRate r)
  | .resetLane _ => Lane.serve doResetLane
  | .eventMask _ m => Lane.serve (doEventMask m)
  | .unknownRequest _ _ _ => Lane.serve doUnknownRequest
  | _ => id

/-- A complete frame is served: UNKNOWN_REQUEST, BAD_VALUE for fields that cannot be read, or its owner
(R184). -/
def serveFrame (f : Frame) : Lane → Lane :=
  match parseRequest f with
  | .unknown => Lane.serve doUnknownRequest
  | .unreadable => Lane.serve fun p => (p, alone .badValue)
  | .request i => serveRequest i

/-! ## Bytes and frames received (R182, R183) -/

/-- The receiver. -/
def Lane.setReceiver (r : Receiver) (p : Lane) : Lane :=
  p.withLink fun l => { l with receiver := r }

/-- A frame whose CRC disagrees is discarded: LINK_ERROR BAD_CRC with the code and tag as received, and
BAD_CRC latched (R182). -/
def Lane.badCrc (code tag : Byte) (p : Lane) : Lane :=
  ((p.setReceiver .hunt).event 0x9E#8 [.name 0, .u8 code.toNat, .u8 tag.toNat]).latch .badCrc

/-- The payload length in the bytes collected (R181). -/
def payloadLength (buffer : List Byte) : Nat :=
  (buffer.getD 1 0#8).toNat * 256 + (buffer.getD 2 0#8).toNat

/-- The bytes the CRC is computed over (R181). -/
def crcSpan (buffer : List Byte) : Text :=
  (buffer.drop 1).take (4 + payloadLength buffer)

/-- The CRC of a whole buffer agrees with the one received (R182). -/
def crcAgrees (buffer : List Byte) : Bool :=
  put16 (crc16 (crcSpan buffer)).toNat == buffer.drop (5 + payloadLength buffer)

/-- The frame in a whole buffer (R181). -/
def bufferFrame (buffer : List Byte) : Frame :=
  ⟨buffer.getD 3 0#8, buffer.getD 4 0#8, (buffer.drop 5).take (payloadLength buffer)⟩

/-- The last CRC byte has been taken (R182). -/
def Lane.frameComplete (buffer : List Byte) (p : Lane) : Lane :=
  let f := bufferFrame buffer
  if crcAgrees buffer then (p.setReceiver .hunt).arrive f (serveFrame f) else p.badCrc f.code f.tag

/-- A byte is placed in the receive frame buffer: the length test at the second length byte, the CRC at the
last byte (R182). -/
def Lane.collectByte (buffer : List Byte) (p : Lane) : Lane :=
  if buffer.length = 3 ∧ 1400 < payloadLength buffer then p.setReceiver .hunt
  else if 3 ≤ buffer.length ∧ buffer.length = 7 + payloadLength buffer then p.frameComplete buffer
  else p.setReceiver (.collect buffer)

/-- A byte arrives with its stop bit good (R182, R183). -/
def Lane.byteReceived (b : Byte) (p : Lane) : Lane :=
  match p.link.receiver with
  | .hunt => if b = 0x5A#8 then p.setReceiver (.collect [b]) else p
  | .collect buffer => p.collectByte (buffer ++ [b])
  | .held _ _ => p.withLink Link.byteWhileHeld

/-- BYTE_RECEIVED (R182). -/
def execByteReceived (byte : Byte) (s : State) : Host.Outcome State Fault Refusal :=
  s.advance (Lane.byteReceived byte)

/-- A whole frame whose CRC disagrees arrives; in HELD its bytes are discarded (R182, R183). -/
def Lane.frameBadCrc (code tag : Byte) (p : Lane) : Lane :=
  match p.link.receiver with
  | .held _ _ => p.withLink Link.byteWhileHeld
  | .hunt | .collect _ => p.badCrc code tag

/-- FRAME_BAD_CRC (R182). -/
def execFrameBadCrc (code tag : Byte) (s : State) : Host.Outcome State Fault Refusal :=
  s.advance (Lane.frameBadCrc code tag)

/-- A frame in COLLECT is abandoned, without an event (R183). -/
def Lane.abandonFrame (p : Lane) : Lane :=
  match p.link.receiver with
  | .collect _ => p.setReceiver .hunt
  | .hunt | .held _ _ => p

/-- Bytes that end a frame in COLLECT, or that arrive in HELD and are discarded (R183). -/
def Lane.abandonByte (p : Lane) : Lane :=
  match p.link.receiver with
  | .held _ _ => p.withLink Link.byteWhileHeld
  | .hunt | .collect _ => p.abandonFrame

/-- FRAME_LENGTH_ABANDON: the second length byte gives a length above 1,400 (R182). -/
def execFrameLengthAbandon (s : State) : Host.Outcome State Fault Refusal :=
  s.advance Lane.abandonByte

/-- GAP_LIMIT_EXPIRY: more than 20 ms pass between two bytes of a frame (R183). -/
def execGapLimitExpiry (s : State) : Host.Outcome State Fault Refusal :=
  s.advance Lane.abandonFrame

/-- STOP_BIT_ERROR: a byte is received with its stop bit low (R183, log entry 28). -/
def execStopBitError (s : State) : Host.Outcome State Fault Refusal :=
  s.advance Lane.abandonByte

/-- BYTE_WHILE_HELD (R183). -/
def execByteWhileHeld (s : State) : Host.Outcome State Fault Refusal :=
  s.advance fun p => p.withLink Link.byteWhileHeld

/-! ## The end of a frame on the transmit line (R182, R186, R190, R191) -/

/-- The OK reply of RESET_LANE. -/
def Message.resetsLane (m : Message) : Bool :=
  m.code = 0x74#8 && m.fields = [.status .ok]

/-- The rate changes after the reply of LINK_RATE; a frame in COLLECT is abandoned (R183, R190). -/
def Lane.changeRate (p : Lane) : Lane :=
  match p.link.newRate with
  | none => p
  | some r => (p.withLink fun l => { l with rate := r, newRate := none }).abandonFrame

/-- The held frame is taken as a request, and the receiver returns to HUNT (R182). -/
def Lane.takeHeld (p : Lane) : Lane :=
  match p.link.receiver with
  | .held f _ => p.take f (serveFrame f)
  | .hunt | .collect _ => p

/-- The line is free: no frame is being sent. -/
def Lane.lineFree (p : Lane) : Lane :=
  p.withLink fun l => { l with sending := none }

/-- The last byte of a reply has been sent: no request is in progress; then the lane reset of a RESET_LANE
reply, or the rate change, the transmitter's next frame and the held request (R182, R186, R190, R191, log
entry 24). -/
def Lane.replySent (m : Message) (p : Lane) : Lane :=
  let p := p.lineFree.withLink fun l => { l with inProgress := none }
  if m.resetsLane then p.laneReset else (p.changeRate.withLink Link.pump).takeHeld

/-- The last byte of the frame being sent has gone; with the line idle nothing happens (R186). -/
def Lane.frameSent (p : Lane) : Lane :=
  match p.link.sending with
  | none => p
  | some (.event _) => p.lineFree.withLink Link.pump
  | some (.reply m) => p.replySent m

/-- FRAME_SENT (R186). -/
def execFrameSent (s : State) : Host.Outcome State Fault Refusal :=
  s.advance Lane.frameSent

/-- A reply is on the transmit line. -/
def Link.sendingReply (l : Link) : Bool :=
  match l.sending with
  | some (.reply _) => true
  | _ => false

/-- A complete frame is held. -/
def Link.holding (l : Link) : Bool :=
  match l.receiver with
  | .held _ _ => true
  | _ => false

/-- LINK_RATE_CHANGE: the last byte of LINK_RATE's reply has been sent (R190, log entry 2). -/
def execLinkRateChange (s : State) : Host.Outcome State Fault Refusal :=
  s.advance fun p => if p.link.sendingReply ∧ p.link.newRate.isSome then p.frameSent else p

/-- HELD_FRAME_TAKEN: the last byte of the reply of the request in progress has been sent while a frame is
held (R182, log entry 2). -/
def execHeldFrameTaken (s : State) : Host.Outcome State Fault Refusal :=
  s.advance fun p => if p.link.sendingReply ∧ p.link.holding then p.frameSent else p

end Sys2Proof.Machine
end

