-- ==== Sys2Proof/Machine/Dispatch.lean ====
section
/-! DEFINITION. Machine/Dispatch.lean: the meaning of each command. -/

namespace Sys2Proof.Machine

/-- A command's effect on everything but the queue of waiting commands. -/
def exec (i : Instr) (s : State) : Host.Outcome State Fault Refusal :=
  match i with
  | .powerOn inputs torn => Sys2Proof.Machine.execPowerOn inputs torn s
  | .resetInput inputs torn => Sys2Proof.Machine.execResetInput inputs torn s
  | .laneReset => Sys2Proof.Machine.execLaneReset s
  | .beginSale tag => Sys2Proof.Machine.execBegin tag s
  | .txnNumberWriteEnd result => Sys2Proof.Machine.execTxnNumberWriteEnd result s
  | .item tag description quantity unitAmount => Sys2Proof.Machine.execItem tag description quantity unitAmount s
  | .voidItem tag index => Sys2Proof.Machine.execVoidItem tag index s
  | .total tag => Sys2Proof.Machine.execTotal tag s
  | .backToItems tag => Sys2Proof.Machine.execBackToItems tag s
  | .cancelSale tag => Sys2Proof.Machine.execCancelSale tag s
  | .suspend tag => Sys2Proof.Machine.execSuspend tag s
  | .resume tag => Sys2Proof.Machine.execResume tag s
  | .dropSuspended tag => Sys2Proof.Machine.execDropSuspended tag s
  | .saleStatus tag => Sys2Proof.Machine.execSaleStatus tag s
  | .saleItems tag first count => Sys2Proof.Machine.execSaleItems tag first count s
  | .zero tag => Sys2Proof.Machine.execZero tag s
  | .tare tag => Sys2Proof.Machine.execTare tag s
  | .tarePreset tag grams => Sys2Proof.Machine.execTarePreset tag grams s
  | .tareClear tag => Sys2Proof.Machine.execTareClear tag s
  | .scaleSetup tag autoClear tenths => Sys2Proof.Machine.execScaleSetup tag autoClear tenths s
  | .weightRead tag => Sys2Proof.Machine.execWeightRead tag s
  | .scaleFeed tag setting => Sys2Proof.Machine.execScaleFeed tag setting s
  | .adcSample count => Sys2Proof.Machine.execAdcSample count s
  | .joltHoldExpiry => Sys2Proof.Machine.execJoltHoldExpiry s
  | .weigh tag description unitPrice => Sys2Proof.Machine.execWeigh tag description unitPrice s
  | .weighCancel tag => Sys2Proof.Machine.execWeighCancel tag s
  | .captureTimeout => Sys2Proof.Machine.execCaptureTimeout s
  | .calEnter tag => Sys2Proof.Machine.execCalEnter tag s
  | .calExit tag => Sys2Proof.Machine.execCalExit tag s
  | .calZero tag => Sys2Proof.Machine.execCalZero tag s
  | .calSpan tag mass => Sys2Proof.Machine.execCalSpan tag mass s
  | .calSet tag filterLength windowLength tracking => Sys2Proof.Machine.execCalSet tag filterLength windowLength tracking s
  | .calCommit tag => Sys2Proof.Machine.execCalCommit tag s
  | .calCounterWriteEnd result => Sys2Proof.Machine.execCalCounterWriteEnd result s
  | .calRecordWriteEnd result => Sys2Proof.Machine.execCalRecordWriteEnd result s
  | .calSwitchOpening => Sys2Proof.Machine.execCalSwitchOpening s
  | .calSwitchClosing => Sys2Proof.Machine.execCalSwitchClosing s
  | .identify tag => Sys2Proof.Machine.execIdentify tag s
  | .readerEnable tag head setting => Sys2Proof.Machine.execReaderEnable tag head setting s
  | .swipeEnd => Sys2Proof.Machine.execSwipeEnd s
  | .cardExpired handle => Sys2Proof.Machine.execCardExpired handle s
  | .rangeWrite tag index entry => Sys2Proof.Machine.execRangeWrite tag index entry s
  | .rangeMask tag positions => Sys2Proof.Machine.execRangeMask tag positions s
  | .rangeRead tag index => Sys2Proof.Machine.execRangeRead tag index s
  | .cardSetup tag tens => Sys2Proof.Machine.execCardSetup tag tens s
  | .cardFetch tag handle => Sys2Proof.Machine.execCardFetch tag handle s
  | .cardList tag => Sys2Proof.Machine.execCardList tag s
  | .cardDiscard tag handle => Sys2Proof.Machine.execCardDiscard tag handle s
  | .tenderCash tag amount => Sys2Proof.Machine.execTenderCash tag amount s
  | .tenderCard tag handle amount cashback approval => Sys2Proof.Machine.execTenderCard tag handle amount cashback approval s
  | .declineCard tag handle => Sys2Proof.Machine.execDeclineCard tag handle s
  | .settleSetup tag autoOpen => Sys2Proof.Machine.execSettleSetup tag autoOpen s
  | .saleTenders tag txn => Sys2Proof.Machine.execSaleTenders tag txn s
  | .drawerOpen tag drawer => Sys2Proof.Machine.execDrawerOpen tag drawer s
  | .noSale tag drawer => Sys2Proof.Machine.execNoSale tag drawer s
  | .drawerClearFault tag drawer => Sys2Proof.Machine.execDrawerClearFault tag drawer s
  | .drawerSetup tag pulseMs alarmSeconds interlock => Sys2Proof.Machine.execDrawerSetup tag pulseMs alarmSeconds interlock s
  | .drawerSelect tag drawer => Sys2Proof.Machine.execDrawerSelect tag drawer s
  | .assistClear tag => Sys2Proof.Machine.execAssistClear tag s
  | .light tag mode => Sys2Proof.Machine.execLight tag mode s
  | .drawerStatus tag => Sys2Proof.Machine.execDrawerStatus tag s
  | .kickPulseEnd => Sys2Proof.Machine.execKickPulseEnd s
  | .solenoidCurrentFault fault => Sys2Proof.Machine.execSolenoidCurrentFault fault s
  | .confirmWindowExpiry drawer => Sys2Proof.Machine.execConfirmWindowExpiry drawer s
  | .alarmTimerExpiry drawer => Sys2Proof.Machine.execAlarmTimerExpiry drawer s
  | .trayRemoved drawer => Sys2Proof.Machine.execTrayRemoved drawer s
  | .trayInserted drawer => Sys2Proof.Machine.execTrayInserted drawer s
  | .closedSensorOpens drawer => Sys2Proof.Machine.execClosedSensorOpens drawer s
  | .closedSensorCloses drawer => Sys2Proof.Machine.execClosedSensorCloses drawer s
  | .keyPositionChange position => Sys2Proof.Machine.execKeyPositionChange position s
  | .assistButtonPress => Sys2Proof.Machine.execAssistButtonPress s
  | .reprint tag => Sys2Proof.Machine.execReprint tag s
  | .slip tag lines => Sys2Proof.Machine.execSlip tag lines s
  | .headerSet tag lines exponent => Sys2Proof.Machine.execHeaderSet tag lines exponent s
  | .headerRead tag => Sys2Proof.Machine.execHeaderRead tag s
  | .dotRowEnd => Sys2Proof.Machine.execDotRowEnd s
  | .cutEnd => Sys2Proof.Machine.execCutEnd s
  | .headTempReading reading => Sys2Proof.Machine.execHeadTempReading reading s
  | .printerSensorChange input => Sys2Proof.Machine.execPrinterSensorChange input s
  | .printResume tag => Sys2Proof.Machine.execPrintResume tag s
  | .printRestart => Sys2Proof.Machine.execPrintRestart s
  | .printAbort tag => Sys2Proof.Machine.execPrintAbort tag s
  | .feed tag rows => Sys2Proof.Machine.execFeed tag rows s
  | .printStatus tag => Sys2Proof.Machine.execPrintStatus tag s
  | .status tag => Sys2Proof.Machine.execStatus tag s
  | .flagsClear tag set => Sys2Proof.Machine.execFlagsClear tag set s
  | .clockSet tag year month day hour minute second => Sys2Proof.Machine.execClockSet tag year month day hour minute second s
  | .clockTick => Sys2Proof.Machine.execClockTick s
  | .linkRate tag rate => Sys2Proof.Machine.execLinkRate tag rate s
  | .linkRateChange => Sys2Proof.Machine.execLinkRateChange s
  | .resetLane tag => Sys2Proof.Machine.execResetLane tag s
  | .eventMask tag set => Sys2Proof.Machine.execEventMask tag set s
  | .unknownRequest code tag payload => Sys2Proof.Machine.execUnknownRequest code tag payload s
  | .frameBadCrc code tag => Sys2Proof.Machine.execFrameBadCrc code tag s
  | .frameLengthAbandon => Sys2Proof.Machine.execFrameLengthAbandon s
  | .gapLimitExpiry => Sys2Proof.Machine.execGapLimitExpiry s
  | .stopBitError => Sys2Proof.Machine.execStopBitError s
  | .byteWhileHeld => Sys2Proof.Machine.execByteWhileHeld s
  | .heldFrameTaken => Sys2Proof.Machine.execHeldFrameTaken s
  | .frameSent => Sys2Proof.Machine.execFrameSent s
  | .fluxTransition head track time => Sys2Proof.Machine.execFluxTransition head track time s
  | .byteReceived byte => Sys2Proof.Machine.execByteReceived byte s

end Sys2Proof.Machine
end

