-- ==== Sys2Proof/Machine/Step.lean ====
section
/-! DEFINITION. Machine/Step.lean: one step: the command at the front of the queue, or 1 µs of elapsed time
on an empty queue; and the placing of a command that a word spells. -/

namespace Sys2Proof.Machine

/-- With no command waiting the part idles and one µs passes (log entry 3). -/
def State.idle (s : State) : State :=
  { s with now := s.now + 1 }

/-- One step: the command at the front of the queue is carried out with the queue's rest. -/
def step (s : State) : Host.Outcome State Fault Refusal :=
  match s.pending with
  | [] => .next s.idle
  | c :: rest => exec c { s with pending := rest }

/-- The command that a word spells is put at the front of the queue; the table gives no word a command. -/
def State.withFetchWord (s : State) (nbits w : Nat) : State :=
  match Sys2Proof.decodeTableWord nbits w with
  | some c => { s with pending := c :: s.pending }
  | none => s

end Sys2Proof.Machine
end

