-- ==== Sys2Proof/Safety.lean ====
section
/-! DEFINITION. Safety.lean: the terms claims use: when a request can be taken, the link after events and a
reply were handed over, and what a safe run is. -/

namespace Sys2Proof.Machine

/-- An outcome that goes on: neither a fault nor a refusal. -/
def goesOn (o : Host.Outcome State Fault Refusal) : Prop :=
  ∃ t, o = .next t

/-- A run of that many steps from a state that never stops. -/
def safeFor (k : Nat) (s : State) : Prop :=
  goesOn (Host.Core.run core k s)

/-- A request that comes now is taken at once: none is in progress and no frame is held (R182). -/
def State.takes (s : State) : Prop :=
  s.link.inProgress = none ∧ s.link.holding = false

/-- An event message: tag 00h (R181). -/
def eventOf (code : Byte) (fields : List Field) : Message :=
  ⟨code, 0x00#8, fields⟩

/-- Events handed over one after another (R187). -/
def Link.handEvents (l : Link) (events : List Message) : Link :=
  events.foldl (fun l m => l.handEvent m) l

/-- The link with a request taken and in progress, the receiver in HUNT (R182). -/
def Link.taking (code tag : Byte) (l : Link) : Link :=
  { l with receiver := .hunt, inProgress := some ⟨code, tag⟩ }

/-- The link after a request was taken, the given events were handed over, and then its reply with the given
fields (R182, R185, R186). -/
def Link.answered (l : Link) (code tag : Byte) (events : List Message) (fields : List Field) : Link :=
  ((l.taking code tag).handEvents events).handReply ⟨code, tag, fields⟩

/-- The part with a request taken and in progress (R182). -/
def Lane.begun (code tag : Byte) (p : Lane) : Lane :=
  { p with link := p.link.taking code tag }

/-- The fields of a refusal with a reason code (R185). -/
def refusal (r : Reason) : List Field :=
  [.status .refused, .reason r]

/-- A request is taken and answered with the given fields, and nothing but the link changes. -/
def State.says (code tag : Byte) (fields : List Field) (s : State) : Host.Outcome State Fault Refusal :=
  .next { s with link := s.link.answered code tag [] fields }

/-- The next state, with the link replaced and nothing else changed. -/
def State.linked (l : Link) (s : State) : Host.Outcome State Fault Refusal :=
  .next { s with link := l }

/-- The next state, with the part replaced and the queue of waiting commands kept. -/
def State.becomes (p : Lane) (s : State) : Host.Outcome State Fault Refusal :=
  .next { s with toLane := p }

/-- The link after an event was handed over (R187). -/
def Link.saying (code : Byte) (fields : List Field) (l : Link) : Link :=
  l.handEvent (eventOf code fields)

/-- The subtotal of a sale and the result flags NEGATIVE, ZERO and LIMIT, as the replies to ITEM, VOID_ITEM and
TOTAL carry them (R12). -/
def Context.itemFlags (limit : Bool) (c : Context) : List Field :=
  [.money c.subtotal, .flag (c.subtotal < 0), .flag (c.subtotal = 0), .flag limit]

/-- The totals of a sale and LIMIT, as the replies to TENDER_CASH and TENDER_CARD carry them; the tender count
stands between them in an OK reply (R113). -/
def Context.tenderFields (count : List Field) (limit : Bool) (c : Context) : List Field :=
  [.money c.subtotal, .money c.tenderSum, .money (c.subtotal - c.tenderSum), .money c.changeDue] ++ count ++
    [.flag limit]

/-- What the transmitter sends when the line becomes free: a reply with no events ahead, otherwise the oldest
event, a waiting reply's count falling by 1 (R186). -/
def Link.nextFrame (l : Link) : Link :=
  match l.reply, l.events with
  | some ⟨m, 0⟩, _ => { l with sending := some (.reply m), reply := none }
  | some ⟨m, n + 1⟩, e :: rest => { l with sending := some (.event e), events := rest, reply := some ⟨m, n⟩ }
  | none, e :: rest => { l with sending := some (.event e), events := rest }
  | _, [] => { l with sending := none }

/-- Bytes arrive one after another, each with its stop bit good (R182). -/
def State.receives : List Byte → State → Host.Outcome State Fault Refusal
  | [], s => .next s
  | b :: rest, s =>
    match exec (.byteReceived b) s with
    | .next t => t.receives rest
    | .fault r => .fault r
    | .refused r => .refused r

/-- The link in HUNT with a frame's CRC found wrong: LINK_ERROR BAD_CRC with the code and tag as received, and
BAD_CRC latched (R182). -/
def Link.discards (code tag : Byte) (l : Link) : Link :=
  (({ l with receiver := .hunt } : Link).saying 0x9E#8 [.name 0, .u8 code.toNat, .u8 tag.toNat]).latch .badCrc

/-- A character as a stripe records it: the bits of its value, the least significant first, then a parity bit that
makes the number of 1 bits odd (R85). -/
def recordedCharacter (k : Track) (value : Nat) : List Bool :=
  let bits := (List.range (characterBits k - 1)).map value.testBit
  bits ++ [!oddParity bits]

/-- A recorded track: zeros, the start sentinel, the characters, the end sentinel, the LRC over all of these, and
zeros (R85, R88). -/
def recordedTrack (k : Track) (values : List Nat) (leading trailing : Nat) : List Bool :=
  let whole := startSentinel k :: values ++ [endSentinel k]
  List.replicate leading false ++ (whole ++ [whole.foldl (fun x y => x ^^^ y) 0]).flatMap (recordedCharacter k) ++
    List.replicate trailing false

/-- The fields of DRAWER_DONE: drawer, outcome, basis, requester, the grant after the ending, the drive report, and the
fault reason of FAULT (R137). -/
def kickReport (d : Drawer) (k : Kick) (o : KickOutcome) (grant : Bool) (drive : Option DriveReport)
    (reason : List Field) : List Field :=
  [.name (drawerCode d), .name o.code, .name k.basis.code, .name k.requester.code, .u8 (if grant then 1 else 0)] ++
    (match drive with
     | some r => [.present, .u16 r.pulseMs, .u8 r.drivenMs, .name r.current.code]
     | none => [.absent]) ++ reason

/-! ## What every step keeps -/

/-- The lane link: at most 16 events are queued and a waiting reply counts no more of them than there are; with the line
idle nothing waits for it; no bit is set that R187 and R188 do not give; the clock is UNSET or a calendar time (R186 to
R189). -/
abbrev Link.sound (l : Link) : Prop :=
  l.events.length ≤ 16 ∧ (∀ r ∈ l.reply, r.ahead ≤ l.events.length) ∧
    (l.sending = none → l.events = [] ∧ l.reply = none) ∧ l.flags &&& 0xF800#16 = 0#16 ∧
    l.enabled.getLsbD 31 = false ∧ ∀ t ∈ l.clock, t.valid = true

/-- A context: its subtotal and tender sum are the sums of its lists, within their limits, and the lists within theirs
(R4, R12, R112, R113). -/
abbrev Context.sound (c : Context) : Prop :=
  c.subtotal = (c.items.map ItemRecord.amount).sum ∧ -99999999 ≤ c.subtotal ∧ c.subtotal ≤ 99999999 ∧
    c.items.length ≤ 150 ∧ c.tenderSum = (c.tenders.map Tender.settlementValue).sum ∧ 0 ≤ c.tenderSum ∧
    c.tenderSum ≤ 99999999 ∧ c.tenders.length ≤ 8

/-- The sale engine's amounts: every context is sound; the records held and reserved do not exceed the pool; a pending
capture has a place in its context's item list and a price that is not negative (R4, R12, R48, R113). -/
abbrev Lane.amountsSound (p : Lane) : Prop :=
  (∀ i, (p.ctx i).sound) ∧ p.held + p.reserved ≤ 256 ∧
    ∀ c ∈ p.scale.capture, (p.ctx c.context).items.length < 150 ∧ 0 ≤ c.unitPrice

/-- A context's sale state and pin fit its role; a FREE context has the values of R3 (R2, R3, R23). -/
abbrev Context.fitsRole (c : Context) : Prop :=
  (c.role = .free → c = Context.freed) ∧
    (c.role = .current → (c.saleState = some .opened ∨ c.saleState = some .tender) ∧ c.pin = 0) ∧
    (c.role = .suspended → c.saleState = some .opened ∧ c.pin = 0) ∧
    (c.role = .printHeld ∨ c.role = .lastPrinted →
      (c.saleState = some .settled ∨ c.saleState = some .cancelled) ∧ c.pin ≤ 1)

/-- The contexts that the receipts and void slips to be printed name: the queue's, and the backlog's (R123, R164). -/
def Lane.receiptContexts (p : Lane) : List (Fin 6) :=
  (p.printer.queue.filterMap fun j => if j.kind = .receipt ∨ j.kind = .voidSlip then j.context else none) ++
    (p.sale.backlog.map BacklogJob.context).toList

/-- The contexts that the copies to be printed name (R159). -/
def Lane.copyContexts (p : Lane) : List (Fin 6) :=
  p.printer.queue.filterMap fun j => if j.kind = .copy then j.context else none

/-- The settlement backlog is EMPTY or holds a RECEIPT or a VOID_SLIP (R123). -/
abbrev Sale.backlogSound (s : Sale) : Prop :=
  ∀ b ∈ s.backlog, b.kind = .receipt ∨ b.kind = .voidSlip

/-- The number of a BEGIN is being written (R10). -/
def Store.writesNumber (s : Store) : Bool :=
  match s.write with
  | some (.txnNumber _) => true
  | _ => false

/-- One request at a time: a reply waits or is being sent only for the request in progress, and not both at once; while a
BEGIN's number is written the BEGIN is in progress and unanswered (R10, R182, R186). -/
abbrev Lane.requestSound (p : Lane) : Prop :=
  (p.link.inProgress = none → p.link.reply = none ∧ p.link.sendingReply = false) ∧
    (p.link.sendingReply = true → p.link.reply = none) ∧
    (p.store.writesNumber = true →
      p.link.inProgress ≠ none ∧ p.link.reply = none ∧ p.link.sendingReply = false)

/-- The contexts' roles: states and pins fit them; at most one is CURRENT and at most one LAST_PRINTED; the suspend stack
holds the SUSPENDED contexts, each once, at most three; a receipt or void slip to be printed names an unpinned PRINT_HELD
context and a copy a pinned one, each its own; a pending capture is for the CURRENT context in OPEN; while a BEGIN's number
is written there is no CURRENT context (R2, R10, R17, R23, R47, R123, R159). -/
abbrev Lane.rolesSound (p : Lane) : Prop :=
  (∀ i, (p.ctx i).fitsRole) ∧
    (∀ i j, (p.ctx i).role = .current → (p.ctx j).role = .current → i = j) ∧
    (∀ i j, (p.ctx i).role = .lastPrinted → (p.ctx j).role = .lastPrinted → i = j) ∧
    p.sale.stack.Nodup ∧ p.sale.stack.length ≤ 3 ∧ (∀ i, i ∈ p.sale.stack ↔ (p.ctx i).role = .suspended) ∧
    p.receiptContexts.Nodup ∧ (∀ i ∈ p.receiptContexts, (p.ctx i).role = .printHeld ∧ (p.ctx i).pin = 0) ∧
    p.copyContexts.Nodup ∧
    (∀ i ∈ p.copyContexts, ((p.ctx i).role = .printHeld ∨ (p.ctx i).role = .lastPrinted) ∧ (p.ctx i).pin = 1) ∧
    (∀ c ∈ p.scale.capture, (p.ctx c.context).role = .current ∧ (p.ctx c.context).saleState = some .opened) ∧
    (p.store.writesNumber = true → ∀ i, (p.ctx i).role ≠ .current)

/-- A drawer's own fields agree: a kick is present in PENDING, KICKING and CONFIRMING alone, the confirm window runs in
CONFIRMING alone, open since is present in OPEN and OPEN_LONG alone, the alarm timer runs in OPEN alone, and the drawer is
ABSENT exactly while its tray is REMOVED (R129, R130, R136, R141). -/
abbrev DrawerRecord.sound (r : DrawerRecord) : Prop :=
  (r.kick.isSome = true ↔ r.state = .pending ∨ r.state = .kicking ∨ r.state = .confirming) ∧
    (r.confirmUntil.isSome = true ↔ r.state = .confirming) ∧
    (r.openSince.isSome = true ↔ r.state = .opened ∨ r.state = .openLong) ∧
    (r.alarmAt.isSome = true → r.state = .opened) ∧ (r.state = .absent ↔ r.tray = .removed)

/-- A drawer is KICKING exactly while the driver drives it, and PENDING exactly while it is in the waiting place (R133). -/
abbrev Till.places (d : Drawer) (t : Till) : Prop :=
  ((t.drawer d).state = .kicking ↔ t.driver.map Driving.drawer = some d) ∧
    ((t.drawer d).state = .pending ↔ t.waiting = some d)

/-- The till controller: each drawer is sound; the driver drives the one drawer that is KICKING; the waiting place holds
the one drawer that is PENDING, and only while the driver drives the other; the shown mode is the judged one; presses are
counted from 1 while the assist latch is set and are 0 otherwise (R129, R133, R145, R146). -/
abbrev Till.sound (t : Till) : Prop :=
  t.drawerA.sound ∧ t.drawerB.sound ∧ t.places .a ∧ t.places .b ∧ (t.driver = none → t.waiting = none) ∧
    t.shown = t.judgedLight ∧ (if t.assist = true then 1 ≤ t.presses ∧ t.presses ≤ 255 else t.presses = 0)

/-- The head job's state is one of those given. -/
def Printer.headIs (test : JobState → Bool) (e : Printer) : Bool :=
  e.queue.head?.any fun j => test j.state

/-- The print engine: at most 4 jobs, those behind the head QUEUED, a SLIP naming no context and the others one; the queue
holds a SLIP exactly while the slip buffer holds a slip, and one; an IDLE engine has no job, the engine is FEEDING exactly
while a feed runs, PAUSED exactly while the head is, and a RUNNING one has a PRINTING head or drains; a row or a cut, never
both, is in flight exactly while the engine feeds, or runs with no restart due; a cut in flight is the engine RUNNING's,
and a job's row is in flight in a line or the tail (R164, R165, R168, R172, R173, R176, R177). -/
abbrev Printer.sound (e : Printer) : Prop :=
  e.queue.length ≤ 4 ∧ (∀ j ∈ e.queue.tail, j.state = .queued) ∧
    (∀ j ∈ e.queue, j.context = none ↔ j.kind = .slip) ∧
    (e.queue.countP Job.isSlip = if e.slip.isSome = true then 1 else 0) ∧
    (e.engine = .idle → e.queue = []) ∧ (e.engine = .feeding ↔ e.feed ≠ none) ∧
    (e.engine = .feeding → e.headIs (fun s => decide (s ≠ .queued)) = false) ∧
    (e.engine = .paused ↔ e.headIs (fun s => s.reason.isSome) = true) ∧
    (e.engine = .running → e.draining = true ∨ e.headIs (fun s => decide (s = .printing)) = true) ∧
    (e.draining = true → e.engine = .running ∧ e.restartDue = false ∧ e.headIs (fun s => decide (s ≠ .queued)) = false) ∧
    (e.restartDue = true → e.engine = .running) ∧
    (e.figures ≠ none ∨ e.cutUntil ≠ none ↔ e.engine = .feeding ∨ e.engine = .running ∧ e.restartDue = false) ∧
    (e.figures = none ∨ e.cutUntil = none) ∧ (e.cutUntil ≠ none → e.engine = .running) ∧
    (e.figures ≠ none → e.engine = .running → e.draining = false → e.phase ≠ .cut)

/-- The card classifier: at most two entries, with handles of 1 to 255, no two alike; at most one is READY or FETCHED, and
only with the TENDER mark set; with it set, no payment card stays HELD while none is; the account number, the track images
and the hold timer are there exactly while an entry is HELD or READY (R102 to R107). -/
abbrev Cards.sound (c : Cards) : Prop :=
  c.queue.length ≤ 2 ∧ c.handleCounter ≤ 255 ∧ (∀ e ∈ c.queue, 1 ≤ e.handle ∧ e.handle ≤ 255) ∧
    (c.queue.map CardEntry.handle).Nodup ∧ (c.queue.countP fun e => decide (e.state ≠ .held)) ≤ 1 ∧
    (c.tenderMark = false → ∀ e ∈ c.queue, e.state = .held) ∧
    (c.tenderMark = true → (∀ e ∈ c.queue, e.state = .held) → ∀ e ∈ c.queue, e.cls = .loyalty ∨ e.cls = .blocked) ∧
    ∀ e ∈ c.queue, (e.full = none ↔ e.state = .fetched) ∧ (e.expiresAt = none ↔ e.state = .fetched)

end Sys2Proof.Machine
end

