-- ==== Sys2Proof/WellFormed.lean ====
section
/-! DEFINITION. WellFormed.lean: which commands can be written down as the spec gives them. A request is
well formed when each of its fields fits the width R193 gives it and its payload fits a frame (R181); an
event is well formed when its operands lie in the range the spec gives the input. Values inside the width
but outside a rule's own range are well formed: the rule answers them. -/

namespace Sys2Proof

/-- An unsigned number of one byte. -/
def fits8 (n : Nat) : Bool :=
  n < 256

/-- An unsigned number of two bytes. -/
def fits16 (n : Nat) : Bool :=
  n < 65536

/-- A signed number of four bytes. -/
def fitsI32 (x : Int) : Bool :=
  -2147483648 ≤ x && x ≤ 2147483647

/-- A text whose length fits its length byte. -/
def fitsText (t : Text) : Bool :=
  fits8 t.length

/-- A set of digit positions as R193 can carry it: positions 1 to 8, each once, rising. -/
def fitsPositions (positions : List Nat) : Bool :=
  positionsOf (maskOf positions) == positions

/-- A payload of at most 1,400 bytes (R181). -/
def fitsFrame (i : Instr) : Bool :=
  match requestFrame i with
  | some f => f.payload.length ≤ 1400
  | none => true

/-- The fields of RANGE_WRITE's entry. -/
def RangeFields.wellFormed (e : RangeFields) : Bool :=
  e.digits.all fitsText && e.lengthMin.all fits8 && e.lengthMax.all fits8 && fitsI32 e.cashbackLimit &&
    e.ownMask.all fitsPositions

/-- A command as the spec gives it. -/
def Instr.wellFormed : Instr → Bool
  | .powerOn inputs _ => -128 ≤ inputs.temperature && inputs.temperature ≤ 127
  | .resetInput inputs _ => -128 ≤ inputs.temperature && inputs.temperature ≤ 127
  | .item _ d q u => fitsText d && fits16 q && fitsI32 u
  | .voidItem _ n => fits8 n
  | .saleItems _ first count => fits8 first && fits8 count
  | .tarePreset _ g => fits16 g
  | .scaleSetup _ _ n => fits8 n
  | .adcSample c => -8388608 ≤ c && c ≤ 8388607
  | .weigh _ d p => fitsText d && fitsI32 p
  | .calSpan _ m => fitsI32 m
  | .calSet _ n w _ => fits8 n && fits8 w
  | .cardExpired h => 1 ≤ h && h ≤ 255
  | .rangeWrite _ n e => fits8 n && e.wellFormed
  | .rangeMask _ m => fitsPositions m
  | .rangeRead _ n => fits8 n
  | .cardSetup _ n => fits8 n
  | .cardFetch _ h => fits8 h
  | .cardDiscard _ h => fits8 h
  | .tenderCash _ a => fitsI32 a
  | .tenderCard _ h a c code => fits8 h && fitsI32 a && fitsI32 c && fitsText code
  | .declineCard _ h => fits8 h
  | .saleTenders _ n => fits16 n
  | .drawerSetup _ p a _ => fits16 p && fits8 a
  | .slip tag lines => fits8 lines.length && lines.all fitsText && fitsFrame (.slip tag lines)
  | .headerSet tag lines x => fits8 lines.length && lines.all fitsText && fits8 x && fitsFrame (.headerSet tag lines x)
  | .headTempReading t => -128 ≤ t && t ≤ 127
  | .feed _ n => fits8 n
  | .clockSet _ y mo d h mi s => fits8 y && fits8 mo && fits8 d && fits8 h && fits8 mi && fits8 s
  | .unknownRequest code tag payload => !requestCodes.contains code && fitsFrame (.unknownRequest code tag payload)
  | .laneReset | .beginSale _ | .txnNumberWriteEnd _ | .total _ | .backToItems _ | .cancelSale _ | .suspend _
  | .resume _ | .dropSuspended _ | .saleStatus _ | .zero _ | .tare _ | .tareClear _ | .weightRead _
  | .scaleFeed _ _ | .joltHoldExpiry | .weighCancel _ | .captureTimeout | .calEnter _ | .calExit _ | .calZero _
  | .calCommit _ | .calCounterWriteEnd _ | .calRecordWriteEnd _ | .calSwitchOpening | .calSwitchClosing
  | .identify _ | .readerEnable _ _ _ | .swipeEnd | .cardList _ | .settleSetup _ _ | .drawerOpen _ _
  | .noSale _ _ | .drawerClearFault _ _ | .drawerSelect _ _ | .assistClear _ | .light _ _ | .drawerStatus _
  | .kickPulseEnd | .solenoidCurrentFault _ | .confirmWindowExpiry _ | .alarmTimerExpiry _ | .trayRemoved _
  | .trayInserted _ | .closedSensorOpens _ | .closedSensorCloses _ | .keyPositionChange _ | .assistButtonPress
  | .reprint _ | .headerRead _ | .dotRowEnd | .cutEnd | .printerSensorChange _ | .printResume _ | .printRestart
  | .printAbort _ | .printStatus _ | .status _ | .flagsClear _ _ | .clockTick | .linkRate _ _ | .linkRateChange
  | .resetLane _ | .eventMask _ _ | .frameBadCrc _ _ | .frameLengthAbandon | .gapLimitExpiry | .stopBitError
  | .byteWhileHeld | .heldFrameTaken | .frameSent | .fluxTransition _ _ _ | .byteReceived _ => true

end Sys2Proof
end

