-- ==== Sys2Proof/Certificates/Slice0/Obligations.lean ====
section
/-! DEFINITION. Certificates/Slice0/Obligations.lean: the statements for the provers. A request statement says,
for every state in which a request is taken at once (State.takes), the whole state after it; what it does not name
is unchanged. -/

open Sys2Proof Sys2Proof.Machine

/-! ## Steps and commands -/

/-- A step carries out the command at the front of the queue, with the queue's rest (the queue is the model's
own; log entry 6). -/
def Obligations.StepRunsTheFrontCommand : Prop :=
  ∀ (c : Instr) (rest : List Instr) (s : State),
    step { s with pending := c :: rest } = exec c { s with pending := rest }

/-- The model's choice of log entry 3: with no command waiting, 1 µs passes and nothing else changes. Every command
answers a next state, and leaves the queue of waiting commands as it was. -/
def Obligations.EmptyQueueTicksAndNothingStops : Prop :=
  (∀ s : State, step { s with pending := [] } = .next { s with pending := [], now := s.now + 1 }) ∧
  (∀ (c : Instr) (s : State), ∃ t : State, exec c s = .next t ∧ t.pending = s.pending)

/-! ## Requests: held, taken, refused (R8, R182 to R185) -/

/-- A complete frame that comes while a request is in progress is held, and the receiver becomes HELD; while a
frame is held its bytes are discarded, the first of the period with LINK_ERROR OVERRUN and RX_OVERRUN. (That a frame
in COLLECT gives way to the complete frame, and that a request that comes in HELD counts as one arriving byte, is log
entry 1; OVERRUN's number 1 is log entry 16.) -/
def Obligations.RequestIsHeldWhileOneIsInProgress : Prop :=
  ∀ (c : Instr) (f : Frame) (t : Ticket) (s : State), requestFrame c = some f → s.link.inProgress = some t →
    exec c s =
      match s.link.receiver with
      | .held _ true => .next s
      | .held g false =>
        s.linked ((({ s.link with receiver := .held g true }).saying 0x9E#8 [.name 1]).latch .rxOverrun)
      | _ => s.linked { s.link with receiver := .held f false }

/-- A request that is taken, other than BEGIN, ends by handing over a reply, which carries its code and tag and
begins with its status; with a status other than OK or ACCEPTED that reply is all it hands over, and nothing but the
link changes. -/
def Obligations.RefusedRequestChangesOnlyTheLink : Prop :=
  ∀ (c : Instr) (f : Frame) (s : State), requestFrame c = some f → f.code ≠ 0x10#8 → s.takes →
    ∃ (t : State) (l : Link) (x : Status) (fields : List Field),
      exec c s = .next t ∧ t.link = l.handReply ⟨f.code, f.tag, .status x :: fields⟩ ∧ l.inProgress = some ⟨f.code, f.tag⟩ ∧
        (x ≠ .ok → x ≠ .accepted → t = { s with link := s.link.answered f.code f.tag [] (.status x :: fields) })

/-! ## Transmission (R186, R187) -/

/-- An event of an enabled kind joins the end of the queue when there is room and the line is busy, goes out at once
on an idle line with an empty queue and no reply waiting, and is dropped with EVENT_LOST when 16 are queued; one of a
kind not enabled is discarded. A reply is handed over with the number of queued events ahead of it; on an idle line
with none ahead it is sent at once. -/
def Obligations.EventsAndRepliesWaitInOrder : Prop :=
  (∀ (m : Message) (l : Link),
    (l.enabled.getLsbD (m.code.toNat - 0x80) = false → l.handEvent m = l) ∧
    (l.enabled.getLsbD (m.code.toNat - 0x80) = true → l.events.length = 16 →
      l.handEvent m = { l with flags := l.flags ||| 0x0004#16 }) ∧
    (l.enabled.getLsbD (m.code.toNat - 0x80) = true → l.events.length < 16 → l.sending ≠ none →
      l.handEvent m = { l with events := l.events ++ [m] }) ∧
    (l.enabled.getLsbD (m.code.toNat - 0x80) = true → l.events = [] → l.sending = none → l.reply = none →
      l.handEvent m = { l with sending := some (.event m) })) ∧
  (∀ (m : Message) (l : Link),
    (l.sending ≠ none → l.handReply m = { l with reply := some ⟨m, l.events.length⟩ }) ∧
    (l.sending = none → l.events = [] → l.handReply m = { l with reply := none, sending := some (.reply m) }))

/-- FRAME_SENT: after an event the transmitter takes its next frame; after a reply, other than that of RESET_LANE, no
request is in progress and, with no rate waiting and no frame held, the transmitter takes its next frame; on an idle
line nothing happens. LINK_RATE_CHANGE: when the last byte of LINK_RATE's reply has been sent the rate changes and a
frame in COLLECT is abandoned; in any other situation the command has no effect (log entry 2). HELD_FRAME_TAKEN: when
the last byte of the reply of the request in progress has been sent, the held frame is taken as a request: the
request's own command in the state with the receiver in HUNT and no request in progress; a code outside the catalogue
is answered UNKNOWN_REQUEST and fields that cannot be read BAD_VALUE. After the reply of LINK_RATE the rate changes as
well. (That the transmitter takes its next frame before the held request is taken is log entry 24.) In any other
situation the command has no effect (log entry 2). In their situations LINK_RATE_CHANGE and HELD_FRAME_TAKEN are
FRAME_SENT; the end of RESET_LANE's reply is Obligations.LinkRequestsAreAnswered's. -/
def Obligations.FrameSentStartsWhatFollows : Prop :=
  (∀ s : State,
    (s.link.sending = none → exec .frameSent s = .next s) ∧
    (∀ m, s.link.sending = some (.event m) → exec .frameSent s = s.linked s.link.nextFrame) ∧
    (∀ m, s.link.sending = some (.reply m) → m.resetsLane = false → s.link.newRate = none → s.link.holding = false →
      exec .frameSent s = s.linked (Link.nextFrame { s.link with inProgress := none }))) ∧
  (∀ s : State,
    (∀ m r, s.link.sending = some (.reply m) → m.resetsLane = false → s.link.newRate = some r →
      s.link.holding = false →
      exec .linkRateChange s =
        s.linked (Link.nextFrame
          { s.link with inProgress := none, rate := r, newRate := none, receiver := .hunt })) ∧
    (s.link.newRate = none → exec .linkRateChange s = .next s) ∧
    (s.link.sendingReply = false → exec .linkRateChange s = .next s)) ∧
  (∀ s : State,
    (let taken (f : Frame) (l : Link) : Host.Outcome State Fault Refusal :=
       let t : State := { s with link := { l.nextFrame with receiver := .hunt } }
       match parseRequest f with
       | .request c => exec c t
       | .unknown => exec (.unknownRequest f.code f.tag f.payload) t
       | .unreadable => t.says f.code f.tag [.status .badValue]
     (∀ m f o, s.link.sending = some (.reply m) → m.resetsLane = false → s.link.newRate = none →
       s.link.receiver = .held f o → exec .heldFrameTaken s = taken f { s.link with inProgress := none }) ∧
     (∀ m f o r, s.link.sending = some (.reply m) → m.resetsLane = false → s.link.newRate = some r →
       s.link.receiver = .held f o →
       exec .heldFrameTaken s = taken f { s.link with inProgress := none, rate := r, newRate := none })) ∧
    (s.link.sendingReply = true → s.link.newRate ≠ none → exec .linkRateChange s = exec .frameSent s) ∧
    (s.link.sendingReply = true → s.link.holding = true → exec .heldFrameTaken s = exec .frameSent s) ∧
    (s.link.holding = false → exec .heldFrameTaken s = .next s) ∧
    (s.link.sendingReply = false → exec .heldFrameTaken s = .next s))

/-! ## The receiver (R181 to R183) -/

/-- The bytes of a frame of up to 1,400 payload bytes, taken one by one from HUNT with no request in progress, do what
the frame's request does: the request's own command, UNKNOWN_REQUEST for a code outside the catalogue, BAD_VALUE for a
payload that cannot be read. A frame is 5Ah, the payload length, the code, the tag, the payload and the CRC of all
between, numbers most significant byte first. The CRC register starts at FFFFh and takes each byte most significant
bit first, shifting left by one, with 1021h added when the bit that leaves and the bit taken differ; it is not
inverted at the end. A whole buffer is read by the same layout, and its CRC agrees when its last two bytes are the CRC
of the length, code, tag and payload. -/
def Obligations.BytesOfAFrameMakeItsRequest : Prop :=
  (∀ (f : Frame) (s : State), f.payload.length ≤ 1400 → s.link.receiver = .hunt → s.link.inProgress = none →
    s.receives (frameBytes f) =
      match parseRequest f with
      | .request c => exec c s
      | .unknown => exec (.unknownRequest f.code f.tag f.payload) s
      | .unreadable => s.says f.code f.tag [.status .badValue]) ∧
  ((∀ f : Frame, f.payload.length ≤ 1400 →
    let body : Text :=
      BitVec.ofNat 8 (f.payload.length / 256) :: BitVec.ofNat 8 (f.payload.length % 256) :: f.code :: f.tag :: f.payload
    frameBytes f = 0x5A#8 :: body ++ [(crc16 body).extractLsb' 8 8, (crc16 body).extractLsb' 0 8]) ∧
  (let shift (c : BitVec 16) (taken : Bool) : BitVec 16 :=
     if c.getLsbD 15 = taken then c <<< 1 else (c <<< 1) ^^^ 0x1021#16
   crc16 [] = 0xFFFF#16 ∧
   ∀ (bytes : Text) (b : Byte),
     crc16 (bytes ++ [b]) = ([7, 6, 5, 4, 3, 2, 1, 0].map b.getLsbD).foldl shift (crc16 bytes)) ∧
  crc16 [0x31#8, 0x32#8, 0x33#8, 0x34#8, 0x35#8, 0x36#8, 0x37#8, 0x38#8, 0x39#8] = 0x29B1#16 ∧
  (∀ (start high low : Byte) (rest : Text), payloadLength (start :: high :: low :: rest) = 256 * high.toNat + low.toNat) ∧
  (∀ (start high low code tag : Byte) (rest : Text),
    let n := 256 * high.toNat + low.toNat
    let buffer : List Byte := start :: high :: low :: code :: tag :: rest
    let crc := crc16 (high :: low :: code :: tag :: rest.take n)
    bufferFrame buffer = ⟨code, tag, rest.take n⟩ ∧
    (crcAgrees buffer = true ↔ rest.drop n = [crc.extractLsb' 8 8, crc.extractLsb' 0 8])))

/-- Every well-formed request, written as its frame, is read back as itself; a frame with a code outside the
catalogue is read as unknown. (The layout of RANGE_WRITE's entry is log
entry 17, that of a set of digit positions log entry 18.) -/
def Obligations.RequestFramesReadBack : Prop :=
  ∀ (c : Instr) (f : Frame), c.wellFormed = true → requestFrame c = some f →
    parseRequest f = match c with | .unknownRequest _ _ _ => .unknown | _ => .request c

/-- In HUNT a byte other than 5Ah is discarded and 5Ah begins a frame. In COLLECT a byte is kept; at the second length
byte a length above 1,400 abandons the frame; at the last CRC byte a CRC that disagrees discards it, and a frame whose
CRC agrees is taken as a request when none is in progress and is held otherwise. In HELD a byte is discarded. (When a
CRC agrees is Obligations.BytesOfAFrameMakeItsRequest's.) BYTE_WHILE_HELD: the first byte of a HELD period hands over
LINK_ERROR OVERRUN and latches RX_OVERRUN; later ones, and the command with no frame held, change nothing.
FRAME_BAD_CRC, FRAME_LENGTH_ABANDON, GAP_LIMIT_EXPIRY and STOP_BIT_ERROR: a frame whose CRC disagrees is discarded
with LINK_ERROR BAD_CRC and BAD_CRC; the other three abandon a frame in COLLECT without an event and change nothing in
HUNT. While a frame is held the bytes of the first, second and fourth are discarded as bytes received in HELD (log
entries 2 and 28). (The numbers BAD_CRC 0 and OVERRUN 1 are log entry 16.) -/
def Obligations.ReceiverTakesAndDiscardsBytes : Prop :=
  (∀ (b : Byte) (s : State),
    exec (.byteReceived b) s =
      match s.link.receiver with
      | .hunt => if b = 0x5A#8 then s.linked { s.link with receiver := .collect [0x5A#8] } else .next s
      | .held _ _ => exec .byteWhileHeld s
      | .collect buffer =>
        let bytes := buffer ++ [b]
        let f := bufferFrame bytes
        if bytes.length = 3 ∧ 1400 < payloadLength bytes then s.linked { s.link with receiver := .hunt }
        else if 3 ≤ bytes.length ∧ bytes.length = 7 + payloadLength bytes then
          if crcAgrees bytes = false then s.linked (s.link.discards f.code f.tag)
          else if s.link.inProgress.isSome then s.linked { s.link with receiver := .held f false }
          else
            match parseRequest f with
            | .request c => exec c { s with link := { s.link with receiver := .hunt } }
            | .unknown => exec (.unknownRequest f.code f.tag f.payload) { s with link := { s.link with receiver := .hunt } }
            | .unreadable => s.says f.code f.tag [.status .badValue]
        else s.linked { s.link with receiver := .collect bytes }) ∧
  (∀ s : State,
    exec .byteWhileHeld s =
      match s.link.receiver with
      | .held f false =>
        s.linked ((({ s.link with receiver := .held f true }).saying 0x9E#8 [.name 1]).latch .rxOverrun)
      | _ => .next s) ∧
  (∀ (code tag : Byte) (s : State),
    (s.link.holding = false →
      exec (.frameBadCrc code tag) s = s.linked (s.link.discards code tag) ∧
      exec .frameLengthAbandon s = s.linked { s.link with receiver := .hunt } ∧
      exec .gapLimitExpiry s = s.linked { s.link with receiver := .hunt } ∧
      exec .stopBitError s = s.linked { s.link with receiver := .hunt }) ∧
    (s.link.holding = true →
      exec (.frameBadCrc code tag) s = exec .byteWhileHeld s ∧
      exec .frameLengthAbandon s = exec .byteWhileHeld s ∧
      exec .gapLimitExpiry s = .next s ∧
      exec .stopBitError s = exec .byteWhileHeld s))

/-! ## The link's requests (R187 to R192) -/

/-- FLAGS_CLEAR: BAD_VALUE with any of bits 11 to 15 set; otherwise each named flag is cleared, the others are left,
and the reply is OK with the set as it then stands. EVENT_MASK: BAD_VALUE with bit 31 set; otherwise the enable set
becomes the given set and the reply is OK with it. Queued events stay. -/
def Obligations.FlagsAndEnableSetAreWritten : Prop :=
  (∀ (tag : Byte) (set : BitVec 16) (s : State), s.takes →
    exec (.flagsClear tag set) s =
      if set &&& 0xF800#16 ≠ 0#16 then s.says 0x71#8 tag [.status .badValue]
      else s.linked (Link.answered { s.link with flags := s.link.flags &&& ~~~set } 0x71#8 tag []
        [.status .ok, .flagSet (s.link.flags &&& ~~~set)])) ∧
  (∀ (tag : Byte) (set : BitVec 32) (s : State), s.takes →
    exec (.eventMask tag set) s =
      if set.getLsbD 31 then s.says 0x75#8 tag [.status .badValue]
      else s.linked (Link.answered { s.link with enabled := set } 0x75#8 tag [] [.status .ok, .enableSet set]))

/-- CLOCK_SET: BAD_VALUE with a field out of its range or a day beyond the month's length in that year; otherwise the
clock takes the value, its next second begins from the request, and the reply is OK with the clock. CLOCK_TICK: an
UNSET clock stays UNSET; a set clock advances one second by the calendar, which after 2099-12-31 23:59:59 goes to
2000-01-01 00:00:00; the elapsed time reaches the end of the second and the next second begins (the elapsed time is
the model's, log entry 3). -/
def Obligations.ClockIsSetAndAdvances : Prop :=
  (∀ (tag : Byte) (y mo d h mi sec : Nat) (s : State), s.takes →
    exec (.clockSet tag y mo d h mi sec) s =
      if y ≤ 99 ∧ 1 ≤ mo ∧ mo ≤ 12 ∧ 1 ≤ d ∧
          d ≤ (if mo = 2 then (if y % 4 = 0 then 29 else 28) else if mo = 4 ∨ mo = 6 ∨ mo = 9 ∨ mo = 11 then 30 else 31) ∧
          h ≤ 23 ∧ mi ≤ 59 ∧ sec ≤ 59 then
        s.linked (Link.answered
          { s.link with clock := some ⟨y, mo, d, h, mi, sec⟩, nextSecond := s.now + 1000000 } 0x72#8 tag []
          [.status .ok, .stamp ⟨y, mo, d, h, mi, sec⟩])
      else s.says 0x72#8 tag [.status .badValue]) ∧
  (∀ s : State, ∃ c : Option DateTime,
    exec .clockTick s =
      .next { s with now := max s.now s.link.nextSecond
                     link := { s.link with clock := c, nextSecond := max s.now s.link.nextSecond + 1000000 } } ∧
    (s.link.clock = none → c = none) ∧
    (∀ t, s.link.clock = some t →
      (t.second < 59 → c = some { t with second := t.second + 1 }) ∧
      (t.second = 59 → t.minute < 59 → c = some { t with minute := t.minute + 1, second := 0 }) ∧
      (t.second = 59 → t.minute = 59 → t.hour < 23 → c = some { t with hour := t.hour + 1, minute := 0, second := 0 }) ∧
      (t.second = 59 → t.minute = 59 → t.hour = 23 →
        (t.day < daysInMonth t.year t.month →
          c = some { t with day := t.day + 1, hour := 0, minute := 0, second := 0 }) ∧
        (t.day = daysInMonth t.year t.month → t.month < 12 → c = some ⟨t.year, t.month + 1, 1, 0, 0, 0⟩) ∧
        (t.day = 31 → t.month = 12 → t.year < 99 → c = some ⟨t.year + 1, 1, 1, 0, 0, 0⟩) ∧
        (t.day = 31 → t.month = 12 → t.year = 99 → c = some ⟨0, 1, 1, 0, 0, 0⟩))))

/-- Taking a code outside the catalogue is answered UNKNOWN_REQUEST, with nothing but the link changed. LINK_RATE:
BAD_VALUE for a byte beyond the four rates; otherwise OK, the rate changing only when the reply's last byte has been
sent. RESET_LANE: OK, and at the end of that reply, FRAME_SENT, the lane reset is made: the one that LANE_RESET makes
(Obligations.LaneResetTakesItsValues), but for a BEGIN whose number is being written (log entry 29), which comes in no
run with that reply. -/
def Obligations.LinkRequestsAreAnswered : Prop :=
  (∀ (code tag : Byte) (payload : Text) (s : State), s.takes →
    exec (.unknownRequest code tag payload) s = s.says code tag [.status .unknownRequest]) ∧
  ((∀ (tag b : Byte) (s : State), s.takes →
    exec (.linkRate tag b) s =
      (if b = 0#8 then s.linked (Link.answered { s.link with newRate := some .baud19200 } 0x73#8 tag [] [.status .ok])
       else if b = 1#8 then s.linked (Link.answered { s.link with newRate := some .baud57600 } 0x73#8 tag [] [.status .ok])
       else if b = 2#8 then s.linked (Link.answered { s.link with newRate := some .baud115200 } 0x73#8 tag [] [.status .ok])
       else if b = 3#8 then s.linked (Link.answered { s.link with newRate := some .baud230400 } 0x73#8 tag [] [.status .ok])
       else s.says 0x73#8 tag [.status .badValue]) ∧
    exec (.resetLane tag) s = s.says 0x74#8 tag [.status .ok]) ∧
  (∀ (tag : Byte) (s : State), s.link.sending = some (.reply ⟨0x74#8, tag, [.status .ok]⟩) →
    exec .frameSent s = s.becomes s.toLane.laneReset ∧
    ((∀ n, s.store.write ≠ some (.txnNumber n)) → exec .frameSent s = exec .laneReset s)))

/-! ## Sales (R1 to R24) -/

/-- BEGIN: with every check passed the number after the counter (1 after 65,535) is being written and the request
stays in progress without a reply; otherwise the first check that fails is answered. -/
def Obligations.BeginWritesTheNextNumber : Prop :=
  ∀ (tag : Byte) (s : State), s.takes →
    exec (.beginSale tag) s =
      if s.store.calState ≠ .out then s.says 0x10#8 tag (refusal .calMode)
      else if s.toLane.current ≠ none then s.says 0x10#8 tag (refusal .saleOpen)
      else if s.till.key = .locked then s.says 0x10#8 tag (refusal .keyPosition)
      else if s.till.interlock = true ∧ (s.till.drawerA.state = .opened ∨ s.till.drawerA.state = .openLong ∨
          s.till.drawerB.state = .opened ∨ s.till.drawerB.state = .openLong) then
        s.says 0x10#8 tag (refusal .drawerNotClosed)
      else if s.toLane.firstOf .free = none ∧ (∀ i, s.toLane.firstOf .lastPrinted = some i → (s.toLane.ctx i).pin ≠ 0) then
        s.says 0x10#8 tag (refusal .noSlot)
      else
        .next { s with link := s.link.taking 0x10#8 tag
                       store := { s.store with write := some (.txnNumber
                         (if s.sale.counter < 65535 then s.sale.counter + 1 else 1)) } }

/-- TXN_NUMBER_WRITE_END, OK, with a FREE context and no HELD LOYALTY entry: the record and the counter take the
number, the lowest-numbered FREE context takes the values of BEGIN, and the reply is OK with the context number and
the transaction number. TXN_NUMBER_WRITE_END, OK, with no FREE context: the unpinned LAST_PRINTED context is freed and
taken. With a HELD LOYALTY entry in the card queue its account number becomes the sale's loyalty number, the entry is
removed, and LOYALTY_APPLIED goes before the reply; the two may come together. TXN_NUMBER_WRITE_END, FAIL: BEGIN is
refused with STORE_FAIL, the record is left CORRUPT or ERASED, and the counter, the contexts and the restart-pending
mark keep their values; with no such write in flight the command has no effect (log entry 4). -/
def Obligations.BeginOpensASaleOrIsRefused : Prop :=
  (∀ (n : Nat) (i : Fin 6) (tag : Byte) (s : State), s.store.write = some (.txnNumber n) →
    s.link.inProgress = some ⟨0x10#8, tag⟩ → s.toLane.firstOf .free = some i →
    s.cards.queue.find? CardEntry.heldLoyalty = none →
      exec (.txnNumberWriteEnd .ok) s =
        .next { s with
          link := s.link.handReply ⟨0x10#8, tag, [.status .ok, .u8 i, .u16 n]⟩
          store := { s.store with txnRecord := .valid n, write := none }
          sale := { s.sale with
            counter := n
            restartPending := false
            contexts := s.sale.contexts.set i
              { role := .current, txn := some n, saleState := some .opened, items := [], tenders := [], subtotal := 0
                tenderSum := 0, changeDue := 0, loyalty := none, drawer := s.till.active, beginTime := s.link.clock
                closeTime := none, restarted := s.sale.restartPending, pin := 0 } } }) ∧
  ((∀ (n : Nat) (i : Fin 6) (tag : Byte) (s : State), s.store.write = some (.txnNumber n) →
    s.link.inProgress = some ⟨0x10#8, tag⟩ → s.toLane.firstOf .free = none →
    s.toLane.firstOf .lastPrinted = some i → (s.toLane.ctx i).pin = 0 →
    s.cards.queue.find? CardEntry.heldLoyalty = none →
      exec (.txnNumberWriteEnd .ok) s =
        .next { s with
          link := s.link.handReply ⟨0x10#8, tag, [.status .ok, .u8 i, .u16 n]⟩
          store := { s.store with txnRecord := .valid n, write := none }
          sale := { s.sale with
            counter := n
            restartPending := false
            stack := s.sale.stack.filter fun j => j ≠ i
            contexts := s.sale.contexts.set i
              { Context.freed with
                role := .current, txn := some n, saleState := some .opened, drawer := s.till.active
                beginTime := s.link.clock, restarted := s.sale.restartPending } } }) ∧
  (∀ (n : Nat) (i : Fin 6) (tag : Byte) (s : State) (e : CardEntry) (d : FullData),
    s.store.write = some (.txnNumber n) → s.link.inProgress = some ⟨0x10#8, tag⟩ →
    s.toLane.firstOf .free = some i → s.cards.queue.find? CardEntry.heldLoyalty = some e → e.full = some d →
    s.cards.tenderMark = false →
      exec (.txnNumberWriteEnd .ok) s =
        .next { s with
          link := (s.link.saying 0x89#8 [.u16 n, .text e.masked, .name (headCode e.head)]).handReply
            ⟨0x10#8, tag, [.status .ok, .u8 i, .u16 n]⟩
          store := { s.store with txnRecord := .valid n, write := none }
          cards := { s.cards with queue := s.cards.queue.eraseP CardEntry.heldLoyalty }
          sale := { s.sale with
            counter := n
            restartPending := false
            contexts := s.sale.contexts.set i
              { Context.freed with
                role := .current, txn := some n, saleState := some .opened, loyalty := some d.account
                drawer := s.till.active, beginTime := s.link.clock, restarted := s.sale.restartPending } } }) ∧
  (∀ (n : Nat) (i : Fin 6) (tag : Byte) (s : State) (e : CardEntry) (d : FullData),
    s.store.write = some (.txnNumber n) → s.link.inProgress = some ⟨0x10#8, tag⟩ →
    s.toLane.firstOf .free = none → s.toLane.firstOf .lastPrinted = some i → (s.toLane.ctx i).pin = 0 →
    s.cards.queue.find? CardEntry.heldLoyalty = some e → e.full = some d → s.cards.tenderMark = false →
      exec (.txnNumberWriteEnd .ok) s =
        .next { s with
          link := (s.link.saying 0x89#8 [.u16 n, .text e.masked, .name (headCode e.head)]).handReply
            ⟨0x10#8, tag, [.status .ok, .u8 i, .u16 n]⟩
          store := { s.store with txnRecord := .valid n, write := none }
          cards := { s.cards with queue := s.cards.queue.eraseP CardEntry.heldLoyalty }
          sale := { s.sale with
            counter := n
            restartPending := false
            stack := s.sale.stack.filter fun j => j ≠ i
            contexts := s.sale.contexts.set i
              { Context.freed with
                role := .current, txn := some n, saleState := some .opened, loyalty := some d.account
                drawer := s.till.active, beginTime := s.link.clock, restarted := s.sale.restartPending } } })) ∧
  (∀ (n : Nat) (tag : Byte) (left : Unreadable) (w : WriteEnd) (s : State),
    (s.store.write = some (.txnNumber n) → s.link.inProgress = some ⟨0x10#8, tag⟩ →
      exec (.txnNumberWriteEnd (.fail left)) s =
        .next { s with
          link := s.link.handReply ⟨0x10#8, tag, refusal .storeFail⟩
          store := { s.store with
            txnRecord := match left with | .erased => .erased | .corrupt => .corrupt
            write := none } }) ∧
    ((∀ m, s.store.write ≠ some (.txnNumber m)) → exec (.txnNumberWriteEnd w) s = .next s))

/-- ITEM: its ten checks in order; then a KEYED record of the given fields, the exact amount and the time joins the
list, the amount is added to the subtotal, and the reply is OK with the item number, the amount, the subtotal and
the result flags. A refusal carries the unchanged subtotal and the flags, LIMIT set for AMOUNT_LIMIT and
TOTAL_LIMIT. -/
def Obligations.ItemAddsAKeyedRecord : Prop :=
  ∀ (tag : Byte) (d : Text) (q : Nat) (u : Int) (s : State), s.takes →
    exec (.item tag d q u) s =
      match s.toLane.current with
      | none => s.says 0x11#8 tag (refusal .noSaleOpen ++ [.flag false, .flag false, .flag false])
      | some i =>
        let c := s.toLane.ctx i
        let amount : Int := q * u
        if c.saleState ≠ some .opened then s.says 0x11#8 tag (.status .wrongState :: c.itemFlags false)
        else if s.till.key = .locked then s.says 0x11#8 tag (refusal .keyPosition ++ c.itemFlags false)
        else if s.scale.capture ≠ none then s.says 0x11#8 tag (refusal .capturePending ++ c.itemFlags false)
        else if d.length < 1 ∨ 20 < d.length ∨ d.all printable = false ∨ q < 1 ∨ 999 < q ∨ u < -9999999 ∨ 9999999 < u then
          s.says 0x11#8 tag (.status .badValue :: c.itemFlags false)
        else if amount < -9999999 ∨ 9999999 < amount then s.says 0x11#8 tag (refusal .amountLimit ++ c.itemFlags true)
        else if amount < 0 ∧ s.till.key ≠ .manager then s.says 0x11#8 tag (refusal .keyPosition ++ c.itemFlags false)
        else if c.subtotal + amount < -99999999 ∨ 99999999 < c.subtotal + amount then
          s.says 0x11#8 tag (refusal .totalLimit ++ c.itemFlags true)
        else if s.toLane.poolFree = 0 then s.says 0x11#8 tag (refusal .poolFull ++ c.itemFlags false)
        else if 150 ≤ c.items.length then s.says 0x11#8 tag (refusal .saleFull ++ c.itemFlags false)
        else
          let r : ItemRecord := ⟨d, amount, s.link.clock, false, .keyed q u⟩
          let c' : Context := { c with items := c.items ++ [r], subtotal := c.subtotal + amount }
          .next { s with
            sale := { s.sale with contexts := s.sale.contexts.set i c' }
            link := s.link.answered 0x11#8 tag []
              ([.status .ok, .u8 (c.items.length + 1), .money amount] ++ c'.itemFlags false) }

/-- VOID_ITEM: its ten checks in order; then a VOID record with the named record's description, its amount negated
and the index joins the list, the named record is marked voided, and the subtotal changes by the VOID record's
amount. -/
def Obligations.VoidItemAppendsAVoidRecord : Prop :=
  ∀ (tag : Byte) (n : Nat) (s : State), s.takes →
    exec (.voidItem tag n) s =
      match s.toLane.current with
      | none => s.says 0x12#8 tag (refusal .noSaleOpen ++ [.flag false, .flag false, .flag false])
      | some i =>
        let c := s.toLane.ctx i
        if c.saleState ≠ some .opened then s.says 0x12#8 tag (.status .wrongState :: c.itemFlags false)
        else if s.till.key = .locked then s.says 0x12#8 tag (refusal .keyPosition ++ c.itemFlags false)
        else if s.scale.capture ≠ none then s.says 0x12#8 tag (refusal .capturePending ++ c.itemFlags false)
        else
          match (if n = 0 then none else c.items[n - 1]?) with
          | none => s.says 0x12#8 tag (.status .badValue :: c.itemFlags false)
          | some r =>
            if r.isVoid = true then s.says 0x12#8 tag (refusal .notVoidable ++ c.itemFlags false)
            else if r.voided = true then s.says 0x12#8 tag (refusal .alreadyVoided ++ c.itemFlags false)
            else if c.subtotal - r.amount < -99999999 ∨ 99999999 < c.subtotal - r.amount then
              s.says 0x12#8 tag (refusal .totalLimit ++ c.itemFlags true)
            else if s.toLane.poolFree = 0 then s.says 0x12#8 tag (refusal .poolFull ++ c.itemFlags false)
            else if 150 ≤ c.items.length then s.says 0x12#8 tag (refusal .saleFull ++ c.itemFlags false)
            else
              let v : ItemRecord := ⟨r.description, -r.amount, s.link.clock, false, .void n⟩
              let c' : Context :=
                { c with items := c.items.set (n - 1) { r with voided := true } ++ [v], subtotal := c.subtotal - r.amount }
              .next { s with
                sale := { s.sale with contexts := s.sale.contexts.set i c' }
                link := s.link.answered 0x12#8 tag []
                  ([.status .ok, .u8 (c.items.length + 1), .money (-r.amount)] ++ c'.itemFlags false) }

/-- TOTAL: its seven checks in order; with a subtotal above 0 the sale becomes TENDER, the classifier's TENDER mark
is set, the oldest HELD payment card becomes READY with CARD_READY before the reply when no card is READY or
FETCHED, and the reply carries TENDER, the balance due and a change due of 0; with a subtotal of 0 or below the
sale is settled (Obligations.SettlementFixesAndReportsTheSale) and the reply carries SETTLED, the balance due and the change
due. -/
def Obligations.TotalEndsItemEntry : Prop :=
  ∀ (tag : Byte) (s : State), s.takes →
    exec (.total tag) s =
      match s.toLane.current with
      | none => s.says 0x13#8 tag (refusal .noSaleOpen ++ [.flag false, .flag false, .flag false])
      | some i =>
        let c := s.toLane.ctx i
        if c.saleState ≠ some .opened then s.says 0x13#8 tag (.status .wrongState :: c.itemFlags false)
        else if s.till.key = .locked then s.says 0x13#8 tag (refusal .keyPosition ++ c.itemFlags false)
        else if s.scale.capture ≠ none then s.says 0x13#8 tag (refusal .capturePending ++ c.itemFlags false)
        else if c.items = [] then s.says 0x13#8 tag (refusal .empty ++ c.itemFlags false)
        else if s.sale.backlog ≠ none then s.says 0x13#8 tag (refusal .printBacklog ++ c.itemFlags false)
        else if c.subtotal < -999999 then s.says 0x13#8 tag (refusal .changeLimit ++ c.itemFlags true)
        else if 0 < c.subtotal then
          let q := s.cards.queue
          let sale : Sale := { s.sale with contexts := s.sale.contexts.set i { c with saleState := some .tender } }
          let reply : List Field :=
            [.status .ok, .money c.subtotal, .name 1, .money c.subtotal, .money 0, .flag false, .flag false, .flag false]
          match (if q.any CardEntry.offered = true then none else q.find? CardEntry.promotable) with
          | none =>
            .next { s with sale := sale, cards := { s.cards with tenderMark := true }
                           link := s.link.answered 0x13#8 tag [] reply }
          | some e =>
            .next { s with
              sale := sale
              cards := { s.cards with
                tenderMark := true
                queue := updateFirst CardEntry.promotable (fun x => { x with state := .ready }) q }
              link := s.link.answered 0x13#8 tag
                [eventOf 0x8D#8 [.u8 e.handle, .name e.cls.code, .u8 e.rangeIndex, .text e.masked,
                  .u32 (secondsUp (e.left s.now))]] reply }
        else
          s.becomes (((s.toLane.begun 0x13#8 tag).settle i .total).respond
            (ok [.money c.subtotal, .name 2, .money c.subtotal, .money (-c.subtotal), .flag (c.subtotal < 0),
              .flag (c.subtotal = 0), .flag false]))

/-- BACK_TO_ITEMS: its checks in order; then the sale becomes OPEN, the classifier leaves TENDER (its mark is
cleared and a READY entry returns to HELD), and the reply is OK with the subtotal. -/
def Obligations.BackToItemsReturnsToOpen : Prop :=
  ∀ (tag : Byte) (s : State), s.takes →
    exec (.backToItems tag) s =
      match s.toLane.current with
      | none => s.says 0x14#8 tag (refusal .noSaleOpen)
      | some i =>
        let c := s.toLane.ctx i
        if c.saleState ≠ some .tender then s.says 0x14#8 tag [.status .wrongState]
        else if s.till.key = .locked then s.says 0x14#8 tag (refusal .keyPosition)
        else if c.tenders ≠ [] then s.says 0x14#8 tag (refusal .tendersPresent)
        else if (∃ e ∈ s.cards.queue, e.state = .fetched) then s.says 0x14#8 tag (refusal .cardFetched)
        else
          .next { s with
            sale := { s.sale with contexts := s.sale.contexts.set i { c with saleState := some .opened } }
            cards := { s.cards with
              tenderMark := false
              queue := s.cards.queue.map fun e => if e.state = .ready then { e with state := .held } else e }
            link := s.link.answered 0x14#8 tag [] [.status .ok, .money c.subtotal] }

/-- SUSPEND: its checks in order; then a pending capture is ended CANCELLED with WEIGH_DONE before the reply, the
context becomes SUSPENDED on top of the stack with every other field kept, and the reply is OK with the
transaction number and the new stack depth. -/
def Obligations.SuspendParksTheSale : Prop :=
  ∀ (tag : Byte) (s : State), s.takes →
    exec (.suspend tag) s =
      match s.toLane.current with
      | none => s.says 0x16#8 tag (refusal .noSaleOpen)
      | some i =>
        let c := s.toLane.ctx i
        if c.saleState ≠ some .opened then s.says 0x16#8 tag [.status .wrongState]
        else if 3 ≤ s.sale.stack.length then s.says 0x16#8 tag (refusal .stackFull)
        else
          .next { s with
            sale := { s.sale with
              contexts := s.sale.contexts.set i { c with role := .suspended }
              stack := s.sale.stack ++ [i] }
            scale := { s.scale with capture := none }
            link := s.link.answered 0x16#8 tag
              (match s.scale.capture with
               | none => []
               | some k => [eventOf 0x82#8 [.name 1, .u8 k.context, .u16 k.txn, .text k.description, .money k.unitPrice,
                   .u16 (256 - s.toLane.held)]])
              [.status .ok, .u16 (c.txn.getD 0), .u8 (s.sale.stack.length + 1)] }

/-- RESUME: its four checks in order; then the top context leaves the stack and becomes CURRENT with every field it
held, and the reply is OK with the context number, the transaction number and the subtotal. The interlock and the
card queue play no part. -/
def Obligations.ResumeTakesTheTopOfTheStack : Prop :=
  ∀ (tag : Byte) (s : State), s.takes →
    exec (.resume tag) s =
      if s.store.calState ≠ .out then s.says 0x17#8 tag (refusal .calMode)
      else if s.toLane.current ≠ none then s.says 0x17#8 tag (refusal .saleOpen)
      else if s.till.key = .locked then s.says 0x17#8 tag (refusal .keyPosition)
      else
        match s.sale.stack.getLast? with
        | none => s.says 0x17#8 tag (refusal .stackEmpty)
        | some i =>
          let c := s.toLane.ctx i
          .next { s with
            sale := { s.sale with
              contexts := s.sale.contexts.set i { c with role := .current }
              stack := s.sale.stack.dropLast }
            link := s.link.answered 0x17#8 tag [] [.status .ok, .u8 i, .u16 (c.txn.getD 0), .money c.subtotal] }

/-- DROP_SUSPENDED: refused with the stack empty, or with items in the bottom context away from MANAGER; otherwise
the bottom context becomes FREE with the values of R3 (its drawer A is the model's choice, log entry 6) and leaves the
stack, and the reply is OK with the dropped transaction number and the new stack depth. -/
def Obligations.DropSuspendedFreesTheBottom : Prop :=
  ∀ (tag : Byte) (s : State), s.takes →
    exec (.dropSuspended tag) s =
      match s.sale.stack with
      | [] => s.says 0x18#8 tag (refusal .stackEmpty)
      | i :: _ =>
        let c := s.toLane.ctx i
        if c.items ≠ [] ∧ s.till.key ≠ .manager then s.says 0x18#8 tag (refusal .keyPosition)
        else
          let stack := s.sale.stack.filter fun j => j ≠ i
          .next { s with
            sale := { s.sale with contexts := s.sale.contexts.set i Context.freed, stack := stack }
            link := s.link.answered 0x18#8 tag [] [.status .ok, .u16 (c.txn.getD 0), .u8 stack.length] }

/-- CANCEL_SALE: its four checks in order; then a pending capture is ended CANCELLED with WEIGH_DONE before the
reply, a sale in TENDER leaves it (Obligations.LeavingTenderAndPromotionMoveCards), the sale becomes CANCELLED with the
close time from the clock and the role PRINT_HELD, a VOID_SLIP job is placed
(Obligations.JobIsQueuedStartedOrBacklogged), and the reply is OK with the transaction number. (The void slip's start
before the reply is the model's order, log entry 23.) -/
def Obligations.CancelSaleEndsTheSaleUnpaid : Prop :=
  ∀ (tag : Byte) (s : State), s.takes →
    exec (.cancelSale tag) s =
      match s.toLane.current with
      | none => s.says 0x15#8 tag (refusal .noSaleOpen)
      | some i =>
        let c := s.toLane.ctx i
        if c.saleState = some .tender ∧ (∃ t ∈ c.tenders, t.card ≠ none) then s.says 0x15#8 tag (refusal .cardTendered)
        else if c.items ≠ [] ∧ s.till.key ≠ .manager then s.says 0x15#8 tag (refusal .keyPosition)
        else if s.sale.backlog ≠ none then s.says 0x15#8 tag (refusal .printBacklog)
        else
          let done :=
            match s.scale.capture with
            | none => []
            | some k => [eventOf 0x82#8 [.name 1, .u8 k.context, .u16 k.txn, .text k.description, .money k.unitPrice,
                .u16 (256 - s.toLane.held)]]
          let ended : Lane := { s.toLane with
            scale := { s.scale with capture := none }
            link := (s.link.taking 0x15#8 tag).handEvents done }
          let left := if c.saleState = some .tender then ended.leaveTender else ended
          let closed := left.setCtx i { c with saleState := some .cancelled, closeTime := s.link.clock, role := .printHeld }
          s.becomes ((closed.placeJob .voidSlip i).respond (ok [.u16 (c.txn.getD 0)]))

/-- SALE_STATUS, SALE_ITEMS and SALE_TENDERS change nothing but the link. SALE_STATUS is answered OK in every state with
the six contexts, the stack, the pool's free count, the backlog, the capture, and the fields of the CURRENT context when
there is one. SALE_ITEMS gives the records of the range that exist, each with its number and every field of its kind.
SALE_TENDERS reports the lowest-numbered context that is not FREE and holds the number, with every tender of its list, or
is refused when none does. (How the optional parts and the six contexts without a count
are laid out is log entry 15.) -/
def Obligations.SaleReportsChangeNothing : Prop :=
  ∀ (tag : Byte) (first count txn : Nat) (s : State), s.takes →
    let opt {α : Type} (x : Option α) (f : α → List Field) : List Field :=
      match x with | none => [.absent] | some a => .present :: f a
    let time (x : Option DateTime) : List Field := opt x fun d => [.stamp d]
    let at_ (i : Fin 6) : Context := s.sale.contexts[i]
    let state (c : Context) : Field := .name (match c.saleState with | some x => x.code | none => 0)
    exec (.saleStatus tag) s =
      s.says 0x19#8 tag
        ([.status .ok] ++
          ([0, 1, 2, 3, 4, 5] : List (Fin 6)).flatMap (fun i =>
            let c := at_ i
            .name c.role.code ::
              (if c.role = .free then [.absent, .absent, .absent]
               else [.present, .u16 (c.txn.getD 0), .present, state c, .present, .u8 c.pin])) ++
          [.count s.sale.stack.length] ++ s.sale.stack.map (fun i => .u8 i) ++
          [.u16 s.toLane.poolFree, .flag s.sale.backlog.isSome, .flag s.scale.capture.isSome] ++
          (match s.toLane.current with
           | none => List.replicate 11 .absent
           | some i =>
             let c := at_ i
             [.present, .u8 i, .present, .u8 c.items.length, .present, .u8 c.tenders.length, .present, .money c.subtotal,
              .present, .money c.tenderSum, .present, .money (c.subtotal - c.tenderSum), .present, .money c.changeDue,
              .present, .name (drawerCode c.drawer)] ++ time c.beginTime ++ [.present, .flag c.restarted] ++
               opt c.loyalty (fun n => [.text (n.drop (n.length - 4))]))) ∧
    exec (.saleItems tag first count) s =
      (match s.toLane.current with
       | none => s.says 0x1A#8 tag (refusal .noSaleOpen)
       | some i =>
         if first < 1 ∨ 150 < first ∨ count < 1 ∨ 8 < count then s.says 0x1A#8 tag [.status .badValue]
         else
           let found := ((at_ i).items.drop (first - 1)).take count
           s.says 0x1A#8 tag
             ([.status .ok, .count found.length] ++ (found.zipIdx first).flatMap (fun x =>
               let r := x.1
               [.u8 x.2, .name (match r.detail with | .keyed _ _ => 0 | .weighed _ _ _ _ => 1 | .void _ => 2),
                .text r.description, .money r.amount] ++ time r.time ++ [.flag r.voided] ++
                 (match r.detail with
                  | .keyed quantity price => [.u16 quantity, .money price]
                  | .weighed net tare division price => [.u16 net.toNat, .u16 tare, .u16 division, .money price]
                  | .void n => [.u8 n])))) ∧
    (txn < 1 ∨ 65535 < txn → exec (.saleTenders tag txn) s = s.says 0x4C#8 tag [.status .badValue]) ∧
    (let holds (i : Fin 6) : Prop := (at_ i).role ≠ .free ∧ (at_ i).txn = some txn
     1 ≤ txn → txn ≤ 65535 →
       ((∀ i, ¬holds i) → exec (.saleTenders tag txn) s = s.says 0x4C#8 tag (refusal .noSuchSale)) ∧
       (∀ i, holds i → (∀ j, j < i → ¬holds j) →
         let c := at_ i
         exec (.saleTenders tag txn) s =
           s.says 0x4C#8 tag
             ([.status .ok, .name c.role.code, state c, .money c.subtotal, .money c.tenderSum,
               .money (c.subtotal - c.tenderSum), .money c.changeDue, .name (drawerCode c.drawer)] ++ time c.closeTime ++
              [.count c.tenders.length] ++
              c.tenders.flatMap (fun x =>
                [.name (if x.card = none then 0 else 1), .money x.amount] ++ time x.time ++
                  (match x.card with
                   | none => []
                   | some k =>
                     [.u8 k.handle, .name (headCode k.head), .name k.cls.code, .text k.lastDigits, .text k.approval,
                      .money k.cashback])) ++
              [.flag (s.sale.backlog.any fun b => decide (b.context = i))])))

/-! ## Settlement and tenders (R112 to R127) -/

/-- Settlement of the sale in a context, in its order. The sale becomes SETTLED with its close time from the clock and
its change due the tender sum minus the subtotal. A sale that was in TENDER leaves it
(Obligations.LeavingTenderAndPromotionMoveCards). A grant is set on the sale's drawer when the tender list holds a CASH
tender or the change due is above 0; with a grant set and auto-open ON, a kick of basis GRANT and requester SETTLEMENT
is accepted on a CLOSED drawer (Obligations.KicksStartOrWait). The role becomes PRINT_HELD, and the receipt job is
placed (Obligations.JobIsQueuedStartedOrBacklogged). SETTLED is the last event of a settlement, after a PRINT_PAUSED
of the receipt's first row (log entry 23), and carries the settled sale's figures, the grant, the auto-open outcome
and where the job went. Auto-open is NOT_ASKED with the setting OFF or no grant due; otherwise KICK_STARTED, or
REFUSED with ABSENT, FAULT or BUSY as DRAWER_OPEN would be. (The key at LOCKED comes in no settlement.) So after a
settlement the sale's other fields are kept and no other context changes; the grant is set when it is due, and the
till controller is left as it was when it is not; the receipt job of the context, with the sale's transaction number,
stands at the end of the print queue, or in the settlement backlog when 4 jobs are queued. The suspend stack, the
counter and the settings, the header, what the link holds besides the frames it is to send, the weighing unit, the
store and the swipe decoder are unchanged. -/
def Obligations.SettlementFixesAndReportsTheSale : Prop :=
  (∀ (i : Fin 6) (by_ : SettledBy) (p : Lane),
    let c := p.ctx i
    let change := c.tenderSum - c.subtotal
    let due : Bool := c.tenders.any (fun x => x.card.isNone) || 0 < change
    let figures : Context := { c with saleState := some .settled, closeTime := p.link.clock, changeDue := change }
    let left := if by_ = .total then p.setCtx i figures else (p.setCtx i figures).leaveTender
    let granted := if due then left.setDrawer c.drawer { left.drawer c.drawer with grant := true } else left
    let asked : Bool := due && p.sale.autoOpen
    let state := (p.drawer c.drawer).state
    let kicked :=
      if asked ∧ p.till.key ≠ .locked ∧ state = .closed then granted.acceptKick .grant .settlement c.drawer else granted
    let auto : List Field :=
      if asked = false then [.name 0]
      else if p.till.key = .locked then [.name 2, .reason .keyPosition]
      else
        match state with
        | .absent => [.name 2, .reason .absent]
        | .fault => [.name 2, .reason .fault]
        | .closed => [.name 1]
        | _ => [.name 2, .reason .busy]
    p.settle i by_ =
      ((kicked.setCtx i { figures with role := .printHeld }).placeJob .receipt i).event 0x91#8
        ([.u8 i, .u16 (c.txn.getD 0), .name by_.code, .money c.subtotal, .money c.tenderSum, .money change,
          .money c.cashback, .u8 c.tenders.length, .name (drawerCode c.drawer), .flag due] ++ auto ++
          [.name (if 4 ≤ p.printer.queue.length then 1 else 0)] ++ stampField p.link.clock)) ∧
  (∀ (i : Fin 6) (by_ : SettledBy) (p : Lane),
    let c := p.ctx i
    let t := p.settle i by_
    let due : Prop := (∃ x ∈ c.tenders, x.card = none) ∨ 0 < c.tenderSum - c.subtotal
    let named (j : Job) : JobKind × Option (Fin 6) × Option Nat := (j.kind, j.context, j.txn)
    t.ctx i = { c with
      saleState := some .settled, closeTime := p.link.clock, changeDue := c.tenderSum - c.subtotal, role := .printHeld } ∧
    (∀ j, j ≠ i → t.ctx j = p.ctx j) ∧
    t.cards = (if by_ = .total then p else p.leaveTender).cards ∧
    (due → (t.drawer c.drawer).grant = true) ∧ (¬due → t.till = p.till) ∧
    (due → p.sale.autoOpen = false → t.till = (p.setGrant c.drawer).till) ∧
    (4 ≤ p.printer.queue.length →
      t.printer = p.printer ∧ t.composer = p.composer ∧ t.sale.backlog = some ⟨.receipt, i⟩) ∧
    (p.printer.queue.length < 4 →
      t.printer.queue.map named = p.printer.queue.map named ++ [(.receipt, some i, c.txn)] ∧
      t.sale.backlog = p.sale.backlog ∧
      (p.printer.engine ≠ .idle → t.composer = p.composer ∧
        t.printer = { p.printer with queue := p.printer.queue ++ [⟨.receipt, some i, c.txn, .queued⟩] })) ∧
    t.sale = { p.sale with contexts := t.sale.contexts, backlog := t.sale.backlog } ∧
    t.composer = { p.composer with position := t.composer.position } ∧
    t.link = { p.link with
      events := t.link.events, sending := t.link.sending, reply := t.link.reply, flags := t.link.flags } ∧
    t.now = p.now ∧ t.scale = p.scale ∧ t.store = p.store ∧ t.swipe = p.swipe)

/-- The notice that the CURRENT sale has left TENDER: the mark is cleared, a READY entry returns to HELD without an
event, and a FETCHED one is removed with CARD_REMOVED SALE_CLOSED. Promotion: while the TENDER mark is set and no
entry is READY or FETCHED, the oldest HELD payment card becomes READY with CARD_READY; otherwise nothing changes. -/
def Obligations.LeavingTenderAndPromotionMoveCards : Prop :=
  (∀ p : Lane,
    let back : List CardEntry := p.cards.queue.map fun e => if e.state = .ready then { e with state := .held } else e
    ((∀ e ∈ p.cards.queue, e.state ≠ .fetched) →
      p.leaveTender = { p with cards := { p.cards with tenderMark := false, queue := back } }) ∧
    (∀ e, p.cards.queue.find? CardEntry.isFetched = some e →
      p.leaveTender = { p with
        cards := { p.cards with tenderMark := false, queue := back.eraseP CardEntry.isFetched }
        link := p.link.saying 0x8F#8 [.u8 e.handle, .text e.masked, .name 0] })) ∧
  (∀ p : Lane,
    (p.cards.tenderMark = false ∨ (∃ e ∈ p.cards.queue, e.state ≠ .held) ∨
      (∀ e ∈ p.cards.queue, e.state = .held → e.cls = .loyalty ∨ e.cls = .blocked) → p.promote = p) ∧
    (∀ (before after : List CardEntry) (e : CardEntry), p.cards.tenderMark = true →
      p.cards.queue = before ++ e :: after → (∀ x ∈ before ++ e :: after, x.state = .held) →
      (∀ x ∈ before, x.cls = .loyalty ∨ x.cls = .blocked) → e.cls ≠ .loyalty → e.cls ≠ .blocked →
        p.promote = { p with
          cards := { p.cards with queue := before ++ { e with state := .ready } :: after }
          link := p.link.saying 0x8D#8 [.u8 e.handle, .name e.cls.code, .u8 e.rangeIndex, .text e.masked,
            .u32 (secondsUp (e.left p.now))] }))

/-- TENDER_CASH: its eight checks in order; then a CASH tender of the amount and the time joins the list and the
tender sum grows by the amount. With a balance due above 0 the sale stays in TENDER; otherwise it is settled
(Obligations.SettlementFixesAndReportsTheSale) before the reply. The reply is OK with the totals as they then stand, the tender
count and LIMIT. -/
def Obligations.TenderCashAddsACashTender : Prop :=
  ∀ (tag : Byte) (amount : Int) (s : State), s.takes →
    exec (.tenderCash tag amount) s =
      match s.toLane.current with
      | none => s.says 0x48#8 tag (refusal .noSaleOpen ++ [.flag false])
      | some i =>
        let c := s.toLane.ctx i
        if c.saleState ≠ some .tender then s.says 0x48#8 tag (.status .wrongState :: c.tenderFields [] false)
        else if s.till.key = .locked then s.says 0x48#8 tag (refusal .keyPosition ++ c.tenderFields [] false)
        else if s.sale.backlog ≠ none then s.says 0x48#8 tag (refusal .printBacklog ++ c.tenderFields [] false)
        else if amount < 1 ∨ 99999999 < amount then s.says 0x48#8 tag (.status .badValue :: c.tenderFields [] false)
        else if 8 ≤ c.tenders.length then s.says 0x48#8 tag (refusal .tenderFull ++ c.tenderFields [] false)
        else if 99999999 < c.tenderSum + amount then s.says 0x48#8 tag (refusal .totalLimit ++ c.tenderFields [] true)
        else if 999999 < c.tenderSum + amount - c.subtotal then
          s.says 0x48#8 tag (refusal .changeLimit ++ c.tenderFields [] true)
        else
          let c' : Context :=
            { c with tenders := c.tenders ++ [⟨amount, s.link.clock, none⟩], tenderSum := c.tenderSum + amount }
          let count : List Field := [.u8 (c.tenders.length + 1)]
          if 0 < c'.subtotal - c'.tenderSum then
            .next { s with
              sale := { s.sale with contexts := s.sale.contexts.set i c' }
              link := s.link.answered 0x48#8 tag [] (.status .ok :: c'.tenderFields count false) }
          else
            let t := ((s.toLane.begun 0x48#8 tag).setCtx i c').settle i .tenderCash
            s.becomes (t.respond (ok ((t.ctx i).tenderFields count false)))

/-- TENDER_CARD: its checks in order; then the entry is removed, and a CARD tender with the amount, the cashback, the
approval code, the time and the entry's handle, head, class and last 4 digits joins the list, the tender sum growing
by the amount plus the cashback. With a balance due above 0 the sale stays in TENDER and promotion is tried;
otherwise the sale is settled. The reply is OK with the totals, the tender count and LIMIT. -/
def Obligations.TenderCardAddsACardTender : Prop :=
  ∀ (tag : Byte) (h : Nat) (amount cashback : Int) (code : Text) (s : State), s.takes →
    exec (.tenderCard tag h amount cashback code) s =
      match s.toLane.current with
      | none => s.says 0x49#8 tag (refusal .noSaleOpen ++ [.flag false])
      | some i =>
        let c := s.toLane.ctx i
        let no (x : List Field) (limit : Bool) := s.says 0x49#8 tag (x ++ c.tenderFields [] limit)
        if c.saleState ≠ some .tender then no [.status .wrongState] false
        else if s.till.key = .locked then no (refusal .keyPosition) false
        else if s.sale.backlog ≠ none then no (refusal .printBacklog) false
        else if h < 1 ∨ 255 < h ∨ amount < 1 ∨ 99999999 < amount ∨ cashback < 0 ∨ 50000 < cashback ∨
            approvalOk code = false then no [.status .badValue] false
        else
          match s.cards.queue.find? (CardEntry.named h) with
          | none => no (refusal .noCard) false
          | some e =>
            let r := s.cards.table[e.rangeIndex]
            if e.state ≠ .fetched then no (refusal .noCard) false
            else if 8 ≤ c.tenders.length then no (refusal .tenderFull) false
            else if c.subtotal - c.tenderSum < amount then no (refusal .overBalance) true
            else if 0 < cashback ∧ e.cls ≠ .debit then no (refusal .cashbackNotAllowed) false
            else if 0 < cashback ∧ r.cashbackAllowed = false then no (refusal .cashbackNotAllowed) false
            else if r.cashbackLimit < cashback then no (refusal .cashbackLimit) true
            else if 0 < cashback ∧ amount < c.subtotal - c.tenderSum then no (refusal .cashbackPartial) false
            else if 99999999 < c.tenderSum + amount + cashback then no (refusal .totalLimit) true
            else
              let tender : Tender :=
                ⟨amount, s.link.clock, some ⟨e.handle, e.head, e.cls, lastFour e.masked, code, cashback⟩⟩
              let c' : Context :=
                { c with tenders := c.tenders ++ [tender], tenderSum := c.tenderSum + (amount + cashback) }
              let p := (((s.toLane.begun 0x49#8 tag).setQueue (s.cards.queue.eraseP (CardEntry.named h))).setCtx i c')
              let t := if 0 < c'.subtotal - c'.tenderSum then p.promote else p.settle i .tenderCard
              s.becomes (t.respond (ok ((t.ctx i).tenderFields [.u8 (c.tenders.length + 1)] false)))

/-- SETTLE_SETUP: BAD_VALUE for a byte that is neither ON nor OFF; otherwise the setting takes the value and the reply
is OK with it. (That 01h is ON is log entry 39.) CARD_SETUP: BAD_VALUE outside 1 to 30 tens of seconds; otherwise the
setting takes the value and no running timer moves. CARD_LIST is answered OK in every state with the TENDER mark and
every entry, each with its fields of R108, and changes nothing. -/
def Obligations.AutoOpenAndHoldTimeAreSetAndCardsListed : Prop :=
  (∀ (tag b : Byte) (s : State), s.takes →
    exec (.settleSetup tag b) s =
      if b ≠ 0#8 ∧ b ≠ 1#8 then s.says 0x4B#8 tag [.status .badValue]
      else
        .next { s with sale := { s.sale with autoOpen := b = 1#8 }
                       link := s.link.answered 0x4B#8 tag [] [.status .ok, .flag (b = 1#8)] }) ∧
  (∀ (tag : Byte) (tens : Nat) (s : State), s.takes →
    exec (.cardSetup tag tens) s =
      (if tens < 1 ∨ 30 < tens then s.says 0x43#8 tag [.status .badValue]
       else .next { s with cards := { s.cards with holdTens := tens }
                           link := s.link.answered 0x43#8 tag [] [.status .ok, .u8 tens] }) ∧
    exec (.cardList tag) s =
      s.says 0x45#8 tag
        ([.status .ok, .flag s.cards.tenderMark, .count s.cards.queue.length] ++
          s.cards.queue.flatMap (fun e =>
            [.u8 e.handle, .name e.state.code, .name (headCode e.head)] ++
              (match e.swipeTime with | none => [.absent] | some t => [.present, .stamp t]) ++
              [.name e.cls.code, .u8 e.rangeIndex, .text e.masked, .u8 e.accountLength] ++
              (match e.expiry with | none => [.absent] | some x => [.present, .text x]) ++
              [.flag e.reversed, .flag e.holder.isSome, .flag e.full.isSome] ++
              (match e.expiresAt with
               | none => [.absent]
               | some t => [.present, .u32 ((t - s.now + 999999) / 1000000)]))))

/-! ## The card queue (R102 to R109, R118) -/

/-- CARD_FETCH: its three checks in order; then the entry's full data are erased, its hold timer is stopped and its
state becomes FETCHED, every other entry and field kept, and the reply carries its data and the cashback terms of the
table entry at its range index. (The layout of the track images is log entry 15, the numbers of the tracks log entry
16.) -/
def Obligations.CardFetchReleasesAReadyCard : Prop :=
  ∀ (tag : Byte) (h : Nat) (s : State), s.takes →
    exec (.cardFetch tag h) s =
      if h < 1 ∨ 255 < h then s.says 0x44#8 tag [.status .badValue]
      else
        match s.cards.queue.find? (CardEntry.named h) with
        | none => s.says 0x44#8 tag (refusal .noCard)
        | some e =>
          if e.state ≠ .ready then s.says 0x44#8 tag (refusal .notReady)
          else
            let d := e.full.getD ⟨[], none, none⟩
            let r := s.cards.table[e.rangeIndex]
            .next { s with
              cards := { s.cards with
                queue := updateFirst (CardEntry.named h) (fun x => { x with full := none, expiresAt := none, state := .fetched })
                  s.cards.queue }
              link := s.link.answered 0x44#8 tag []
                ([.status .ok, .u8 e.handle, .name (headCode e.head)] ++ stampField e.swipeTime ++
                  [.name e.cls.code, .u8 e.rangeIndex, .name (sourceCode e.source)] ++ textField e.expiry ++
                  textField e.service ++ textField e.holder ++ [.flag e.reversed, .text d.account] ++ imageFields d ++
                  [.flag r.cashbackAllowed, .money r.cashbackLimit]) }

/-- CARD_DISCARD and DECLINE_CARD remove the entry of a handle; DECLINE_CARD, refused for a HELD entry, hands
CARD_DECLINED over first. Then promotion is tried, and the reply is OK with the number of entries left. (That the
reply to CARD_DISCARD follows the promotion is the model's choice of log entry 26.) CARD_EXPIRED: when the hold timer
of an entry runs, the entry is removed, CARD_EXPIRED is handed over and promotion is tried, the elapsed time having
reached the expiry (log entry 3); with no such timer running the command has no effect (log entry 4). -/
def Obligations.CardsAreRemovedOnRequestAndExpiry : Prop :=
  (∀ (tag : Byte) (h : Nat) (s : State), s.takes →
    let q := s.cards.queue.eraseP (CardEntry.named h)
    exec (.cardDiscard tag h) s =
      (if h < 1 ∨ 255 < h then s.says 0x46#8 tag [.status .badValue]
       else if s.cards.queue.find? (CardEntry.named h) = none then s.says 0x46#8 tag (refusal .noCard)
       else s.becomes (((s.toLane.begun 0x46#8 tag).setQueue q).promote.respond (ok [.u8 q.length]))) ∧
    exec (.declineCard tag h) s =
      (if h < 1 ∨ 255 < h then s.says 0x4A#8 tag [.status .badValue]
       else
         match s.cards.queue.find? (CardEntry.named h) with
         | none => s.says 0x4A#8 tag (refusal .noCard)
         | some e =>
           if e.state = .held then s.says 0x4A#8 tag (refusal .notReady)
           else
             s.becomes ((((s.toLane.begun 0x4A#8 tag).setQueue q).event 0x90#8
               [.u8 h, .name e.cls.code, .text e.masked, .u16 s.toLane.currentTxn]).promote.respond (ok [.u8 q.length])))) ∧
  (∀ (h : Nat) (s : State),
    exec (.cardExpired h) s =
      match s.cards.queue.find? (CardEntry.named h) with
      | none => .next s
      | some e =>
        match e.expiresAt with
        | none => .next s
        | some t =>
          s.becomes (Lane.promote { s.toLane with
            now := max s.now t
            cards := { s.cards with queue := s.cards.queue.eraseP (CardEntry.named h) }
            link := s.link.saying 0x8E#8 [.u8 h, .name e.cls.code, .text e.masked] }))

/-! ## The range table (R95, R98, R99) -/

/-- RANGE_WRITE: BAD_VALUE when a flag's byte or the class's names nothing (log entry 19); then its four checks in
order; then the entry takes the given fields, or the values of power-on when it is written with valid cleared, and the
reply is OK with the entry as written. The second clause spells out the third check. (That 01h is set, or yes, is log
entry 39, the layout of the entry log entry 17.) RANGE_MASK: refused away from MANAGER; BAD_VALUE for a position
outside 1 to 8; otherwise the shared mask becomes the given set. RANGE_READ: BAD_VALUE outside 0 to 23; otherwise OK
with the entry, the shared mask and the states of the card-queue entries at the index; it changes nothing. -/
def Obligations.RangeTableIsWrittenAndRead : Prop :=
  ((∀ (tag : Byte) (n : Nat) (e : RangeFields) (s : State), s.takes →
    exec (.rangeWrite tag n e) s =
      if (e.valid ≠ 0#8 ∧ e.valid ≠ 1#8) ∨ (e.cashbackAllowed ≠ 0#8 ∧ e.cashbackAllowed ≠ 1#8) ∨
          (e.cls.any fun b => 4#8 < b) = true then
        s.says 0x40#8 tag [.status .badValue]
      else if s.till.key ≠ .manager then s.says 0x40#8 tag (refusal .keyPosition)
      else if h : n < 24 then
        if e.valid = 1#8 ∧ rangeFieldsOk n e = false then s.says 0x40#8 tag [.status .badValue]
        else if (∃ c ∈ s.cards.queue, c.state = .fetched ∧ c.rangeIndex.val = n) then s.says 0x40#8 tag [.status .busy]
        else
          let w : RangeEntry :=
            if e.valid = 1#8 then
              ⟨true, e.digits, e.cls.bind classOf, e.lengthMin, e.lengthMax, e.cashbackAllowed = 1#8, e.cashbackLimit,
                maskOf (e.ownMask.getD [])⟩
            else RangeEntry.cleared
          .next { s with
            cards := { s.cards with table := s.cards.table.set n w }
            link := s.link.answered 0x40#8 tag [] (.status .ok :: entryFields ⟨n, h⟩ w) }
      else s.says 0x40#8 tag [.status .badValue]) ∧
  (∀ (n : Nat) (e : RangeFields), e.cashbackAllowed = 0#8 ∨ e.cashbackAllowed = 1#8 →
    (rangeFieldsOk n e = true ↔
      (∃ ds, e.digits = some ds ∧ 1 ≤ ds.length ∧ ds.length ≤ 8 ∧ ∀ d ∈ ds, 0x30 ≤ d.toNat ∧ d.toNat ≤ 0x39) ∧
      (∃ b k, e.cls = some b ∧ classOf b = some k ∧ (e.cashbackAllowed = 1#8 → k = .debit)) ∧
      (∃ lo hi, e.lengthMin = some lo ∧ e.lengthMax = some hi ∧ 12 ≤ lo ∧ lo ≤ hi ∧ hi ≤ 19) ∧
      0 ≤ e.cashbackLimit ∧ e.cashbackLimit ≤ 50000 ∧
      (∀ ps, e.ownMask = some ps → 22 ≤ n ∧ ∀ p ∈ ps, 1 ≤ p ∧ p ≤ 8))) ∧
  [0#8, 1#8, 2#8, 3#8, 4#8].map classOf = [some .debit, some .credit, some .gift, some .loyalty, some .blocked] ∧
  (∀ b : Byte, 4#8 < b → classOf b = none)) ∧
  (∀ (tag : Byte) (n : Nat) (ps : List Nat) (s : State), s.takes →
    exec (.rangeMask tag ps) s =
      (if s.till.key ≠ .manager then s.says 0x41#8 tag (refusal .keyPosition)
       else if (∃ p ∈ ps, p < 1 ∨ 8 < p) then s.says 0x41#8 tag [.status .badValue]
       else .next { s with cards := { s.cards with sharedMask := maskOf ps }
                           link := s.link.answered 0x41#8 tag [] [.status .ok, .mask (maskOf ps)] }) ∧
    exec (.rangeRead tag n) s =
      (if h : n < 24 then
         let found := s.cards.queue.filter fun e => e.rangeIndex = ⟨n, h⟩
         s.says 0x42#8 tag
           (.status .ok :: entryFields ⟨n, h⟩ s.cards.table[n] ++ [.mask s.cards.sharedMask, .count found.length] ++
             found.map fun e => .name e.state.code)
       else s.says 0x42#8 tag [.status .badValue]))

/-! ## The three resets (R24, R46, R66, R93, R111, R128, R148, R149, R163, R179, R191, R195) -/

/-- POWER_ON and RESET_INPUT: the store's start-up check, then every block's values of its reset table, then the
weighing unit's restart with SCALE_STATE. The clock is UNSET after power-on and kept by the reset input. (The phases
of the sample, reading and second, the state left at power-on, the phase of the light, the conditions cleared, the drawer
A of a FREE context and the elapsed time of 0 at power-on are the model's: log entries 32, 10, 34, 11, 6 and 3.) -/
def Obligations.PowerOnAndResetInputStartEveryBlock : Prop :=
  ∀ (i : ResetInputs) (torn : TornRecord) (c : Instr) (now second : Nat) (clock : Option DateTime) (s : State),
    (c = .powerOn i torn ∧ now = 0 ∧ clock = none ∧ second = 1000000) ∨
      (c = .resetInput i torn ∧ now = s.now ∧ clock = s.link.clock ∧ second = s.link.nextSecond) →
    ∃ (t : State) (left : Nat), exec c s = .next t ∧ t.pending = s.pending ∧ t.now = now ∧
      (c = .resetInput i torn → left = s.scale.unit.code) ∧
      t.link =
        { receiver := .hunt, inProgress := none, reply := none
          sending := some (.event (eventOf 0x80#8 [.name t.scale.unit.code, .name left])), events := []
          enabled := 0x7FFFFFFF#32
          flags := (match t.store.txnRecord with | .valid _ => 0x0000#16 | .erased | .corrupt => 0x0001#16)
          rate := .baud115200, newRate := none, clock := clock, nextSecond := second, identity := i.straps } ∧
      t.sale =
        { contexts := Vector.replicate 6 Context.freed, stack := []
          counter := (match t.store.txnRecord with | .valid n => n | .erased | .corrupt => 0)
          restartPending := (match t.store.txnRecord with | .valid _ => false | .erased | .corrupt => true)
          backlog := none, autoOpen := false } ∧
      (let v : CalValues := match t.store.calRecord with | .valid r => r.values | .erased | .corrupt => ⟨0, 65536, 8, 8, true⟩
       t.scale =
        { unit := (match t.store.calRecord with | .valid _ => .starting | .erased | .corrupt => .recordInvalid)
          atRestart := v, z := v.z0, zpu := v.z0, tare := 0, history := [], window := [], rail := 0, chain := none
          conditions := ⟨false, false, false, false⟩, joltExpiry := none, autoClear := false, timeoutTenths := 30
          feed := false, lastReport := none, lastSend := none, capture := none, latch := false
          nextSample := now + 12500 }) ∧
      t.store =
        { calRecord := (match s.store.write with
            | some (.calRecord r) => tornTo torn s.store.calRecord r | _ => s.store.calRecord)
          counterRecord := (match s.store.write with
            | some (.calCounter n) => tornTo torn s.store.counterRecord n | _ => s.store.counterRecord)
          txnRecord := (match s.store.write with
            | some (.txnNumber n) => tornTo torn s.store.txnRecord n | _ => s.store.txnRecord)
          mirror := (match t.store.counterRecord with | .valid n => n | .erased => 0 | .corrupt => 9999)
          counterValid := (match t.store.counterRecord with | .valid _ | .erased => true | .corrupt => false)
          calState := .out, switch := i.switch, working := none, leaveCause := none, commitTime := none, write := none } ∧
      t.swipe = ⟨false, false, none, ⟨false, .sync none []⟩, ⟨false, .sync none []⟩, none⟩ ∧
      t.cards = ⟨Vector.replicate 24 RangeEntry.cleared, 0, 6, [], 0, false⟩ ∧
      (let drawer (tray : TrayLevel) (closed : ClosedLevel) : DrawerRecord :=
        match tray, closed with
        | .removed, _ => ⟨.absent, tray, closed, false, none, none, none, none, none, none⟩
        | .present, .shut => ⟨.closed, tray, closed, false, none, none, none, none, none, none⟩
        | .present, .opened =>
          ⟨.opened, tray, closed, false, none, none, none, some now, some (now + 30000000), none⟩
       t.till =
        { drawerA := drawer i.trayA i.closedA, drawerB := drawer i.trayB i.closedB, driver := none, waiting := none
          pulseMs := 100, alarmSeconds := 30, interlock := false, active := .a, key := i.key.getD .locked
          assist := false, presses := 0, commanded := .off, shown := .off, shownSince := now }) ∧
      t.composer = ⟨[], 2, none⟩ ∧
      t.printer =
        { queue := [], slip := none, engine := .idle, draining := false, restartDue := false, line := none
          lineNumber := 0, phase := .line, row := 0, tailRows := 0, figures := none, cutUntil := none, feed := none
          limit := 64
          temperature := if -20 ≤ i.temperature ∧ i.temperature ≤ 120 then i.temperature else 25
          sensorValid := -20 ≤ i.temperature ∧ i.temperature ≤ 120
          lastReading := i.temperature, nextReading := now + 100000, paper := i.paper, nearEnd := i.nearEnd
          cover := i.cover, supply := i.supply, cutterHome := i.cutterHome }

/-- LANE_RESET: every block takes its lane-reset values. The contexts, the capture, the card and print queues, the
slip and the event queue are emptied; a running pulse is cut with current CUT and its end reported to the weighing
unit; a drawer in FAULT stays so and any other takes its state from its sensors; the store, the settings, the clock
and the counter are kept. While BEGIN's write is in flight the command has no effect (log entry 29). (The time driven of
the cut pulse, the phase of the light and the drawer A of a FREE context are the model's, log entries 21, 34 and 6. States
whose shown light mode is not the judged one are left out; Obligations.TillStaysSound shuts them out.) -/
def Obligations.LaneResetTakesItsValues : Prop :=
  (∀ s : State, (∀ n, s.store.write ≠ some (.txnNumber n)) → s.till.judgedLight = s.till.shown →
    ∃ t : State, exec .laneReset s = .next t ∧ t.pending = s.pending ∧ t.now = s.now ∧ t.store = s.store ∧
      t.link = { s.link with
        receiver := .hunt, inProgress := none, reply := none, sending := none, events := [], flags := 0, newRate := none } ∧
      t.sale = { s.sale with contexts := Vector.replicate 6 Context.freed, stack := [], backlog := none } ∧
      t.scale = { s.scale with
        tare := 0, capture := none, latch := false, lastReport := none, lastSend := none
        joltExpiry := if s.till.driver = none then s.scale.joltExpiry else some (s.now + 400000)
        window := if s.till.driver = none then s.scale.window else [] } ∧
      t.swipe = { s.swipe with
        channel := none, endExpiry := none, trackA := ⟨false, .sync none []⟩, trackB := ⟨false, .sync none []⟩ } ∧
      t.cards = { s.cards with queue := [], tenderMark := false } ∧
      (let drawer (d : Drawer) : DrawerRecord :=
        let r := s.toLane.drawer d
        let drive : Option DriveReport :=
          match s.till.driver with
          | some ⟨g, since⟩ => if g = d then some ⟨r.pulse, drivenMs r.pulse since s.now, .cut⟩ else r.drive
          | none => r.drive
        if r.state = .fault then { r with grant := false, drive := drive }
        else
          { r with
            grant := false, drive := drive, kick := none, confirmUntil := none
            state := match r.tray, r.closed with
              | .removed, _ => .absent | .present, .shut => .closed | .present, .opened => .opened
            openSince := if r.tray = .present ∧ r.closed = .opened then some s.now else none
            alarmAt :=
              if r.tray = .present ∧ r.closed = .opened ∧ s.till.alarmSeconds ≠ 0 then
                some (s.now + s.till.alarmSeconds * 1000000)
              else none }
       let till : Till :=
        { s.till with
          drawerA := drawer .a, drawerB := drawer .b, driver := none, waiting := none, assist := false, presses := 0 }
       t.till = till.judgeLight s.now) ∧
      t.composer = { s.composer with position := none } ∧
      t.printer = { s.printer with
        queue := [], slip := none, engine := .idle, draining := false, restartDue := false, line := none
        lineNumber := 0, phase := .line, row := 0, tailRows := 0, figures := none, cutUntil := none, feed := none }) ∧
  (∀ (n : Nat) (s : State), s.store.write = some (.txnNumber n) → exec .laneReset s = .next s)

/-! ## The weighing unit (R25 to R63) -/

/-- ADC_SAMPLE outside ADC_FAULT, when it is no rail sample or does not bring the rail counter to 8: the count enters
the history; the filtered count is the mean of the newest N; the gross, net, division, roundings, motion window and
conditions follow from it; then the power-up zero test in STARTING and ZERO_FAULT, or zero tracking in READY; then the
capture stage (Obligations.CaptureStageJudgesTheSample) and the feed (Obligations.FeedHandsOverANewReport). (The
elapsed time is the model's, log entry 3, as is the zero in force after a restart made in CAL, log entry 12.) A rail
sample that brings the counter to 8 ends a pending capture ADC_FAULT and enters ADC_FAULT with SCALE_STATE, history,
window and conditions emptied (HOLD is kept, log entry 13) and the feed served (log entry 14); in ADC_FAULT an
off-rail sample counts and a rail sample sets the counter to 0; the off-rail sample that brings it to 8 is the first
sample after a restart. A restart takes the calibration values of the record or the defaults, Z and Zpu at the
calibrated zero in force, no tare, an empty history and window, and hands SCALE_STATE over with the state left. (The
conditions it clears and the zero of one made in CAL are log entries 11 and 12.) Rounding half away from zero gives
the nearest whole number, and of two as near the one farther from zero; the multiple of a division is so rounded; a
gross is the count less the zero, times the gain, over 65536, so rounded and kept within ±8,388,607; the rail values
are 8,388,607, -8,388,607 and -8,388,608. -/
def Obligations.SampleRunsTheChain : Prop :=
  (∀ (n : Int) (stable : Bool) (s : State), s.scale.unit ≠ .adcFault → (railCount n = false ∨ s.scale.rail < 7) →
    let v := s.toLane.inForce
    let history := newest 16 (s.scale.history ++ [n])
    let held := newest v.filterLength history
    let count := roundHalfAway held.sum held.length
    let gross (c : Int) : Int := max (-8388607) (min 8388607 (roundHalfAway ((c - s.scale.z) * v.gain) 65536))
    let net := gross count - s.scale.tare
    let e : Nat := if net.natAbs ≤ 60000 then 20 else 50
    let chain : Chain := ⟨count, gross count, net, e, roundTo e net, roundTo e (gross count), s.scale.tare⟩
    let hold := s.scale.joltExpiry.isSome
    let window := newest v.windowLength (if hold then s.scale.window else s.scale.window ++ [count])
    (stable = true ↔ window.length = v.windowLength ∧
      ∃ last, window.getLast? = some last ∧ ∀ c ∈ window, (gross c - gross last).natAbs ≤ 10) →
    let far (zero : Int) : Nat := (roundHalfAway ((count - zero) * v.gain) 65536).natAbs
    let scale : Scale := { s.scale with
      rail := if railCount n then s.scale.rail + 1 else 0
      history := history, window := window, chain := some chain
      conditions := ⟨stable, 150450 < gross count, gross count < -400, hold⟩
      nextSample := max s.now s.scale.nextSample + 12500 }
    let q : Lane := { s.toLane with now := max s.now s.scale.nextSample, scale := scale }
    let r : Lane :=
      if (s.scale.unit = .starting ∨ s.scale.unit = .zeroFault) ∧ stable = true then
        if far v.z0 ≤ 15000 then
          { q with scale := { scale with unit := .ready, z := count, zpu := count }
                   link := s.link.saying 0x80#8 [.name 2, .name s.scale.unit.code] }
        else if s.scale.unit = .starting then
          { q with scale := { scale with unit := .zeroFault }, link := s.link.saying 0x80#8 [.name 1, .name 0] }
        else q
      else if s.scale.unit = .ready ∧ v.tracking = true ∧ stable = true ∧ s.scale.tare = 0 ∧ s.scale.capture = none ∧
          (gross count).natAbs ≤ 10 ∧ far s.scale.zpu ≤ 3000 then
        { q with scale := { scale with z := count } }
      else q
    exec (.adcSample n) s = s.becomes ((r.captureStage chain).feedStage)) ∧
  ((∀ (n : Int) (s : State),
    let now := max s.now s.scale.nextSample
    let q (scale : Scale) : Lane := { s.toLane with now := now, scale := { scale with nextSample := now + 12500 } }
    (s.scale.unit ≠ .adcFault → railCount n = true → 7 ≤ s.scale.rail →
      let ended : Link :=
        match s.scale.capture with
        | none => s.link
        | some c => s.link.saying 0x82#8 [.name 5, .u8 c.context, .u16 c.txn, .text c.description, .money c.unitPrice,
            .u16 (256 - s.toLane.held)]
      exec (.adcSample n) s =
        s.becomes (Lane.feedStage { q { s.scale with
          unit := .adcFault, capture := none, history := [], window := [], rail := 0, chain := none
          conditions := ⟨false, false, false, s.scale.conditions.hold⟩ } with
          link := ended.saying 0x80#8 [.name 3, .name s.scale.unit.code] })) ∧
    (s.scale.unit = .adcFault → railCount n = true →
      exec (.adcSample n) s = s.becomes (q { s.scale with rail := 0 }).feedStage) ∧
    (s.scale.unit = .adcFault → railCount n = false → s.scale.rail < 7 →
      exec (.adcSample n) s = s.becomes (q { s.scale with rail := s.scale.rail + 1 }).feedStage) ∧
    (s.scale.unit = .adcFault → railCount n = false → 7 ≤ s.scale.rail →
      exec (.adcSample n) s = exec (.adcSample n) { s with toLane := s.toLane.restart })) ∧
  (∀ p : Lane,
    let v : CalValues := match p.store.calRecord with | .valid r => r.values | .erased | .corrupt => ⟨0, 65536, 8, 8, true⟩
    let u : UnitState := match p.store.calRecord with | .valid _ => .starting | .erased | .corrupt => .recordInvalid
    let z0 : Int :=
      match p.store.working with
      | some w => if p.store.calState = .out then v.z0 else w.z0
      | none => v.z0
    p.restart = { p with
      scale := { p.scale with
        unit := u, atRestart := v, z := z0, zpu := z0, tare := 0, history := [], window := [], rail := 0, chain := none
        conditions := ⟨false, false, false, p.scale.conditions.hold⟩ }
      link := p.link.saying 0x80#8 [.name u.code, .name p.scale.unit.code] })) ∧
  ((∀ (num : Int) (den : Nat), 0 < den →
    let q := roundHalfAway num den
    let off := 2 * (num - q * den).natAbs
    off ≤ den ∧ (off = den → num.natAbs < (q * den).natAbs)) ∧
  (∀ (e : Nat) (x : Int), 0 < e →
    let y := roundTo e x
    let off := 2 * (x - y).natAbs
    (e : Int) ∣ y ∧ off ≤ e ∧ (off = e → x.natAbs < y.natAbs)) ∧
  (∀ (count zero : Int) (gain : Nat),
    let w := roundHalfAway ((count - zero) * gain) 65536
    grossOf count zero gain = if 8388607 < w then 8388607 else if w < -8388607 then -8388607 else w) ∧
  (∀ n : Int, railCount n = true ↔ n = 8388607 ∨ n = -8388607 ∨ n = -8388608))

/-- Stage 6: the latch is cleared by a gross below 400 units; then a pending capture is judged. An unfit sample records
the first obstacle that applies. A fit one whose amount is above 9,999,999, or would bring the subtotal above
99,999,999, ends the capture PRICE_LIMIT or TOTAL_LIMIT; any other fills a WEIGHED record, appends it, sets the latch,
clears the tare with auto-clear on, and hands WEIGH_DONE CAPTURED over. -/
def Obligations.CaptureStageJudgesTheSample : Prop :=
  ∀ (chain : Chain) (p : Lane),
    let scale : Scale := { p.scale with latch := if chain.gross < 400 then false else p.scale.latch }
    match p.scale.capture with
    | none => p.captureStage chain = { p with scale := scale }
    | some c =>
      let k := p.scale.conditions
      let waits (o : Obstacle) : Lane := { p with scale := { scale with capture := some { c with obstacle := o } } }
      let grams := chain.netRounded / 10
      let e := chain.division / 10
      let amount := (grams * c.unitPrice + 500) / 1000
      let a := p.ctx c.context
      let limit : List Field := [.flag (a.subtotal < 0), .flag (a.subtotal = 0), .flag true]
      let done (o : Nat) (free : Nat) : List Field :=
        [.name o, .u8 c.context, .u16 c.txn, .text c.description, .money c.unitPrice, .u16 free]
      p.captureStage chain =
        if k.hold = true then waits .hold
        else if k.overload = true then waits .overload
        else if k.underload = true then waits .underload
        else if k.stable = false then waits .motion
        else if chain.netRounded < 400 then waits .underMinimum
        else if 150000 < chain.netRounded then waits .overMaximum
        else if 9999999 < amount then
          { p with scale := { scale with capture := none }
                   link := p.link.saying 0x82#8 (done 3 (256 - p.held) ++ [.money amount, .u16 grams.toNat, .u16 e] ++ limit) }
        else if 99999999 < a.subtotal + amount then
          { p with scale := { scale with capture := none }
                   link := p.link.saying 0x82#8 (done 4 (256 - p.held) ++
                     [.money amount, .u16 grams.toNat, .u16 e, .money a.subtotal] ++ limit) }
        else
          let r : ItemRecord := ⟨c.description, amount, p.link.clock, false, .weighed grams (chain.tare / 10) e c.unitPrice⟩
          let b : Context := { a with items := a.items ++ [r], subtotal := a.subtotal + amount }
          let q : Lane := { p with
            sale := { p.sale with contexts := p.sale.contexts.set c.context b }
            scale := { scale with latch := true, tare := if p.scale.autoClear then 0 else p.scale.tare, capture := none } }
          { q with link := p.link.saying 0x82#8 (done 0 (256 - q.held) ++
              [.u8 (a.items.length + 1), .u16 grams.toNat, .u16 (chain.tare / 10), .u16 e] ++ stampField p.link.clock ++
              [.money amount, .money b.subtotal, .flag (b.subtotal < 0), .flag (b.subtotal = 0), .flag false]) }

/-- Stage 7: with the feed ON, a report that differs from the last one sent is handed over as SCALE_WEIGHT when 100 ms
have passed since the last and the event queue holds fewer than 12 events; otherwise nothing changes. The report holds
the unit state, the net and division shown in READY with neither OVERLOAD nor UNDERLOAD, the tare that net was computed
with, and the conditions. SCALE_FEED sets the setting and makes the last-sent report and time absent; SCALE_SETUP,
refused with a capture pending and BAD_VALUE outside the ranges, sets auto-clear and the timeout; JOLT_HOLD_EXPIRY
stops the hold timer, HOLD staying until the next sample. (The tare reported with no net and the division absent with
the weight blank are log entry 14, the place of SCALE_SETUP's BAD_VALUE for a byte that names nothing log entry 19,
01h for ON log entry 39, the elapsed time at JOLT_HOLD_EXPIRY log entry 3.) -/
def Obligations.FeedHandsOverANewReport : Prop :=
  (∀ p : Lane,
    let k := p.scale.conditions
    let shown : Option Chain :=
      if p.scale.unit = .ready ∧ k.overload = false ∧ k.underload = false then p.scale.chain else none
    let tare : Nat := match p.scale.chain with | some c => c.tare / 10 | none => p.scale.tare / 10
    let report : FeedReport :=
      ⟨p.scale.unit, shown.map fun c => c.netRounded / 10, tare, shown.map fun c => c.division / 10, k⟩
    p.feedStage =
      if p.scale.feed = true ∧ p.scale.lastReport ≠ some report ∧ (∀ t, p.scale.lastSend = some t → t + 100000 ≤ p.now) ∧
          p.link.events.length < 12 then
        { p with
          scale := { p.scale with lastReport := some report, lastSend := some p.now }
          link := p.link.saying 0x81#8
            ([.name p.scale.unit.code] ++ (match shown with | some c => [.present, .i16 (c.netRounded / 10)] | none => [.absent]) ++
              [.u16 tare] ++ (match shown with | some c => [.present, .u16 (c.division / 10)] | none => [.absent]) ++
              [.flag k.stable, .flag k.overload, .flag k.underload, .flag k.hold]) }
      else p) ∧
  (∀ (tag b : Byte) (tenths : Nat) (s : State), s.takes →
    exec (.scaleFeed tag b) s =
      (if b ≠ 0#8 ∧ b ≠ 1#8 then s.says 0x26#8 tag [.status .badValue]
       else
         .next { s with scale := { s.scale with feed := b = 1#8, lastReport := none, lastSend := none }
                        link := s.link.answered 0x26#8 tag [] [.status .ok] }) ∧
    exec (.scaleSetup tag b tenths) s =
      (if s.scale.capture ≠ none then s.says 0x24#8 tag (refusal .capturePending)
       else if (b ≠ 0#8 ∧ b ≠ 1#8) ∨ tenths < 5 ∨ 100 < tenths then s.says 0x24#8 tag [.status .badValue]
       else
         .next { s with scale := { s.scale with autoClear := b = 1#8, timeoutTenths := tenths }
                        link := s.link.answered 0x24#8 tag [] [.status .ok, .flag (b = 1#8), .u8 tenths] })) ∧
  (∀ s : State,
    exec .joltHoldExpiry s =
      .next { s with now := (match s.scale.joltExpiry with | some t => max s.now t | none => s.now)
                     scale := { s.scale with joltExpiry := none } })

/-- ZERO, TARE, TARE_PRESET and TARE_CLEAR: their checks in order; then Z takes the present count, or the tare takes the
gross rounded to 20 units, 10 units for each gram given, or 0. (The rounding is Obligations.SampleRunsTheChain's.
READY without a sample taken comes in no run; the model answers ZERO and TARE there as in motion.) -/
def Obligations.ZeroAndTareMoveTheZeroAndTheTare : Prop :=
  ∀ (tag : Byte) (grams : Nat) (s : State), s.takes →
    let k := s.scale.conditions
    let checks (code : Byte) (pass : Host.Outcome State Fault Refusal) : Host.Outcome State Fault Refusal :=
      if s.store.calState ≠ .out then s.says code tag (refusal .calMode)
      else if s.scale.unit ≠ .ready then s.says code tag (refusal .scaleNotReady)
      else if s.scale.capture ≠ none then s.says code tag (refusal .capturePending)
      else pass
    let tared (code : Byte) (units : Nat) (fields : List Field) : Host.Outcome State Fault Refusal :=
      .next { s with scale := { s.scale with tare := units }, link := s.link.answered code tag [] (.status .ok :: fields) }
    exec (.zero tag) s =
      checks 0x20#8
        (if s.scale.tare ≠ 0 then s.says 0x20#8 tag (refusal .tareActive)
         else if k.hold = true ∨ k.stable = false then s.says 0x20#8 tag (refusal .motion)
         else
           match s.scale.chain with
           | none => s.says 0x20#8 tag (refusal .motion)
           | some chain =>
             if 3000 < (roundHalfAway ((chain.count - s.scale.zpu) * s.toLane.inForce.gain) 65536).natAbs then
               s.says 0x20#8 tag (refusal .outOfZeroRange)
             else
               .next { s with scale := { s.scale with z := chain.count }
                              link := s.link.answered 0x20#8 tag [] [.status .ok] }) ∧
    exec (.tare tag) s =
      checks 0x21#8
        (if k.hold = true ∨ k.stable = false then s.says 0x21#8 tag (refusal .motion)
         else
           match s.scale.chain with
           | none => s.says 0x21#8 tag (refusal .motion)
           | some chain =>
             let g := (roundTo 20 chain.gross).toNat
             if chain.gross ≤ 0 ∨ 60000 < chain.gross ∨ g = 0 then s.says 0x21#8 tag (refusal .tareRange)
             else tared 0x21#8 g [.u16 (g / 10)]) ∧
    exec (.tarePreset tag grams) s =
      checks 0x22#8
        (if grams % 2 = 1 ∨ grams < 2 ∨ 6000 < grams then s.says 0x22#8 tag [.status .badValue]
         else tared 0x22#8 (10 * grams) [.u16 grams]) ∧
    exec (.tareClear tag) s =
      if s.scale.capture ≠ none then s.says 0x23#8 tag (refusal .capturePending) else tared 0x23#8 0 []

/-- WEIGH: its ten checks in order; then one record is reserved and the capture request holds the sale's context and
number, the description, the price, the timeout and no sample, and the reply is ACCEPTED. WEIGH_CANCEL and
CAPTURE_TIMEOUT end a pending capture with WEIGH_DONE CANCELLED or MOTION_TIMEOUT, its record free again; with none
pending WEIGH_CANCEL is refused NO_CAPTURE and the expiry does nothing. (That CAPTURE_TIMEOUT brings the elapsed time up to
the expiry is log entry 3.) -/
def Obligations.WeighReservesARecordUntilTheCaptureEnds : Prop :=
  (∀ (tag : Byte) (d : Text) (x : Int) (s : State), s.takes →
    exec (.weigh tag d x) s =
      if s.store.calState ≠ .out then s.says 0x28#8 tag (refusal .calMode)
      else
        match s.toLane.current with
        | none => s.says 0x28#8 tag (refusal .noSaleOpen)
        | some i =>
          let c := s.toLane.ctx i
          if c.saleState ≠ some .opened then s.says 0x28#8 tag [.status .wrongState]
          else if s.till.key = .locked then s.says 0x28#8 tag (refusal .keyPosition)
          else if d.length < 1 ∨ 20 < d.length ∨ d.all printable = false ∨ x < 1 ∨ 999999 < x then
            s.says 0x28#8 tag [.status .badValue]
          else if s.scale.unit ≠ .ready then s.says 0x28#8 tag (refusal .scaleNotReady)
          else if s.scale.capture ≠ none then s.says 0x28#8 tag [.status .busy]
          else if s.scale.latch = true then s.says 0x28#8 tag (refusal .removeItem)
          else if s.toLane.poolFree = 0 then s.says 0x28#8 tag (refusal .poolFull)
          else if 150 ≤ c.items.length then s.says 0x28#8 tag (refusal .saleFull)
          else
            .next { s with
              scale := { s.scale with
                capture := some ⟨i, c.txn.getD 0, d, x, s.scale.timeoutTenths, s.now + s.scale.timeoutTenths * 100000, .noSample⟩ }
              link := s.link.answered 0x28#8 tag []
                [.status .accepted, .u8 i, .u16 (c.txn.getD 0), .u16 (255 - s.toLane.held), .u8 s.scale.timeoutTenths] }) ∧
  (∀ (tag : Byte) (s : State),
    let done (c : Capture) (o : Nat) (more : List Field) : List Field :=
      [.name o, .u8 c.context, .u16 c.txn, .text c.description, .money c.unitPrice, .u16 (256 - s.toLane.held)] ++ more
    (s.takes →
      exec (.weighCancel tag) s =
        match s.scale.capture with
        | none => s.says 0x29#8 tag (refusal .noCapture)
        | some c =>
          .next { s with
            scale := { s.scale with capture := none }
            link := s.link.answered 0x29#8 tag [eventOf 0x82#8 (done c 1 [])]
              [.status .ok, .u16 (256 - s.toLane.held)] }) ∧
    exec .captureTimeout s =
      match s.scale.capture with
      | none => .next s
      | some c =>
        .next { s with
          now := max s.now c.expiry
          scale := { s.scale with capture := none }
          link := s.link.saying 0x82#8 (done c 2 [.name c.obstacle.code]) })

/-! ## Calibration mode and the metrology store (R65 to R77) -/

/-- CAL_ENTER: refused in CAL, with the switch open or with a sale open; otherwise the working set takes the values in
force, which are the defaults when the calibration record is not VALID and otherwise those of the last restart (log
entry 12), the tare and the latch are cleared, CAL is entered with CAL_STATE, and the reply carries the values, the
counter mirror and its valid mark. Leaving CAL discards the working set, hands CAL_STATE LEFT over and restarts the
weighing unit unless it is in ADC_FAULT: at CAL_EXIT and at CAL_SWITCH_OPENING when ENTERED; while a commit is being
written both make the state LEAVING. CAL_SWITCH_CLOSING only moves the switch. (The conditions the restart clears are
log entry 11, the numbers ENTERED 0 and LEFT 1 log entry 16.) CAL_ZERO, CAL_SPAN and CAL_SET, each refused outside
CAL, BUSY while a commit is written, and by their own checks: CAL_ZERO sets the
working Z0, Z and Zpu to the present count, CAL_SPAN sets the working gain to the mass over the counts above Z0, half
up, CAL_SET sets N, W and tracking; the replies carry the working set, that to CAL_SPAN also the gross of the present
count under the new gain. (The gross and its rounding are Obligations.SampleRunsTheChain's; 01h for ON is
log entry 39, the place of the BAD_VALUE for a tracking byte that names nothing log entry 19.) -/
def Obligations.CalIsEnteredUsedAndLeft : Prop :=
  (let left (cause : CalCause) (p : Lane) : Lane :=
    let q : Lane := { p with
      store := { p.store with working := none, calState := .out, leaveCause := none }
      link := p.link.saying 0x83#8 [.name 1, .name cause.code] }
    if p.scale.unit = .adcFault then q else q.restart
  (∀ (tag : Byte) (s : State), s.takes →
    exec (.calEnter tag) s =
      if s.store.calState ≠ .out then s.says 0x30#8 tag (refusal .calMode)
      else if s.store.switch = .opened then s.says 0x30#8 tag (refusal .switchOpen)
      else if s.toLane.current ≠ none then s.says 0x30#8 tag (refusal .saleOpen)
      else
        let v : CalValues :=
          match s.store.calRecord with | .valid _ => s.scale.atRestart | .erased | .corrupt => ⟨0, 65536, 8, 8, true⟩
        .next { s with
          scale := { s.scale with tare := 0, latch := false }
          store := { s.store with working := some v, calState := .entered }
          link := s.link.answered 0x30#8 tag [eventOf 0x83#8 [.name 0, .name 0]]
            [.status .ok, .i32 v.z0, .i32 v.gain, .u8 v.filterLength, .u8 v.windowLength, .flag v.tracking,
              .u16 s.store.mirror, .flag s.store.counterValid] }) ∧
  (∀ (tag : Byte) (s : State), s.takes →
    exec (.calExit tag) s =
      match s.store.calState with
      | .out => s.says 0x31#8 tag (refusal .notCal)
      | .entered => s.becomes ((left .request (s.toLane.begun 0x31#8 tag)).respond (ok []))
      | .writing =>
        .next { s with store := { s.store with calState := .leaving, leaveCause := some .request }
                       link := s.link.answered 0x31#8 tag [] [.status .accepted] }
      | .leaving => s.says 0x31#8 tag [.status .busy]) ∧
  (∀ s : State,
    let p : Lane := { s.toLane with store := { s.store with switch := .opened } }
    exec .calSwitchOpening s =
      match s.store.calState with
      | .entered => s.becomes (left .switch p)
      | .writing => s.becomes { p with store := { p.store with calState := .leaving, leaveCause := some .switch } }
      | .out | .leaving => s.becomes p) ∧
  (∀ s : State, exec .calSwitchClosing s = .next { s with store := { s.store with switch := .closed } })) ∧
  (∀ (tag b : Byte) (mass : Int) (n w : Nat) (s : State), s.takes →
    let k := s.scale.conditions
    let count : Int := match s.scale.chain with | some c => c.count | none => 0
    let old := s.store.working.getD s.toLane.inForceOutsideCal
    let checks (code : Byte) (pass : Host.Outcome State Fault Refusal) : Host.Outcome State Fault Refusal :=
      match s.store.calState with
      | .out => s.says code tag (refusal .notCal)
      | .writing | .leaving => s.says code tag [.status .busy]
      | .entered => pass
    let fields (v : CalValues) : List Field :=
      [.status .ok, .i32 v.z0, .i32 v.gain, .u8 v.filterLength, .u8 v.windowLength, .flag v.tracking]
    (exec (.calZero tag) s =
      checks 0x32#8
        (let v : CalValues := { old with z0 := count }
         if k.hold = true ∨ k.stable = false ∨ s.scale.chain = none then s.says 0x32#8 tag (refusal .motion)
         else
           .next { s with store := { s.store with working := some v }
                          scale := { s.scale with z := count, zpu := count }
                          link := s.link.answered 0x32#8 tag [] (fields v) })) ∧
    (exec (.calSpan tag mass) s =
      checks 0x33#8
        (let d := (count - old.z0).toNat
         let g := (2 * (mass.toNat * 65536) + d) / (2 * d)
         let v : CalValues := { old with gain := g }
         if mass < 1000 ∨ 150000 < mass then s.says 0x33#8 tag [.status .badValue]
         else if k.hold = true ∨ k.stable = false ∨ s.scale.chain = none then s.says 0x33#8 tag (refusal .motion)
         else if count - old.z0 ≤ 0 then s.says 0x33#8 tag (refusal .noLoad)
         else if g < 1 ∨ 4194303 < g then s.says 0x33#8 tag (refusal .spanRange)
         else
           .next { s with store := { s.store with working := some v }
                          link := s.link.answered 0x33#8 tag [] (fields v ++ [.i32 (grossOf count s.scale.z g)]) })) ∧
    (exec (.calSet tag n w b) s =
      checks 0x34#8
        (let v : CalValues := { old with filterLength := n, windowLength := w, tracking := b = 1#8 }
         if (n = 4 ∨ n = 8 ∨ n = 16) ∧ 4 ≤ w ∧ w ≤ 32 ∧ (b = 0#8 ∨ b = 1#8) then
           .next { s with store := { s.store with working := some v }
                          link := s.link.answered 0x34#8 tag [] (fields v) }
         else s.says 0x34#8 tag [.status .badValue])))

/-- CAL_COMMIT: refused outside CAL, BUSY while one is written, COUNTER_FULL at 9,999; otherwise the write of the counter
record with the next number begins and the reply is ACCEPTED. When that write ends OK the record, the mirror and its mark
take the number and the calibration record's write begins; FAIL leaves the mirror 9,999 and invalid and ends the commit.
When the second write ends the commit ends. At its end CAL_DONE is handed over with the outcome, the part that failed,
the mirror and the commit time, and CAL is ENTERED again, or left when leaving was asked for. With no such write in
flight the two commands have no effect (log entry 4). (The numbers of CAL_DONE's parts and of LEFT are log entry 16.) -/
def Obligations.CommitWritesTheCounterThenTheRecord : Prop :=
  let left (cause : CalCause) (p : Lane) : Lane :=
    let q : Lane := { p with
      store := { p.store with working := none, calState := .out, leaveCause := none }
      link := p.link.saying 0x83#8 [.name 1, .name cause.code] }
    if p.scale.unit = .adcFault then q else q.restart
  let done (outcome : List Field) (p : Lane) : Lane :=
    let q : Lane := { p with
      store := { p.store with write := none, commitTime := none }
      link := p.link.saying 0x84#8 (outcome ++ [.u16 p.store.mirror] ++ stampField p.store.commitTime) }
    match p.store.calState with
    | .writing => { q with store := { q.store with calState := .entered } }
    | .leaving => left (p.store.leaveCause.getD .request) q
    | .out | .entered => q
  (∀ (tag : Byte) (s : State), s.takes →
    exec (.calCommit tag) s =
      match s.store.calState with
      | .out => s.says 0x35#8 tag (refusal .notCal)
      | .writing | .leaving => s.says 0x35#8 tag [.status .busy]
      | .entered =>
        if 9999 ≤ s.store.mirror then s.says 0x35#8 tag (refusal .counterFull)
        else
          .next { s with
            store := { s.store with
              calState := .writing, commitTime := s.link.clock, write := some (.calCounter (s.store.mirror + 1)) }
            link := s.link.answered 0x35#8 tag [] [.status .accepted, .u16 (s.store.mirror + 1)] }) ∧
  (∀ (n : Nat) (u : Unreadable) (s : State),
    let record {α : Type} : Stored α := match u with | .erased => .erased | .corrupt => .corrupt
    s.store.write = some (.calCounter n) →
    exec (.calCounterWriteEnd .ok) s =
      .next { s with store := { s.store with
        counterRecord := .valid n, mirror := n, counterValid := true
        write := some (.calRecord ⟨s.store.working.getD s.toLane.inForceOutsideCal, s.store.commitTime⟩) } } ∧
    exec (.calCounterWriteEnd (.fail u)) s =
      s.becomes (done [.name 1, .name 0]
        { s.toLane with store := { s.store with counterRecord := record, mirror := 9999, counterValid := false } })) ∧
  (∀ (r : CalRecord) (u : Unreadable) (s : State),
    let record {α : Type} : Stored α := match u with | .erased => .erased | .corrupt => .corrupt
    s.store.write = some (.calRecord r) →
    exec (.calRecordWriteEnd .ok) s =
      s.becomes (done [.name 0] { s.toLane with store := { s.store with calRecord := .valid r } }) ∧
    exec (.calRecordWriteEnd (.fail u)) s =
      s.becomes (done [.name 1, .name 1] { s.toLane with store := { s.store with calRecord := record } })) ∧
  (∀ (w : WriteEnd) (s : State),
    ((∀ n, s.store.write ≠ some (.calCounter n)) → exec (.calCounterWriteEnd w) s = .next s) ∧
    ((∀ r, s.store.write ≠ some (.calRecord r)) → exec (.calRecordWriteEnd w) s = .next s))

/-! ## The swipe decoder and the classifier (R78 to R102) -/

/-- READER_ENABLE sets a head's enable; OFF for the head that owns the channel discards its swipe. FLUX_TRANSITION is
ignored on a disabled head and on a head that does not own the channel; on an IDLE channel it claims it with both
tracks emptied; the track takes it, and the end timer restarts at 25 ms. (The time stamp is the model's operand, log
entry 31; 01h for ON is log entry 39.) A track's decoding of a transition at time t. In SYNC intervals within 40 % of
the group's mean join it, and 8 of them give the reference, eight 0 bits and the first cell; in CELLS a first
transition at 25 % to 75 % of the reference is the mid-cell one, any other closes the cell, which ends the track when
its length is off by more than 40 % and otherwise gives its bit, up to 1,024, and the new reference from the four
newest lengths. -/
def Obligations.TransitionsAreTakenOnTheOwningHead : Prop :=
  (([0#8, 1#8].map headOf = [some .front, some .stand] ∧ ∀ b : Byte, 1#8 < b → headOf b = none) ∧
  (∀ (tag h b : Byte) (s : State), s.takes →
    exec (.readerEnable tag h b) s =
      match headOf h, decide (b ≠ 0#8 ∧ b ≠ 1#8) with
      | some h, false =>
        let on : Bool := b = 1#8
        let set : Swipe :=
          match h with | .front => { s.swipe with front := on } | .stand => { s.swipe with stand := on }
        let w : Swipe :=
          if on = false ∧ s.swipe.channel = some h then
            { set with channel := none, endExpiry := none, trackA := ⟨false, .sync none []⟩, trackB := ⟨false, .sync none []⟩ }
          else set
        .next { s with swipe := w
                       link := s.link.answered 0x38#8 tag []
                         [.status .ok, .flag w.front, .flag w.stand, .name (channelCode w.channel)] }
      | _, _ => s.says 0x38#8 tag [.status .badValue]) ∧
  (∀ (h : Head) (k : Track) (t : Nat) (s : State),
    let now := max s.now t
    let on : Bool := match h with | .front => s.swipe.front | .stand => s.swipe.stand
    let taken (w : Swipe) : Swipe :=
      match k with
      | .a => { w with endExpiry := some (now + 25000), trackA := ⟨true, w.trackA.phase.take t⟩ }
      | .b => { w with endExpiry := some (now + 25000), trackB := ⟨true, w.trackB.phase.take t⟩ }
    exec (.fluxTransition h k t) s =
      .next { s with
        now := now
        swipe :=
          if on = false then s.swipe
          else
            match s.swipe.channel with
            | none =>
              taken { s.swipe with
                channel := some h, trackA := ⟨false, .sync none []⟩, trackB := ⟨false, .sync none []⟩ }
            | some owner => if owner = h then taken s.swipe else s.swipe })) ∧
  (∀ (t : Nat) (phase : TrackPhase),
    let mean (xs : List Nat) : Nat := (2 * xs.sum + xs.length) / (2 * xs.length)
    phase.take t =
      match phase with
      | .sync none group => .sync (some t) group
      | .sync (some last) group =>
        let d := t - last
        let joined : List Nat :=
          if group = [] ∨ 10 * ((d * group.length : Int) - group.sum).natAbs ≤ 4 * group.sum then group ++ [d] else [d]
        if joined.length = 8 then .cells (mean joined) t false (joined.drop 4) (List.replicate 8 false)
        else .sync (some t) joined
      | .cells reference start mid lengths bits =>
        let d := t - start
        let newest := (lengths ++ [d]).drop ((lengths ++ [d]).length - 4)
        if mid = false ∧ reference ≤ 4 * d ∧ 4 * d ≤ 3 * reference then .cells reference start true lengths bits
        else if 4 * reference < 10 * ((d : Int) - reference).natAbs then .failed
        else
          .cells ((2 * newest.sum + 4) / 8) t false newest (if bits.length < 1024 then bits ++ [mid] else bits)
      | .failed => .failed)

/-- A track recorded with any characters but the end sentinel, up to the capacity, reads OK with its image, with the
reversed mark cleared; read backwards, when the bits met first do not form a start sentinel, it reads OK with the same
image and the reversed mark set. (With no character between the sentinels, where R88 gives an image 3 characters at
least, that it reads OK is the model's choice, log entry 37.) -/
def Obligations.RecordedTrackReadsBack : Prop :=
  ∀ (k : Track) (values : List Nat) (leading trailing : Nat),
    (∀ v ∈ values, v < 2 ^ (characterBits k - 1) ∧ v ≠ endSentinel k) → values.length + 2 ≤ trackCapacity k →
    let image : Text := (startSentinel k :: values ++ [endSentinel k]).map (characterOf k)
    let bits := recordedTrack k values leading trailing
    readBits k bits = ⟨.ok, image, false⟩ ∧
    (findStart k bits.reverse = none → readBits k bits.reverse = ⟨.ok, image, true⟩)

/-- SWIPE_END: with the end timer running both tracks are finished and the channel is released; a usable track B gives
the swipe result, with track A's name when its account number is the same; otherwise a usable track A gives it; with
neither CARD_ERROR is handed over. Each track's result goes along, FORMAT for an OK track that is not usable. A track
without a transition is ABSENT, one ended in CELLS CELL_ERROR, one still in SYNC NO_START, any other as its bits read.
With no swipe the command has no effect (log entry 4). Track B is usable with an account field of digits before the
first '=' or the end sentinel; track A with the format code 'B' and an account field of digits before the first '^';
the expiry is the first four digits, with a month of 01 to 12, of what follows the separator, the service code the
three after them, and the name of track A the text up to the second '^', at most 26 characters, trailing spaces
removed. (FORMAT's number 7 and the layout of CARD_ERROR are log entry 15, the elapsed time log entry 3.) The Luhn sum
is of the digits from the right, each in an even position doubled, less 9 when above 9. A masked number shows its
first 6 and last 4 digits, '*' between. A swipe result: dropped with CARD_INVALID for a length outside 12 to 19 or a
Luhn sum that is no multiple of 10; with CARD_UNKNOWN when no entry matches; with CARD_BLOCKED; applied to the CURRENT
sale or dropped with LOYALTY_DUPLICATE for LOYALTY; otherwise queued. An entry matches when it is valid, the account's
length is within its lengths, and every digit of its prefix is the account's or stands at a wildcard position of its
mask, the shared one for 0 to 21. The deciding entry is 22, else 23, else the longest matching prefix of 0 to 21, the
lowest index on equal lengths. A queued result is dropped with CARD_OVERRUN when 2 entries are held; otherwise it
takes the next handle, one in use passed over once (log entry 33), and joins the queue HELD with CARD_HELD, and
promotion is tried. -/
def Obligations.SwipeEndClassifiesTheResult : Prop :=
  ((∀ (h : Head) (t : Nat) (s : State), s.swipe.channel = some h → s.swipe.endExpiry = some t →
    let a := s.swipe.trackA.finish .a
    let b := s.swipe.trackB.finish .b
    let imageOf (r : TrackReading) : Option Text := if r.result = .ok then some r.image else none
    let p : Lane := { s.toLane with now := max s.now t }
    let released : Swipe := { s.swipe with
      channel := none, endExpiry := none, trackA := ⟨false, .sync none []⟩, trackB := ⟨false, .sync none []⟩ }
    let marked (r : TrackReading) (d : Option AccountData) : TrackResult :=
      if r.result = .ok ∧ d = none then .format else r.result
    let result (r : TrackReading) (k : Track) (d : AccountData) (holder : Option Text) : SwipeResult :=
      ⟨h, s.link.clock, marked a (accountA a), marked b (accountB b), k, d.account, d.expiry, d.service, holder, r.reversed,
        imageOf a, imageOf b⟩
    let shown (r : TrackReading) : Field := Field.name (if r.result = .ok then 7 else r.result.code)
    let reversed (r : TrackReading) : List Field := if r.result = .ok then [.flag r.reversed] else []
    exec .swipeEnd s =
      s.becomes { (match accountB b, accountA a with
        | some d, some e => p.takeResult (result b .b d (if e.account = d.account then e.holder else none))
        | some d, none => p.takeResult (result b .b d none)
        | none, some e => p.takeResult (result a .a e e.holder)
        | none, none =>
          { p with link := p.link.saying 0x85#8 ([Field.name (headCode h)] ++ stampField s.link.clock ++
              [shown a, shown b] ++ reversed a ++ reversed b) }) with swipe := released }) ∧
  (∀ s : State, s.swipe.channel = none ∨ s.swipe.endExpiry = none → exec .swipeEnd s = .next s) ∧
  (∀ (k : Track) (phase : TrackPhase),
    TrackAssembly.finish k ⟨false, phase⟩ = ⟨.absent, [], false⟩ ∧
    TrackAssembly.finish k ⟨true, .failed⟩ = ⟨.cellError, [], false⟩ ∧
    (∀ last group, TrackAssembly.finish k ⟨true, .sync last group⟩ = ⟨.noStart, [], false⟩) ∧
    (∀ r t m lengths bits, TrackAssembly.finish k ⟨true, .cells r t m lengths bits⟩ = readBits k bits)) ∧
  (∀ (r : TrackReading), r.result ≠ .ok → accountA r = none ∧ accountB r = none) ∧
  (let digit (c : Byte) : Prop := 0x30 ≤ c.toNat ∧ c.toNat ≤ 0x39
   let value (c : Byte) : Nat := c.toNat - 0x30
   let expiry (t : Text) : Option Text :=
     match t with
     | y :: z :: m :: n :: _ =>
       if (digit y ∧ digit z ∧ digit m ∧ digit n) ∧ 1 ≤ 10 * value m + value n ∧ 10 * value m + value n ≤ 12 then
         some [y, z, m, n]
       else none
     | _ => none
   let service (t : Text) : Option Text :=
     match t with
     | _ :: _ :: _ :: _ :: x :: y :: z :: _ => if digit x ∧ digit y ∧ digit z then some [x, y, z] else none
     | _ => none
   let name (t : Text) : Option Text :=
     let kept := (t.take 26).rdropWhile fun c => c = 0x20#8
     if kept = [] then none else some kept
   ∀ (x y : Byte) (account holder rest : Text) (reversed : Bool),
     let image (t : Text) : TrackReading := ⟨.ok, x :: (t ++ [y]), reversed⟩
     let usable : Prop := account ≠ [] ∧ ∀ c ∈ account, digit c
     (0x3D#8 ∉ account →
       accountB (image account) = (if usable then some ⟨account, none, none, none⟩ else none) ∧
       accountB (image (account ++ 0x3D#8 :: rest)) =
         (if usable then some ⟨account, expiry rest, service rest, none⟩ else none)) ∧
     (0x5E#8 ∉ account →
       accountA (image (0x42#8 :: account)) = none ∧
       (0x5E#8 ∉ holder →
         accountA (image (0x42#8 :: (account ++ 0x5E#8 :: holder))) =
           (if usable then some ⟨account, none, none, none⟩ else none) ∧
         accountA (image (0x42#8 :: (account ++ 0x5E#8 :: (holder ++ 0x5E#8 :: rest)))) =
           (if usable then some ⟨account, expiry rest, service rest, name holder⟩ else none))) ∧
     (∀ code, code ≠ 0x42#8 → accountA (image (code :: rest)) = none) ∧ accountA (image []) = none)) ∧
  (∀ account : Text,
    let value (d : Byte) (place : Nat) : Nat :=
      let v := d.toNat - 0x30
      if place % 2 = 1 then v else if 9 < 2 * v then 2 * v - 9 else 2 * v
    luhnSum account = ((account.reverse.zipIdx 1).map fun x => value x.1 x.2).sum ∧
    (10 ≤ account.length →
      (maskedAccount account).length = account.length ∧
      ∀ k, k < account.length →
        (maskedAccount account)[k]? = if k < 6 ∨ account.length ≤ k + 4 then account[k]? else some 0x2A#8)) ∧
  ((∀ (r : SwipeResult) (p : Lane),
    let n := r.account.length
    let masked := maskedAccount r.account
    let dropped : List Field := [Field.name (headCode r.head)] ++ stampField r.time ++ [.text masked, .u8 n]
    let tell (code : Byte) (fields : List Field) : Lane := { p with link := p.link.saying code fields }
    p.takeResult r =
      if n < 12 ∨ 19 < n then tell 0x86#8 ([.name (headCode r.head)] ++ stampField r.time ++ [.name 0, .u8 n])
      else if luhnSum r.account % 10 ≠ 0 then tell 0x86#8 ([.name (headCode r.head)] ++ stampField r.time ++ [.name 1, .u8 n])
      else
        match p.cards.deciding r.account with
        | none => tell 0x88#8 dropped
        | some i =>
          match p.cards.table[i].cls with
          | none => tell 0x88#8 dropped
          | some .blocked => tell 0x87#8 (dropped ++ [.u8 i])
          | some .loyalty =>
            (match p.current with
             | none => p.queueCard r i .loyalty
             | some j =>
               let c := p.ctx j
               match c.loyalty with
               | none =>
                 { p with
                   sale := { p.sale with contexts := p.sale.contexts.set j { c with loyalty := some r.account } }
                   link := p.link.saying 0x89#8 [.u16 (c.txn.getD 0), .text masked, .name (headCode r.head)] }
               | some _ => tell 0x8A#8 [.u16 (c.txn.getD 0), .text masked])
          | some k => p.queueCard r i k) ∧
  (∀ (r : SwipeResult) (i : Fin 24) (k : CardClass) (p : Lane),
    let q := p.cards.queue
    let masked := maskedAccount r.account
    let next (x : Nat) : Nat := if 255 ≤ x then 1 else x + 1
    let first := next p.cards.handleCounter
    let handle := if (∃ e ∈ q, e.handle = first) then next first else first
    let e : CardEntry :=
      ⟨handle, r.head, r.time, k, i, masked, r.account.length, r.source, r.expiry, r.service, r.holder, r.reversed,
        some ⟨r.account, r.imageA, r.imageB⟩, .held, some (p.now + p.cards.holdTens * 10000000)⟩
    p.queueCard r i k =
      if 2 ≤ q.length then
        { p with link := (p.link.saying 0x8C#8 ([.name (headCode r.head)] ++ stampField r.time ++
            [.name k.code, .text masked])).latch .cardOverrun }
      else
        Lane.promote { p with
          cards := { p.cards with queue := q ++ [e], handleCounter := handle }
          link := p.link.saying 0x8B#8 [.u8 handle, .name (headCode r.head), .name k.code, .u8 i, .text masked] }) ∧
  (∀ (account : Text) (c : Cards),
    let hit (i : Fin 24) : Prop :=
      let e := c.table[i]
      let mask := if i.val < 22 then c.sharedMask else e.ownMask
      e.valid = true ∧ ∃ lo hi digits, e.lengthMin = some lo ∧ e.lengthMax = some hi ∧ e.digits = some digits ∧
        lo ≤ account.length ∧ account.length ≤ hi ∧
        ∀ p d, 1 ≤ p → digits[p - 1]? = some d → mask.getLsbD (p - 1) = true ∨ account[p - 1]? = some d
    let size (i : Fin 24) : Nat := match c.table[i].digits with | some digits => digits.length | none => 0
    (∀ i, c.deciding account = some i →
      hit i ∧ (i ≠ 22 → ¬hit 22) ∧ (i ≠ 22 → i ≠ 23 → ¬hit 23) ∧
      (∀ j : Fin 24, j.val < 22 → i.val < 22 → hit j → size j < size i ∨ (size j = size i ∧ i ≤ j))) ∧
    (c.deciding account = none ↔ ∀ i, ¬hit i)))

/-! ## The till controller (R129 to R147) -/

/-- DRAWER_OPEN and NO_SALE: their checks in order; then the drawer takes a kick of its basis with the pulse length in
force: KICKING with the driver driving it when the driver was IDLE, otherwise PENDING in the waiting place; the reply is
ACCEPTED, for DRAWER_OPEN with the state entered. Auto-open asks as DRAWER_OPEN does. -/
def Obligations.KicksStartOrWait : Prop :=
  (∀ (basis : KickBasis) (who : Requester) (d : Drawer) (p : Lane),
    let q := p.setDrawer d { p.drawer d with kick := some ⟨basis, who, p.till.pulseMs, false⟩ }
    p.acceptKick basis who d =
      match p.till.driver with
      | none =>
        ({ q with till := { q.till with driver := some ⟨d, p.now⟩, waiting := none } }).setDrawer d
          { q.drawer d with state := .kicking }
      | some g =>
        ({ q with till := { q.till with driver := some g, waiting := some d } }).setDrawer d
          { q.drawer d with state := .pending }) ∧
  ([0#8, 1#8].map drawerOf = [some .a, some .b] ∧ ∀ b : Byte, 1#8 < b → drawerOf b = none) ∧
  (∀ (tag b : Byte) (s : State), s.takes →
    let stop (code : Byte) (d : Drawer) (go : Host.Outcome State Fault Refusal) : Host.Outcome State Fault Refusal :=
      match (s.toLane.drawer d).state with
      | .absent => s.says code tag (refusal .absent)
      | .fault => s.says code tag (refusal .fault)
      | .pending | .kicking | .confirming | .opened | .openLong => s.says code tag [.status .busy]
      | .closed => go
    exec (.drawerOpen tag b) s =
      (match drawerOf b with
       | none => s.says 0x50#8 tag [.status .badValue]
       | some d =>
         if s.till.key = .locked then s.says 0x50#8 tag (refusal .keyPosition)
         else
           stop 0x50#8 d
             (if (s.toLane.drawer d).grant = false then s.says 0x50#8 tag (refusal .noGrant)
              else
                s.becomes (((s.toLane.begun 0x50#8 tag).acceptKick .grant .terminal d).respond
                  (accepted [.name (if s.till.driver = none then 3 else 2)])))) ∧
    exec (.noSale tag b) s =
      (match drawerOf b with
       | none => s.says 0x51#8 tag [.status .badValue]
       | some d =>
         if s.till.key ≠ .manager then s.says 0x51#8 tag (refusal .keyPosition)
         else if s.toLane.current ≠ none then s.says 0x51#8 tag (refusal .saleOpen)
         else
           stop 0x51#8 d
             (s.becomes (((s.toLane.begun 0x51#8 tag).acceptKick .noSale .terminal d).respond (accepted []))))) ∧
  (∀ (d : Drawer) (p : Lane),
    p.autoKick d =
      if p.till.key = .locked then (p, .refused .keyPosition)
      else
        match (p.drawer d).state with
        | .absent => (p, .refused .absent)
        | .fault => (p, .refused .fault)
        | .pending | .kicking | .confirming | .opened | .openLong => (p, .refused .busy)
        | .closed =>
          if (p.drawer d).grant = true then (p.acceptKick .grant .settlement d, .kickStarted) else (p, .refused .noGrant))

/-- KICK_PULSE_END, SOLENOID_CURRENT_FAULT, CONFIRM_WINDOW_EXPIRY and ALARM_TIMER_EXPIRY. A pulse's end starts the
jolt hold at 400 ms, empties the motion window and starts a waiting drawer's pulse. At full length the drive report is
NORMAL; with the open mark set the kick ends OPENED, a GRANT kick's grant becoming 0, and DRAWER_CLOSED follows when
the sensor has closed again; otherwise the drawer is CONFIRMING for 500 ms. A current fault makes the drawer FAULT.
The window's expiry ends the kick JAMMED; the alarm's makes the drawer OPEN_LONG with ALARM and DRAWER_ALARM. (The
elapsed time, the time driven and the drive report as one optional group of DRAWER_DONE are the model's, log entries
3, 21 and 15; with no such period running the commands have no effect, log entry 4.) -/
def Obligations.PulsesWindowsAndAlarmsEnd : Prop :=
  (∀ p : Lane,
    let q : Lane := { p with scale := { p.scale with joltExpiry := some (p.now + 400000), window := [] } }
    p.releaseSolenoid =
      match p.till.waiting with
      | none => { q with till := { q.till with driver := none, waiting := none } }
      | some w =>
        ({ q with till := { q.till with driver := some ⟨w, p.now⟩, waiting := none } }).setDrawer w
          { q.drawer w with state := .kicking, kick := (q.drawer w).kick.map fun (k : Kick) => ⟨k.basis, k.requester, k.pulseMs, false⟩ }) ∧
  (∀ (d : Drawer) (since : Nat) (k : Kick) (s : State), s.till.driver = some ⟨d, since⟩ → (s.toLane.drawer d).kick = some k →
    s.till.waiting ≠ some d →
    let now := max s.now (since + k.pulseMs * 1000)
    let drive : DriveReport := ⟨k.pulseMs, k.pulseMs, .normal⟩
    let p := (({ s.toLane with now := now } : Lane).setDrawer d { s.toLane.drawer d with drive := some drive }).releaseSolenoid
    let grant : Bool := match k.basis with | .grant => false | .noSale => (p.drawer d).grant
    let alarm : Option Nat := if s.till.alarmSeconds = 0 then none else some (now + s.till.alarmSeconds * 1000000)
    let spent := p.setDrawer d { p.drawer d with grant := grant }
    let opened := spent.setDrawer d { spent.drawer d with
      state := .opened, kick := none, confirmUntil := none, openSince := some now, alarmAt := alarm }
    let done := opened.event 0x92#8 (kickReport d k .opened grant (some drive) [])
    exec .kickPulseEnd s =
      s.becomes
        (if k.openMark = false then
           p.setDrawer d { p.drawer d with state := .confirming, confirmUntil := some (now + 500000) }
         else if (p.drawer d).closed = .opened then done
         else
           (done.setDrawer d { opened.drawer d with state := .closed, openSince := none, alarmAt := none }).event 0x95#8
             [.name (drawerCode d), .u32 0])) ∧
  (∀ (f : CurrentFault) (d : Drawer) (since : Nat) (k : Kick) (s : State), s.till.driver = some ⟨d, since⟩ →
    (s.toLane.drawer d).kick = some k → s.till.waiting ≠ some d →
    let now : Nat := match f with | .short => max s.now since | .openCoil => max s.now (since + 5000)
    let drive : DriveReport :=
      ⟨k.pulseMs, min k.pulseMs ((now - since) / 1000), match f with | .short => .short | .openCoil => .none⟩
    let reason : DrawerFault := match f with | .short => .solenoidShort | .openCoil => .solenoidOpen
    let p := (({ s.toLane with now := now } : Lane).setDrawer d { s.toLane.drawer d with drive := some drive }).releaseSolenoid
    exec (.solenoidCurrentFault f) s =
      s.becomes ((p.setDrawer d { p.drawer d with
          state := .fault, kick := none, confirmUntil := none, openSince := none, alarmAt := none
          faultReason := some reason }).event 0x92#8
        (kickReport d k .fault (p.drawer d).grant (some drive) [.name reason.code]))) ∧
  (∀ (d : Drawer) (t : Nat) (k : Kick) (s : State), (s.toLane.drawer d).confirmUntil = some t →
    (s.toLane.drawer d).kick = some k →
    let r := s.toLane.drawer d
    let p : Lane := { s.toLane with now := max s.now t }
    exec (.confirmWindowExpiry d) s =
      s.becomes ((p.setDrawer d { r with
          state := .closed, kick := none, confirmUntil := none, openSince := none, alarmAt := none }).event 0x92#8
        (kickReport d k .jammed r.grant r.drive []))) ∧
  (∀ (d : Drawer) (t : Nat) (s : State), (s.toLane.drawer d).alarmAt = some t →
    let p : Lane := { s.toLane with now := max s.now t }
    exec (.alarmTimerExpiry d) s =
      s.becomes (((p.setDrawer d { s.toLane.drawer d with state := .openLong, alarmAt := none }).latch (.alarm d)).event
        0x96#8 [.name (drawerCode d), .u8 s.till.alarmSeconds])) ∧
  (∀ (f : CurrentFault) (d : Drawer) (s : State),
    (s.till.driver = none → exec .kickPulseEnd s = .next s ∧ exec (.solenoidCurrentFault f) s = .next s) ∧
    ((s.toLane.drawer d).confirmUntil = none → exec (.confirmWindowExpiry d) s = .next s) ∧
    ((s.toLane.drawer d).alarmAt = none → exec (.alarmTimerExpiry d) s = .next s))

/-- TRAY_REMOVED, TRAY_INSERTED, CLOSED_SENSOR_OPENS and CLOSED_SENSOR_CLOSES: a level already taken changes nothing
(log entry 4), the time driven of a pulse cut by the tray's removal is log entry 21, and the drive report as one
optional group of DRAWER_DONE log entry 15. A removal makes the drawer ABSENT with PRESENCE and DRAWER_PRESENCE, a kick in flight ending REMOVED and a running pulse cut; an insertion makes
an ABSENT drawer CLOSED or OPEN. The sensor's opening makes a CLOSED drawer OPEN with FORCED, withdraws a PENDING
kick, sets the open mark of a KICKING one and ends a CONFIRMING one OPENED; its closing makes an open drawer CLOSED
with the seconds spent open. In any other state only the sensor is updated. -/
def Obligations.DrawerSensorsMoveTheDrawer : Prop :=
  ∀ (d : Drawer) (s : State),
    let r := s.toLane.drawer d
    let open_ (r : DrawerRecord) : DrawerRecord := { r with
      state := .opened, kick := none, confirmUntil := none, openSince := some s.now
      alarmAt := if s.till.alarmSeconds = 0 then none else some (s.now + s.till.alarmSeconds * 1000000) }
    let shut (x : DrawerState) (r : DrawerRecord) : DrawerRecord :=
      { r with state := x, kick := none, confirmUntil := none, openSince := none, alarmAt := none }
    let report (o : KickOutcome) (drive : Option DriveReport) (p : Lane) : Lane :=
      match r.kick with
      | some k =>
        p.event 0x92#8 (kickReport d k o (if o = .opened ∧ k.basis = .grant then false else r.grant) drive [])
      | none => p
    let presence (n : Nat) (p : Lane) : Lane := (p.latch (.presence d)).event 0x94#8 [.name (drawerCode d), .name n]
    let forced (p : Lane) : Lane := (p.latch (.forced d)).event 0x93#8 [.name (drawerCode d)]
    let noWait (p : Lane) : Lane := { p with till := { p.till with waiting := none } }
    (exec (.trayRemoved d) s =
      if r.tray = .removed then .next s
      else
        let p := s.toLane.setDrawer d { r with tray := .removed }
        let gone (p : Lane) : Lane := presence 1 (p.setDrawer d (shut .absent (p.drawer d)))
        match r.state with
        | .closed | .opened | .openLong | .fault => s.becomes (report .removed none (gone p))
        | .pending => s.becomes (report .removed none (gone (noWait p)))
        | .confirming => s.becomes (report .removed r.drive (gone p))
        | .absent => s.becomes p
        | .kicking =>
          match s.till.driver with
          | none => s.becomes (report .removed r.drive (gone p))
          | some ⟨g, since⟩ =>
            let n := (p.drawer g).pulse
            let q := (p.setDrawer g { p.drawer g with
              drive := some ⟨n, min n ((s.now - since) / 1000), .cut⟩ }).releaseSolenoid
            s.becomes (report .removed (q.drawer d).drive (gone q))) ∧
    (exec (.trayInserted d) s =
      if r.tray = .present then .next s
      else
        let p := s.toLane.setDrawer d { r with tray := .present }
        if r.state ≠ .absent then s.becomes p
        else
          match r.closed with
          | .shut => s.becomes (presence 0 (p.setDrawer d (shut .closed (p.drawer d))))
          | .opened => s.becomes (presence 0 (p.setDrawer d (open_ (p.drawer d))))) ∧
    (exec (.closedSensorOpens d) s =
      if r.closed = .opened then .next s
      else
        let p := s.toLane.setDrawer d { r with closed := .opened }
        match r.state with
        | .closed => s.becomes (forced (p.setDrawer d (open_ (p.drawer d))))
        | .pending => s.becomes (report .withdrawn none (forced ((noWait p).setDrawer d (open_ (p.drawer d)))))
        | .kicking =>
          s.becomes (p.setDrawer d { p.drawer d with kick := r.kick.map fun (k : Kick) => ⟨k.basis, k.requester, k.pulseMs, true⟩ })
        | .confirming =>
          let q := p.setDrawer d { p.drawer d with
            grant := match r.kick with | some k => (if k.basis = .grant then false else r.grant) | none => r.grant }
          s.becomes (report .opened r.drive (q.setDrawer d (open_ (q.drawer d))))
        | .opened | .openLong | .absent | .fault => s.becomes p) ∧
    (exec (.closedSensorCloses d) s =
      if r.closed = .shut then .next s
      else
        let p := s.toLane.setDrawer d { r with closed := .shut }
        match r.state with
        | .opened | .openLong =>
          s.becomes ((p.setDrawer d (shut .closed (p.drawer d))).event 0x95#8
            [.name (drawerCode d), .u32 (match r.openSince with | some t => (s.now - t) / 1000000 | none => 0)])
        | .closed | .pending | .kicking | .confirming | .absent | .fault => s.becomes p)

/-- KEY_POSITION_CHANGE takes the position with KEY_SWITCH. ASSIST_BUTTON_PRESS sets the latch and counts to 255 with
ASSIST; ASSIST_CLEAR clears both; LIGHT sets the commanded mode. After each, and after a change of a drawer record,
the shown mode is FAST with the latch set, else BLINK with a drawer OPEN_LONG, else the commanded mode, and a change
of it begins now. The lamp is dark in OFF, lit in ON, lit and dark for 500 ms each in BLINK and for 125 ms each in
FAST, from the start of a lit period. DRAWER_CLEAR_FAULT: WRONG_STATE outside FAULT; otherwise the state comes from
the closed sensor. DRAWER_SETUP: refused away from MANAGER, then BAD_VALUE for a pulse length, an alarm time or
an interlock that is none of R142's values; otherwise the settings are taken, and an OPEN drawer's alarm timer stops, moves, or
makes it OPEN_LONG at once when the new instant has come (log entry 20), drawer A's before drawer B's (log entry 23).
DRAWER_SELECT: refused with a sale open; otherwise the active drawer changes. (01h for ON is log entry 39, the place
of the interlock's check log entry 19.) -/
def Obligations.KeyButtonLightAndSetupAreTaken : Prop :=
  ((∀ (d : Drawer) (r : DrawerRecord) (p : Lane),
    p.setDrawer d r =
      { p with till := (match d with
          | .a => ({ p.till with drawerA := r } : Till).judgeLight p.now
          | .b => ({ p.till with drawerB := r } : Till).judgeLight p.now) }) ∧
  (∀ t : Till, ∀ now : Nat,
    let shown : LightMode :=
      if t.assist = true then .fast
      else if t.drawerA.state = .openLong ∨ t.drawerB.state = .openLong then .blink
      else t.commanded
    t.judgeLight now = { t with shown := shown, shownSince := if shown = t.shown then t.shownSince else now }) ∧
  (∀ (t : Till) (periods into : Nat),
    (t.shown = .off → t.lampLit (t.shownSince + into) = false) ∧ (t.shown = .on → t.lampLit (t.shownSince + into) = true) ∧
    (t.shown = .blink → into < 1000000 →
      t.lampLit (t.shownSince + periods * 1000000 + into) = decide (into < 500000)) ∧
    (t.shown = .fast → into < 250000 →
      t.lampLit (t.shownSince + periods * 250000 + into) = decide (into < 125000))) ∧
  (∀ (k : KeyPosition) (s : State),
    exec (.keyPositionChange k) s =
      if s.till.key = k then .next s
      else
        .next { s with till := { s.till with key := k }
                       link := s.link.saying 0x97#8 [.name (keyCode s.till.key), .name (keyCode k)] }) ∧
  (∀ s : State,
    let n := if s.till.assist = true then min 255 (s.till.presses + 1) else 1
    exec .assistButtonPress s =
      .next { s with till := ({ s.till with assist := true, presses := n } : Till).judgeLight s.now
                     link := s.link.saying 0x98#8 [.u8 n] }) ∧
  ([0#8, 1#8, 2#8, 3#8].map lightOf = [some .off, some .on, some .blink, some .fast] ∧
    ∀ b : Byte, 3#8 < b → lightOf b = none) ∧
  (∀ (tag b : Byte) (s : State), s.takes →
    exec (.assistClear tag) s =
      (let t : Till := ({ s.till with assist := false, presses := 0 } : Till).judgeLight s.now
       .next { s with till := t
                      link := s.link.answered 0x55#8 tag [] [.status .ok, .name t.commanded.code, .name t.shown.code] }) ∧
    exec (.light tag b) s =
      match lightOf b with
      | none => s.says 0x56#8 tag [.status .badValue]
      | some m =>
        let t : Till := ({ s.till with commanded := m } : Till).judgeLight s.now
        .next { s with till := t
                       link := s.link.answered 0x56#8 tag [] [.status .ok, .name m.code, .name t.shown.code] })) ∧
  (∀ (tag b : Byte) (ms seconds : Nat) (s : State), s.takes →
    (exec (.drawerClearFault tag b) s =
      match drawerOf b with
      | none => s.says 0x52#8 tag [.status .badValue]
      | some d =>
        let r := s.toLane.drawer d
        let p := s.toLane.begun 0x52#8 tag
        if r.state ≠ .fault then s.says 0x52#8 tag [.status .wrongState]
        else
          match r.closed with
          | .shut =>
            s.becomes ((p.setDrawer d { r with
              state := .closed, kick := none, confirmUntil := none, openSince := none, alarmAt := none }).respond
                (ok [.name 1]))
          | .opened =>
            s.becomes ((p.setDrawer d { r with
              state := .opened, kick := none, confirmUntil := none, openSince := some s.now
              alarmAt := if s.till.alarmSeconds = 0 then none else some (s.now + s.till.alarmSeconds * 1000000) }).respond
                (ok [.name 5]))) ∧
    (exec (.drawerSetup tag ms seconds b) s =
      let retime (d : Drawer) (p : Lane) : Lane :=
        let r := p.drawer d
        match r.state, r.openSince with
        | .opened, some since =>
          if seconds = 0 then p.setDrawer d { r with alarmAt := none }
          else if s.now < since + seconds * 1000000 then
            p.setDrawer d { r with alarmAt := some (since + seconds * 1000000) }
          else
            ((p.setDrawer d { r with state := .openLong, alarmAt := none }).latch (.alarm d)).event 0x96#8
              [.name (drawerCode d), .u8 seconds]
        | _, _ => p
      if s.till.key ≠ .manager then s.says 0x53#8 tag (refusal .keyPosition)
      else if 40 ≤ ms ∧ ms ≤ 200 ∧ ms % 10 = 0 ∧
          (seconds = 0 ∨ seconds = 15 ∨ seconds = 30 ∨ seconds = 60 ∨ seconds = 120) ∧ (b = 0#8 ∨ b = 1#8) then
        let p : Lane := { s.toLane.begun 0x53#8 tag with
          till := { s.till with pulseMs := ms, alarmSeconds := seconds, interlock := b = 1#8 } }
        s.becomes ((retime .b (retime .a p)).respond (ok [.u16 ms, .u8 seconds, .flag (b = 1#8)]))
      else s.says 0x53#8 tag [.status .badValue]) ∧
    (exec (.drawerSelect tag b) s =
      match drawerOf b with
      | none => s.says 0x54#8 tag [.status .badValue]
      | some d =>
        if s.toLane.current ≠ none then s.says 0x54#8 tag (refusal .saleOpen)
        else
          .next { s with till := { s.till with active := d }
                         link := s.link.answered 0x54#8 tag [] [.status .ok, .name (drawerCode d)] }))

/-! ## The receipt composer and the print engine (R123, R149 to R178) -/

/-- The composer, asked for a job's next line, makes its position for the job when it has none, with the header, the
exponent and a count of 0; it hands over the line that stands at that count, with the count raised by 1 as its number,
or answers END and is without a position. A receipt, a void slip, a copy and a slip of at least one line have a first
line. A receipt, a void slip and a copy print the sections of R153 to R158 in their order, from the context's own
records. A slip prints its lines as given; a text that fits makes a line of 32 characters. A number is written in
decimal without leading zeros, 0 as "0". An amount is the magnitude in decimal, under an exponent x above 0 padded
with zeros on the left to x + 1 digits and with a point before the last x, after '-' when it is negative. A weight in
grams is written as an amount with three decimals. A time is hh:mm, "--:--" where it is absent. -/
def Obligations.ComposerHandsOverTheNextLine : Prop :=
  ((∀ (j : Job) (p : Lane),
    let q : Position := match p.composer.position with
      | some q => q
      | none => ⟨j.kind, j.context, p.composer.header, p.composer.exponent, .header 0, 0⟩
    p.askLine j =
      match (p.jobLines q)[q.lines]? with
      | some line =>
        ({ p with composer := { p.composer with position := some { q with place := line.1, lines := q.lines + 1 } } },
          some (line.2, q.lines + 1))
      | none => ({ p with composer := { p.composer with position := none } }, none)) ∧
  (∀ (j : Job) (p : Lane), p.composer.position = none → (j.kind = .slip → (p.printer.slip.getD []) ≠ []) →
    ∃ text, (p.askLine j).2 = some (text, 1)) ∧
  (∀ (q : Position) (i : Fin 6) (p : Lane), q.context = some i →
    let c := p.ctx i
    let amount (x : Int) : Text := amountText q.exponent x
    let text (l : Text) : Text := textLine l []
    let begun (title : String) : List Text :=
      q.header.map text ++ [textLine (str title ++ decimal (c.txn.getD 0)) (timeText c.closeTime)] ++
        (if c.restarted = true then [text (str "NUMBERING RESTARTED")] else []) ++
        c.items.flatMap fun r =>
          match r.detail with
          | .keyed n u =>
            [textLine r.description (amount r.amount)] ++
              (if 1 < n then [text (str "  " ++ decimal n ++ str " x " ++ amount u)] else [])
          | .weighed net _ e u =>
            [textLine r.description (str "e=" ++ decimal e ++ str "g"),
             textLine (weightText net ++ str " kg @ " ++ amount u ++ str "/kg") (amount r.amount)]
          | .void n => [text (str "VOID OF ITEM " ++ decimal n), textLine r.description (amount r.amount)]
    let tenders : List Text := c.tenders.flatMap fun t =>
      match t.card with
      | none => [textLine (str "CASH") (amount t.amount)]
      | some k =>
        [textLine (classText k.cls ++ str " ****" ++ k.lastDigits) (amount (t.amount + k.cashback)),
         text (str "  AUTH " ++ k.approval)]
    let back : Int := match c.tenders.getLast? with | some ⟨_, _, some k⟩ => k.cashback | _ => 0
    let change : List Text :=
      (if 0 < back then [textLine (str "CASHBACK") (amount back)] else []) ++
        [if c.tenders = [] then textLine (str "REFUND") (amount c.changeDue)
         else textLine (str "CHANGE") (amount (c.changeDue - back))]
    let loyalty : List Text :=
      match c.loyalty with
      | none => []
      | some n => [text (str "LOYALTY " ++ List.replicate (n.length - 4) 0x2A#8 ++ n.drop (n.length - 4))]
    let receipt : List Text :=
      begun "SALE " ++ [textLine (str "SUBTOTAL") (amount c.subtotal)] ++ tenders ++ change ++ loyalty ++
        [text (str "SCALE CAL " ++ zeroPadded 4 (decimal p.store.mirror))]
    let voided : List Text := begun "CANCELLED SALE " ++ [text (str "NO PAYMENT")]
    let printed : List Text := (p.jobLines q).map fun line => line.2
    (q.kind = .receipt → printed = receipt) ∧ (q.kind = .voidSlip → printed = voided) ∧
      (q.kind = .copy → printed = (if c.saleState = some .cancelled then voided else receipt) ++ [text (str "COPY")])) ∧
  (∀ (q : Position) (lines : List Text) (p : Lane), q.kind = .slip → p.printer.slip = some lines →
    (∀ l ∈ lines, l.length ≤ 32) →
    (p.jobLines q).map (fun line => line.2) = lines.map (fun l => l ++ List.replicate (32 - l.length) 0x20#8) ∧
    ∀ line ∈ p.jobLines q, line.2.length = 32) ∧
  (∀ left right : Text, left.length + right.length ≤ 32 →
    textLine left right = left ++ List.replicate (32 - (left.length + right.length)) 0x20#8 ++ right ∧
    (textLine left right).length = 32)) ∧
  ((∀ n : Nat,
    (∀ c ∈ decimal n, 0x30 ≤ c.toNat ∧ c.toNat ≤ 0x39) ∧
    (decimal n).foldl (fun v c => 10 * v + (c.toNat - 0x30)) 0 = n ∧
    (n = 0 → decimal n = [0x30#8]) ∧ (0 < n → decimal n ≠ [] ∧ (decimal n).head? ≠ some 0x30#8)) ∧
  (∀ (width : Nat) (t : Text), zeroPadded width t = List.replicate (width - t.length) 0x30#8 ++ t) ∧
  (∀ (x : Nat) (a : Int),
    let sign : Text := if a < 0 then [0x2D#8] else []
    (x = 0 → amountText x a = sign ++ decimal a.natAbs) ∧
    (0 < x → ∃ whole fraction : Text,
      whole ++ fraction = zeroPadded (x + 1) (decimal a.natAbs) ∧ fraction.length = x ∧
        amountText x a = sign ++ whole ++ 0x2E#8 :: fraction)) ∧
  (∀ g : Nat, weightText g = amountText 3 g) ∧
  timeText none = [0x2D#8, 0x2D#8, 0x3A#8, 0x2D#8, 0x2D#8] ∧
  (∀ t : DateTime, t.hour ≤ 23 → t.minute ≤ 59 →
    let digit (n : Nat) : Byte := BitVec.ofNat 8 (0x30 + n)
    timeText (some t) =
      [digit (t.hour / 10), digit (t.hour % 10), 0x3A#8, digit (t.minute / 10), digit (t.minute % 10)]) ∧
  [CardClass.debit, .credit, .gift, .loyalty, .blocked].map classText =
    [str "DEBIT", str "CREDIT", str "GIFT", str "LOYALTY", str "BLOCKED"])

/-- A row start: the first condition that stands pauses the head job and the engine, with PRINT_PAUSED; otherwise the
row is in flight, its figures fixed: the black dots of the line's row from the left, at most 16 dots a group with a
solenoid energised and 64 otherwise, as many groups as they need and none for none, the first L dots, the next L, and
so on, each group fired in its turn for the strobe time (from the row start on, log entry 38), and the period. The
font is a free pattern (log entry 8). A cut start is paused by the cover, then the supply; otherwise the cutter runs
for 300 ms. (The elapsed time is the model's, log entry 3, and the layout of PRINT_PAUSED log entry 15.) DOT_ROW_END
and CUT_END, with none in flight, change nothing (log entry 4). (The layout of FEED_DONE is log entry 15, the numbers
of its outcomes and of PRINT_DONE's log entry 16; a feed's row sets the strobe limit, log entry 27.) A line's row is
followed by its next, row 29 by the job's next line; a tail row by the next, the 40th by the cut. A feed's row is
counted, and the feed ends after its last row or STOPPED by the paper, then the cover, with FEED_DONE. What a removed
slip left in flight ends with the next head's start. A cut that ends with the cutter home ends the job, otherwise it
pauses with CUTTER_JAM. The job's end: it leaves the queue, the sale engine is told or the slip buffer emptied, a
freed place is offered, PRINT_DONE COMPLETED is handed over, and the next head starts. -/
def Obligations.RowsAndCutsRunPauseAndEnd : Prop :=
  ((∀ p : Lane,
    p.startRow =
      if p.printer.paper = .out then p.pauseHead .paperOut
      else if p.printer.cover = .opened then p.pauseHead .coverOpen
      else if p.printer.supply = .low then p.pauseHead .supplyLow
      else if p.printer.sensorValid = false then p.pauseHead .headSensor
      else if 75 ≤ p.printer.temperature then p.pauseHead .headHot
      else
        p.beginRow (match p.printer.phase, p.printer.line with
          | .line, some text => rowDots text p.printer.row
          | _, _ => [])) ∧
  (∀ p : Lane,
    p.startCut =
      let q : Lane := { p with printer := { p.printer with phase := .cut } }
      if p.printer.cover = .opened then q.pauseHead .coverOpen
      else if p.printer.supply = .low then q.pauseHead .supplyLow
      else { q with printer := { q.printer with cutUntil := some (p.now + 300000) } }) ∧
  (∀ (text : Text) (row : Nat),
    (24 ≤ row ∨ (∀ c ∈ text, c = 0x20#8) → rowDots text row = []) ∧ (rowDots text row).Pairwise (· < ·) ∧
    ∀ place, place ∈ rowDots text row ↔ row < 24 ∧
      ∃ c, text[place / 14]? = some c ∧ c ≠ 0x20#8 ∧ (Config.fontRow c row).getLsbD (place % 14) = true) ∧
  (∀ (dots : List Nat) (p : Lane),
    let limit := if p.till.driver = none then 64 else 16
    ∃ f : RowFigures,
      p.beginRow dots = { p with printer := { p.printer with figures := some f, limit := limit } } ∧
      f.black = dots.length ∧ f.limit = limit ∧ dots.length ≤ f.groups * limit ∧ f.groups * limit < dots.length + limit ∧
      f.fires.length = f.groups ∧ f.fires.flatten = dots ∧
      (∀ k < f.groups, f.fires[k]? = some ((dots.drop (k * limit)).take limit)) ∧
      (∀ k into, into < f.strobe → f.firing (p.now + k * f.strobe + into) = f.fires.getD k []) ∧
      (f.strobe : Int) = max 280 (min 640 (480 - 4 * (p.printer.temperature - 25))) ∧
      f.period = (if 65 ≤ p.printer.temperature then 2 else 1) * max 1000 (f.groups * f.strobe + 100) ∧
      f.ends = p.now + f.period) ∧
  (∀ (r : PauseReason) (j : Job) (rest : List Job) (p : Lane), p.printer.queue = j :: rest →
    p.pauseHead r =
      ({ p with printer := { p.printer with queue := { j with state := .paused r } :: rest, engine := .paused } }).event
        0x99#8
        ([Field.name r.code] ++ j.fields ++ [Field.u16 p.printer.lineNumber, Field.name p.printer.phase.code] ++
          (match p.printer.phase with
           | .line => [Field.u8 p.printer.row]
           | .tail => [Field.u8 p.printer.tailRows]
           | .cut => []))) ∧
  (∀ j : Job,
    j.fields =
      .name j.kind.code :: ((match j.context with | some i => [Field.present, Field.u8 i] | none => [Field.absent]) ++
        (match j.txn with | some n => [Field.present, Field.u16 n] | none => [Field.absent])))) ∧
  ((∀ s : State,
    (s.printer.figures = none → exec .dotRowEnd s = .next s) ∧ (s.printer.cutUntil = none → exec .cutEnd s = .next s)) ∧
  (∀ (r : RowFigures) (s : State), s.printer.figures = some r →
    let e : Printer := { s.printer with figures := none }
    let p : Lane := { s.toLane with now := max s.now r.ends, printer := e }
    exec .dotRowEnd s =
      s.becomes
        (if e.draining = true then ({ p with printer := { e with draining := false } }).startHead
         else
           match e.feed, e.phase, e.queue with
           | some f, _, _ =>
             let q : Lane := { p with printer := { e with feed := some ⟨f.asked, f.fed + 1⟩ } }
             let done (outcome : List Field) : Lane :=
               (({ q with printer := { q.printer with feed := none } }).event 0x9C#8
                 (outcome ++ [Field.u8 (f.fed + 1)])).startHead
             if f.asked ≤ f.fed + 1 then done [.name 1]
             else if e.paper = .out then done [.name 0, .name (PauseReason.code .paperOut)]
             else if e.cover = .opened then done [.name 0, .name (PauseReason.code .coverOpen)]
             else q.beginRow []
           | none, .line, j :: _ =>
             if e.row < 29 then ({ p with printer := { e with row := e.row + 1 } }).startRow else p.nextLine j
           | none, .tail, _ :: _ =>
             let q : Lane := { p with printer := { e with tailRows := e.tailRows + 1 } }
             if e.tailRows < 39 then q.startRow else q.startCut
           | none, _, _ => p)) ∧
  (∀ (t : Nat) (s : State), s.printer.cutUntil = some t →
    let e : Printer := { s.printer with cutUntil := none }
    let p : Lane := { s.toLane with now := max s.now t, printer := e }
    exec .cutEnd s =
      s.becomes
        (if e.draining = true then ({ p with printer := { e with draining := false } }).startHead
         else if e.cutterHome = false then p.pauseHead .cutterJam
         else
           match e.queue with
           | [] => p
           | j :: rest =>
             let q : Lane := { p with printer := { e with
               queue := rest, line := none, lineNumber := 0, phase := .line, row := 0, tailRows := 0 } }
             let told := (q.jobReport j).freePlace
             (told.event 0x9B#8
               (j.fields ++ [Field.name 0, Field.name (JobState.code .done), Field.u16 e.lineNumber, Field.u8 told.printer.queue.length])).startHead)) ∧
  (∀ (j : Job) (p : Lane),
    p.jobReport j =
      match j.kind, j.context with
      | .receipt, some i | .voidSlip, some i =>
        let q : Lane := match p.firstOf .lastPrinted with
          | none => p
          | some l =>
            if (p.ctx l).pin = 0 then p.freeCtx l else p.setCtx l { p.ctx l with role := .printHeld }
        q.setCtx i { q.ctx i with role := .lastPrinted }
      | .copy, some i =>
        let q := p.setCtx i { p.ctx i with pin := 0 }
        if (p.ctx i).role = .printHeld then q.freeCtx i else q
      | _, _ => { p with printer := { p.printer with slip := none } }))

/-- A RECEIPT or VOID_SLIP goes to the end of the queue, or to the backlog when the queue holds 4 jobs. A job appended
starts when the engine is IDLE. The head job starts PRINTING with the engine RUNNING and its first line's row 0; with no
job the engine is IDLE. A place freed takes the backlog's job at once. -/
def Obligations.JobIsQueuedStartedOrBacklogged : Prop :=
  (∀ (k : JobKind) (i : Fin 6) (p : Lane),
    p.placeJob k i =
      if 4 ≤ p.printer.queue.length then { p with sale := { p.sale with backlog := some ⟨k, i⟩ } }
      else p.appendJob ⟨k, some i, (p.ctx i).txn, .queued⟩) ∧
  (∀ (j : Job) (p : Lane),
    let q : Lane := { p with printer := { p.printer with queue := p.printer.queue ++ [j] } }
    p.appendJob j = if p.printer.engine = .idle then q.startHead else q) ∧
  (∀ p : Lane, p.printer.queue = [] → p.startHead = { p with printer := { p.printer with engine := .idle } }) ∧
  (∀ (j : Job) (rest : List Job) (p : Lane), p.printer.queue = j :: rest →
    p.startHead =
      ({ p with printer := { p.printer with
          queue := { j with state := .printing } :: rest, engine := .running } }).nextLine j ∧
    ∀ (k : Job) (q : Lane), (q.askLine k).1.printer = q.printer ∧
      q.nextLine k =
        (let e := q.printer
         match q.askLine k with
         | (t, some (text, number)) =>
           ({ t with printer := { e with line := some text, lineNumber := number, phase := .line, row := 0 } }).startRow
         | (t, none) => ({ t with printer := { e with phase := .tail, row := 0, tailRows := 0 } }).startRow)) ∧
  (∀ p : Lane,
    p.freePlace =
      match p.sale.backlog with
      | none => p
      | some b =>
        if 4 ≤ p.printer.queue.length then p
        else { p with sale := { p.sale with backlog := none }
                      printer := { p.printer with
                        queue := p.printer.queue ++ [⟨b.kind, some b.context, (p.ctx b.context).txn, .queued⟩] } })

/-- HEAD_TEMP_READING: a reading of -20 to 120 °C becomes the head temperature with the sensor mark valid, another
leaves it and makes the mark invalid; one of 60 °C or less ends a HEAD_HOT pause with PRINT_RESUMED COOLED and the
restart. PRINTER_SENSOR_CHANGE takes the level; NORMAL to NEAR_END gives PAPER_NEAR_END, and no other change an event.
(The elapsed time is the model's, log entry 3.) PRINT_RESUME: its checks in order, those of the paper and the sensor
mark not at a cut; then the job is PRINTING and the engine RUNNING, with PRINT_RESUMED REQUEST and the reply of kind,
context and line number. PRINT_RESTART, after an accepted PRINT_RESUME, starts the line from row 0, the tail from its
first row, or the cut; otherwise it changes nothing (log entry 4). (The engine RUNNING with the row and the tail count
0 and the restart due is log entry 22, the numbers COOLED 0 and REQUEST 1 of PRINT_RESUMED's cause log entry 16.) A
paused engine with no job comes in no run. -/
def Obligations.PrinterInputsAreTakenAndPausesEnd : Prop :=
  ((∀ (t : Int) (s : State),
    let now := max s.now s.printer.nextReading
    let e : Printer :=
      if -20 ≤ t ∧ t ≤ 120 then
        { s.printer with temperature := t, sensorValid := true, lastReading := t, nextReading := now + 100000 }
      else { s.printer with sensorValid := false, lastReading := t, nextReading := now + 100000 }
    let p : Lane := { s.toLane with now := now, printer := e }
    exec (.headTempReading t) s =
      s.becomes
        (match e.queue with
         | j :: rest =>
           if j.state = .paused .headHot ∧ -20 ≤ t ∧ t ≤ 60 then
             let q := ({ p with printer := { e with
               queue := { j with state := .printing } :: rest, engine := .running, row := 0, tailRows := 0 } }).event
               0x9A#8 [.name 0]
             if e.phase = .cut then q.startCut else q.startRow
           else p
         | [] => p)) ∧
  (∀ s : State,
    (∀ l, exec (.printerSensorChange (.paper l)) s = .next { s with printer := { s.printer with paper := l } }) ∧
    (∀ l, exec (.printerSensorChange (.cover l)) s = .next { s with printer := { s.printer with cover := l } }) ∧
    (∀ l, exec (.printerSensorChange (.supply l)) s = .next { s with printer := { s.printer with supply := l } }) ∧
    (∀ l, exec (.printerSensorChange (.cutterHome l)) s =
      .next { s with printer := { s.printer with cutterHome := l } }) ∧
    (∀ l, exec (.printerSensorChange (.nearEnd l)) s =
      .next { s with printer := { s.printer with nearEnd := l }
                     link := if s.printer.nearEnd = .normal ∧ l = .nearEnd then s.link.saying 0x9D#8 [] else s.link }))) ∧
  ((∀ (tag : Byte) (s : State), s.takes →
    let e := s.printer
    let reason : Option PauseReason :=
      match e.queue with | ⟨_, _, _, .paused r⟩ :: _ => some r | _ => none
    exec (.printResume tag) s =
      if e.engine ≠ .paused then s.says 0x68#8 tag [.status .wrongState]
      else if reason = some .headHot then s.says 0x68#8 tag (refusal .headHot)
      else if reason = some .cutterJam ∧ e.cutterHome = false then s.says 0x68#8 tag (refusal .cutterJam)
      else if e.phase ≠ .cut ∧ e.paper = .out then s.says 0x68#8 tag (refusal .paperOut)
      else if e.cover = .opened then s.says 0x68#8 tag (refusal .coverOpen)
      else if e.supply = .low then s.says 0x68#8 tag (refusal .supplyLow)
      else if e.phase ≠ .cut ∧ e.sensorValid = false then s.says 0x68#8 tag (refusal .headSensor)
      else
        match e.queue with
        | [] => s.says 0x68#8 tag [.status .wrongState]
        | j :: rest =>
          .next { s with
            printer := { e with queue := { j with state := .printing } :: rest, engine := .running
                                row := 0, tailRows := 0, restartDue := true }
            link := s.link.answered 0x68#8 tag [eventOf 0x9A#8 [.name 1]]
              ([.status .ok, .name j.kind.code] ++
                (match j.context with | some i => [Field.present, Field.u8 i] | none => [Field.absent]) ++ [.u16 e.lineNumber]) }) ∧
  (∀ s : State,
    exec .printRestart s =
      if s.printer.restartDue = true then
        let p : Lane := { s.toLane with printer := { s.printer with restartDue := false } }
        s.becomes (if s.printer.phase = .cut then p.startCut else p.startRow)
      else .next s))

/-- PRINT_ABORT removes the SLIP job wherever it stands: the buffer is emptied, a freed place is offered, PRINT_DONE
ABORTED carries the kind, the state left and the lines printed whole, and the reply the jobs left; a head job's
removal also clears the line and the composer's position, and the next head starts at once or, with a row or cut in
flight, at that end. FEED starts its first row with the engine FEEDING. (The next head's start before the reply is the
model's order, log entry 23; the lines printed whole are log entry 35 and their 2 bytes log entry 15, an abort before
the restart is log entry 22, ABORTED's number 1 log entry 16.) REPRINT: NOTHING_TO_COPY without a LAST_PRINTED context, BUSY when it is pinned,
FULL with 4 jobs; otherwise the context is pinned and its COPY appended. SLIP: BAD_VALUE, BUSY with a slip held, FULL;
otherwise the lines are held and the SLIP appended. HEADER_SET: away from MANAGER refused, BAD_VALUE; otherwise the
header and the exponent change. (The start of the COPY or SLIP before the reply is the model's order, log entry 23.)
-/
def Obligations.AbortFeedCopySlipAndHeaderAreTaken : Prop :=
  ((∀ (tag : Byte) (s : State), s.takes →
    let e := s.printer
    exec (.printAbort tag) s =
      if e.queue = [] then s.says 0x69#8 tag (refusal .noJob)
      else
        match e.queue.find? (fun j => decide (j.kind = .slip)) with
        | none => s.says 0x69#8 tag (refusal .legalJob)
        | some j =>
          let p := s.toLane.begun 0x69#8 tag
          let inFlight := e.figures.isSome || e.cutUntil.isSome
          let left := e.queue.eraseP fun j => decide (j.kind = .slip)
          let lines := if j.state = .queued then 0 else if e.phase = .line then e.lineNumber - 1 else e.lineNumber
          let gone : Lane :=
            if j.state = .queued ∨ j.state = .done then { p with printer := { e with queue := left, slip := none } }
            else
              { p with composer := { p.composer with position := none }
                       printer := { e with
                         queue := left, slip := none, line := none, lineNumber := 0, phase := .line, row := 0
                         tailRows := 0, draining := inFlight, restartDue := false } }
          let told := gone.freePlace
          let said := told.event 0x9B#8
            [Field.name j.kind.code, Field.name 1, Field.name j.state.code, Field.u16 lines]
          let after := if j.state = .queued ∨ j.state = .done ∨ inFlight = true then said else said.startHead
          s.becomes (after.respond (ok [.u8 after.printer.queue.length]))) ∧
  (∀ (tag : Byte) (rows : Nat) (s : State), s.takes →
    exec (.feed tag rows) s =
      if rows < 1 ∨ 255 < rows then s.says 0x6A#8 tag [.status .badValue]
      else if s.printer.engine ≠ .idle then s.says 0x6A#8 tag [.status .busy]
      else if s.printer.paper = .out then s.says 0x6A#8 tag (refusal .paperOut)
      else if s.printer.cover = .opened then s.says 0x6A#8 tag (refusal .coverOpen)
      else
        let p : Lane := { s.toLane with printer := { s.printer with engine := .feeding, feed := some ⟨rows, 0⟩ } }
        .next { s with printer := (p.beginRow []).printer
                       link := s.link.answered 0x6A#8 tag [] [.status .accepted] })) ∧
  (∀ (tag : Byte) (lines : List Text) (exponent : Nat) (s : State), s.takes →
    let legal : Prop := ∀ l ∈ lines, l.length ≤ 32 ∧ ∀ c ∈ l, 0x20 ≤ c.toNat ∧ c.toNat ≤ 0x7E
    (exec (.reprint tag) s =
      match s.toLane.firstOf .lastPrinted with
      | none => s.says 0x60#8 tag (refusal .nothingToCopy)
      | some i =>
        if (s.toLane.ctx i).pin ≠ 0 then s.says 0x60#8 tag [.status .busy]
        else if 4 ≤ s.printer.queue.length then s.says 0x60#8 tag [.status .full]
        else
          let p := (s.toLane.begun 0x60#8 tag).setCtx i { s.toLane.ctx i with pin := 1 }
          s.becomes ((p.appendJob ⟨.copy, some i, (s.toLane.ctx i).txn, .queued⟩).respond
            (accepted [.u8 i, .u16 ((s.toLane.ctx i).txn.getD 0)]))) ∧
    (lines.length < 1 ∨ 40 < lines.length ∨ ¬legal → exec (.slip tag lines) s = s.says 0x61#8 tag [.status .badValue]) ∧
    (1 ≤ lines.length → lines.length ≤ 40 → legal →
      exec (.slip tag lines) s =
        if s.printer.slip ≠ none then s.says 0x61#8 tag [.status .busy]
        else if 4 ≤ s.printer.queue.length then s.says 0x61#8 tag [.status .full]
        else
          let p : Lane := { s.toLane.begun 0x61#8 tag with printer := { s.printer with slip := some lines } }
          s.becomes ((p.appendJob ⟨.slip, none, none, .queued⟩).respond (accepted [.u8 lines.length]))) ∧
    (s.till.key ≠ .manager → exec (.headerSet tag lines exponent) s = s.says 0x62#8 tag (refusal .keyPosition)) ∧
    (s.till.key = .manager → 4 < lines.length ∨ ¬legal ∨ 3 < exponent →
      exec (.headerSet tag lines exponent) s = s.says 0x62#8 tag [.status .badValue]) ∧
    (s.till.key = .manager → lines.length ≤ 4 → legal → exponent ≤ 3 →
      exec (.headerSet tag lines exponent) s =
        .next { s with composer := { s.composer with header := lines, exponent := exponent }
                       link := s.link.answered 0x62#8 tag []
                         ([.status .ok, .count lines.length] ++ lines.map (fun l => .text l) ++ [.u8 exponent]) }))

/-- STATUS is answered OK in every state with the fields of its table, in its order, and changes nothing else.
WEIGHT_READ, IDENTIFY, DRAWER_STATUS, HEADER_READ and PRINT_STATUS are answered OK in every state with what their
blocks hold, field by field, and change nothing but the link. (How the optional parts, the two drawers without a count
and the cutter home level are laid out is log entry 15, the numbers of the calibration switch's and the driver's
states log entry 16, the tare with no net log entry 14, WEIGHT_READ's unit state and absent chain log entry 30, the
revision's width log entry 9.) -/
def Obligations.ReportsChangeNothing : Prop :=
  (∀ (tag : Byte) (s : State), s.takes →
    exec (.status tag) s =
      s.says 0x70#8 tag
        ([.status .ok, .flagSet s.link.flags, .u8 s.link.events.length, .enableSet s.link.enabled,
          .name s.link.rate.code] ++ stampField s.link.clock ++
         [.u8 s.link.identity.toNat, .name s.store.calState.code, .name (switchCode s.store.switch),
          .name s.scale.unit.code, .flag s.scale.capture.isSome, .flag s.swipe.front, .flag s.swipe.stand,
          .name (channelCode s.swipe.channel), .u8 s.cards.queue.length] ++
         (match s.toLane.current with | none => [.absent] | some i => [.present, .u8 i]) ++
         [.u8 s.sale.stack.length, .u16 s.toLane.poolFree, .name (if s.till.driver.isSome then 1 else 0),
          .name (keyCode s.till.key), .name s.till.shown.code, .name s.printer.engine.code,
          .u8 s.printer.queue.length])) ∧
  (∀ (tag : Byte) (s : State), s.takes →
    let opt {α : Type} (x : Option α) (f : α → List Field) : List Field :=
      match x with | none => [.absent] | some a => .present :: f a
    (let w := s.scale
     let shown := if w.unit = .ready ∧ w.conditions.overload = false ∧ w.conditions.underload = false then w.chain else none
     exec (.weightRead tag) s =
       s.says 0x25#8 tag
         ([.status .ok, .name w.unit.code] ++ opt w.chain (fun c => [.i32 c.count]) ++
           opt shown (fun c => [.i16 (c.grossRounded / 10)]) ++ opt shown (fun c => [.i16 (c.netRounded / 10)]) ++
           [.u16 (match w.chain with | some c => c.tare / 10 | none => w.tare / 10)] ++
           opt shown (fun c => [.u16 (c.division / 10)]) ++
           [.flag w.conditions.stable, .flag w.conditions.overload, .flag w.conditions.underload,
            .flag w.conditions.hold, .flag w.capture.isSome, .flag w.latch])) ∧
    exec (.identify tag) s =
      s.says 0x36#8 tag
        ([.status .ok, .u8 Config.partRevision.toNat, .u8 s.link.identity.toNat, .u16 s.store.mirror,
          .flag s.store.counterValid, .name (match s.store.calRecord with | .valid _ => 0 | _ => 1)] ++
         opt (match s.store.calRecord with | .valid r => r.commitTime | _ => none) (fun t => [.stamp t]) ++
         [.name s.store.calState.code, .name (switchCode s.store.switch)]) ∧
    (let drawer (d : Drawer) : List Field :=
       let r := s.toLane.drawer d
       [.name r.state.code, .name (trayCode r.tray), .name (closedCode r.closed), .u8 (if r.grant = true then 1 else 0)] ++
         opt r.kick (fun k => [.name k.basis.code, .name k.requester.code, .u16 k.pulseMs]) ++
         opt r.faultReason (fun f => [.name f.code]) ++
         opt r.drive (fun x => [.u16 x.pulseMs, .u8 x.drivenMs, .name x.current.code]) ++
         opt r.openSince (fun t => [.u32 ((s.now - t) / 1000000)]) ++
         [.flag (s.link.latched (.presence d)), .flag (s.link.latched (.forced d)), .flag (s.link.latched (.alarm d))]
     let t := s.till
     exec (.drawerStatus tag) s =
       s.says 0x57#8 tag
         ([.status .ok] ++ drawer .a ++ drawer .b ++ [.name (if t.driver.isSome = true then 1 else 0)] ++
           opt t.driver (fun g => [.name (drawerCode g.drawer)]) ++ opt t.waiting (fun d => [.name (drawerCode d)]) ++
           [.name (drawerCode t.active), .u16 t.pulseMs, .u8 t.alarmSeconds, .flag t.interlock, .name (keyCode t.key),
            .flag t.assist, .u8 t.presses, .name t.commanded.code, .name t.shown.code])) ∧
    exec (.headerRead tag) s =
      s.says 0x63#8 tag
        ([.status .ok, .count s.composer.header.length] ++ s.composer.header.map (fun l => .text l) ++
          [.u8 s.composer.exponent]) ∧
    (let e := s.printer
     let started : Bool := match e.queue with | [] => false | j :: _ => decide (j.state ≠ .queued)
     let at_ (f : List Field) : List Field := if started = true then .present :: f else [.absent]
     exec (.printStatus tag) s =
       s.says 0x6B#8 tag
         ([.status .ok, .name e.engine.code, .count e.queue.length] ++
           e.queue.flatMap (fun j =>
             [.name j.kind.code] ++ opt j.context (fun i => [.u8 i.val]) ++ opt j.txn (fun n => [.u16 n]) ++
               [.name j.state.code] ++ (match j.state with | .paused r => [.present, .name r.code] | _ => [.absent])) ++
           at_ [.u16 e.lineNumber] ++ at_ [.name e.phase.code] ++
           (match e.phase with
            | .line => at_ [.u8 e.row]
            | .tail => at_ [.u8 e.tailRows]
            | .cut => [.absent]) ++
           opt e.feed (fun f => [.u8 f.asked]) ++ opt e.feed (fun f => [.u8 f.fed]) ++
           [.flag e.slip.isSome] ++ opt e.slip (fun l => [.u8 l.length]) ++
           [.i8 e.temperature, .flag e.sensorValid, .i8 e.lastReading, .name (paperCode e.paper),
            .name (nearEndCode e.nearEnd), .name (coverCode e.cover), .name (supplyCode e.supply), .flag e.cutterHome,
            .flag s.till.driver.isSome, .u8 e.limit])))

/-! ## What every step keeps

Each of these holds of every state that satisfies it, whatever command waits. -/

/-- Every step keeps the lane link's bounds and one request at a time: at most 16 events queued, a waiting reply counting
no more of them than there are, nothing waiting for an idle line, a reply only for the request in progress. -/
def Obligations.LinkStaysSound : Prop :=
  ∀ s t : State, s.link.sound → s.toLane.requestSound → step s = .next t → t.link.sound ∧ t.toLane.requestSound

/-- Every step keeps the contexts' roles: at most one CURRENT and one LAST_PRINTED context, the suspend stack holding
exactly the SUSPENDED ones, every receipt, void slip and copy to be printed naming a context kept for it, and the
settlement backlog holding a receipt or a void slip. -/
def Obligations.RolesStaySound : Prop :=
  ∀ s t : State, s.toLane.requestSound → s.sale.backlogSound → s.toLane.rolesSound → step s = .next t →
    t.sale.backlogSound ∧ t.toLane.rolesSound

/-- Every step keeps the amounts: every subtotal the sum of its item amounts within ±99,999,999, every tender sum the sum
of its settlement values within 0 to 99,999,999, the lists and the item pool within their sizes. -/
def Obligations.AmountsStaySound : Prop :=
  ∀ s t : State, s.toLane.amountsSound → step s = .next t → t.toLane.amountsSound

/-- Every step keeps the till controller consistent: the driver drives the one KICKING drawer, the waiting place holds the
one PENDING drawer, each drawer's kick, window, alarm and open instant fit its state, and the lane light shows the judged
mode. -/
def Obligations.TillStaysSound : Prop :=
  ∀ s t : State, s.till.sound → step s = .next t → t.till.sound

/-- Every step keeps the print engine consistent: at most 4 jobs, only the head ever started, at most one SLIP and then
its buffer held, the engine's state that of its head, a row or a cut in flight exactly when the engine works, and the
settlement backlog a receipt or a void slip. -/
def Obligations.PrinterStaysSound : Prop :=
  ∀ s t : State, s.sale.backlogSound → s.printer.sound → step s = .next t → t.sale.backlogSound ∧ t.printer.sound

/-- Every step keeps the card queue within its bounds: at most two entries with unlike handles, at most one READY or
FETCHED, and full track data only in entries that are HELD or READY. -/
def Obligations.CardsStaySound : Prop :=
  ∀ s t : State, s.cards.sound → step s = .next t → t.cards.sound

/-- The machine right after reset meets every one of these conditions. -/
def Obligations.ResetIsSound : Prop :=
  State.reset.link.sound ∧ State.reset.toLane.requestSound ∧ State.reset.sale.backlogSound ∧
    State.reset.toLane.rolesSound ∧
    State.reset.toLane.amountsSound ∧ State.reset.till.sound ∧ State.reset.printer.sound ∧ State.reset.cards.sound
end

