-- ==== Sys2Proof/Laws/State.lean ====
section
/-! SUPPORT. Laws/State.lean: what each update of the part leaves as it was, one lemma per field, and what it
writes. -/

namespace Sys2Proof.Machine

@[simp] theorem Lane.event_now (p : Lane) (c : Byte) (x : List Field) : (p.event c x).now = p.now := rfl
@[simp] theorem Lane.event_sale (p : Lane) (c : Byte) (x : List Field) : (p.event c x).sale = p.sale := rfl
@[simp] theorem Lane.event_scale (p : Lane) (c : Byte) (x : List Field) : (p.event c x).scale = p.scale := rfl
@[simp] theorem Lane.event_store (p : Lane) (c : Byte) (x : List Field) : (p.event c x).store = p.store := rfl
@[simp] theorem Lane.event_swipe (p : Lane) (c : Byte) (x : List Field) : (p.event c x).swipe = p.swipe := rfl
@[simp] theorem Lane.event_cards (p : Lane) (c : Byte) (x : List Field) : (p.event c x).cards = p.cards := rfl
@[simp] theorem Lane.event_till (p : Lane) (c : Byte) (x : List Field) : (p.event c x).till = p.till := rfl
@[simp] theorem Lane.event_composer (p : Lane) (c : Byte) (x : List Field) : (p.event c x).composer = p.composer := rfl
@[simp] theorem Lane.event_printer (p : Lane) (c : Byte) (x : List Field) : (p.event c x).printer = p.printer := rfl

@[simp] theorem Lane.latch_now (p : Lane) (f : Latched) : (p.latch f).now = p.now := rfl
@[simp] theorem Lane.latch_sale (p : Lane) (f : Latched) : (p.latch f).sale = p.sale := rfl
@[simp] theorem Lane.latch_scale (p : Lane) (f : Latched) : (p.latch f).scale = p.scale := rfl
@[simp] theorem Lane.latch_store (p : Lane) (f : Latched) : (p.latch f).store = p.store := rfl
@[simp] theorem Lane.latch_swipe (p : Lane) (f : Latched) : (p.latch f).swipe = p.swipe := rfl
@[simp] theorem Lane.latch_cards (p : Lane) (f : Latched) : (p.latch f).cards = p.cards := rfl
@[simp] theorem Lane.latch_till (p : Lane) (f : Latched) : (p.latch f).till = p.till := rfl
@[simp] theorem Lane.latch_composer (p : Lane) (f : Latched) : (p.latch f).composer = p.composer := rfl
@[simp] theorem Lane.latch_printer (p : Lane) (f : Latched) : (p.latch f).printer = p.printer := rfl

@[simp] theorem Lane.withLink_now (p : Lane) (f : Link → Link) : (p.withLink f).now = p.now := rfl
@[simp] theorem Lane.withLink_sale (p : Lane) (f : Link → Link) : (p.withLink f).sale = p.sale := rfl
@[simp] theorem Lane.withLink_scale (p : Lane) (f : Link → Link) : (p.withLink f).scale = p.scale := rfl
@[simp] theorem Lane.withLink_store (p : Lane) (f : Link → Link) : (p.withLink f).store = p.store := rfl
@[simp] theorem Lane.withLink_swipe (p : Lane) (f : Link → Link) : (p.withLink f).swipe = p.swipe := rfl
@[simp] theorem Lane.withLink_cards (p : Lane) (f : Link → Link) : (p.withLink f).cards = p.cards := rfl
@[simp] theorem Lane.withLink_till (p : Lane) (f : Link → Link) : (p.withLink f).till = p.till := rfl
@[simp] theorem Lane.withLink_composer (p : Lane) (f : Link → Link) : (p.withLink f).composer = p.composer := rfl
@[simp] theorem Lane.withLink_printer (p : Lane) (f : Link → Link) : (p.withLink f).printer = p.printer := rfl

@[simp] theorem Lane.setReceiver_now (p : Lane) (r : Receiver) : (p.setReceiver r).now = p.now := rfl
@[simp] theorem Lane.setReceiver_sale (p : Lane) (r : Receiver) : (p.setReceiver r).sale = p.sale := rfl
@[simp] theorem Lane.setReceiver_scale (p : Lane) (r : Receiver) : (p.setReceiver r).scale = p.scale := rfl
@[simp] theorem Lane.setReceiver_store (p : Lane) (r : Receiver) : (p.setReceiver r).store = p.store := rfl
@[simp] theorem Lane.setReceiver_swipe (p : Lane) (r : Receiver) : (p.setReceiver r).swipe = p.swipe := rfl
@[simp] theorem Lane.setReceiver_cards (p : Lane) (r : Receiver) : (p.setReceiver r).cards = p.cards := rfl
@[simp] theorem Lane.setReceiver_till (p : Lane) (r : Receiver) : (p.setReceiver r).till = p.till := rfl
@[simp] theorem Lane.setReceiver_composer (p : Lane) (r : Receiver) : (p.setReceiver r).composer = p.composer := rfl
@[simp] theorem Lane.setReceiver_printer (p : Lane) (r : Receiver) : (p.setReceiver r).printer = p.printer := rfl

@[simp] theorem Lane.elapseTo_link (p : Lane) (t : Nat) : (p.elapseTo t).link = p.link := rfl
@[simp] theorem Lane.elapseTo_sale (p : Lane) (t : Nat) : (p.elapseTo t).sale = p.sale := rfl
@[simp] theorem Lane.elapseTo_scale (p : Lane) (t : Nat) : (p.elapseTo t).scale = p.scale := rfl
@[simp] theorem Lane.elapseTo_store (p : Lane) (t : Nat) : (p.elapseTo t).store = p.store := rfl
@[simp] theorem Lane.elapseTo_swipe (p : Lane) (t : Nat) : (p.elapseTo t).swipe = p.swipe := rfl
@[simp] theorem Lane.elapseTo_cards (p : Lane) (t : Nat) : (p.elapseTo t).cards = p.cards := rfl
@[simp] theorem Lane.elapseTo_till (p : Lane) (t : Nat) : (p.elapseTo t).till = p.till := rfl
@[simp] theorem Lane.elapseTo_composer (p : Lane) (t : Nat) : (p.elapseTo t).composer = p.composer := rfl
@[simp] theorem Lane.elapseTo_printer (p : Lane) (t : Nat) : (p.elapseTo t).printer = p.printer := rfl

@[simp] theorem Lane.setCtx_now (p : Lane) (i : Fin 6) (c : Context) : (p.setCtx i c).now = p.now := rfl
@[simp] theorem Lane.setCtx_link (p : Lane) (i : Fin 6) (c : Context) : (p.setCtx i c).link = p.link := rfl
@[simp] theorem Lane.setCtx_scale (p : Lane) (i : Fin 6) (c : Context) : (p.setCtx i c).scale = p.scale := rfl
@[simp] theorem Lane.setCtx_store (p : Lane) (i : Fin 6) (c : Context) : (p.setCtx i c).store = p.store := rfl
@[simp] theorem Lane.setCtx_swipe (p : Lane) (i : Fin 6) (c : Context) : (p.setCtx i c).swipe = p.swipe := rfl
@[simp] theorem Lane.setCtx_cards (p : Lane) (i : Fin 6) (c : Context) : (p.setCtx i c).cards = p.cards := rfl
@[simp] theorem Lane.setCtx_till (p : Lane) (i : Fin 6) (c : Context) : (p.setCtx i c).till = p.till := rfl
@[simp] theorem Lane.setCtx_composer (p : Lane) (i : Fin 6) (c : Context) : (p.setCtx i c).composer = p.composer := rfl
@[simp] theorem Lane.setCtx_printer (p : Lane) (i : Fin 6) (c : Context) : (p.setCtx i c).printer = p.printer := rfl

@[simp] theorem Lane.freeCtx_now (p : Lane) (i : Fin 6) : (p.freeCtx i).now = p.now := rfl
@[simp] theorem Lane.freeCtx_link (p : Lane) (i : Fin 6) : (p.freeCtx i).link = p.link := rfl
@[simp] theorem Lane.freeCtx_scale (p : Lane) (i : Fin 6) : (p.freeCtx i).scale = p.scale := rfl
@[simp] theorem Lane.freeCtx_store (p : Lane) (i : Fin 6) : (p.freeCtx i).store = p.store := rfl
@[simp] theorem Lane.freeCtx_swipe (p : Lane) (i : Fin 6) : (p.freeCtx i).swipe = p.swipe := rfl
@[simp] theorem Lane.freeCtx_cards (p : Lane) (i : Fin 6) : (p.freeCtx i).cards = p.cards := rfl
@[simp] theorem Lane.freeCtx_till (p : Lane) (i : Fin 6) : (p.freeCtx i).till = p.till := rfl
@[simp] theorem Lane.freeCtx_composer (p : Lane) (i : Fin 6) : (p.freeCtx i).composer = p.composer := rfl
@[simp] theorem Lane.freeCtx_printer (p : Lane) (i : Fin 6) : (p.freeCtx i).printer = p.printer := rfl

@[simp] theorem Lane.setRole_now (p : Lane) (i : Fin 6) (r : Role) : (p.setRole i r).now = p.now := rfl
@[simp] theorem Lane.setRole_link (p : Lane) (i : Fin 6) (r : Role) : (p.setRole i r).link = p.link := rfl
@[simp] theorem Lane.setRole_scale (p : Lane) (i : Fin 6) (r : Role) : (p.setRole i r).scale = p.scale := rfl
@[simp] theorem Lane.setRole_store (p : Lane) (i : Fin 6) (r : Role) : (p.setRole i r).store = p.store := rfl
@[simp] theorem Lane.setRole_swipe (p : Lane) (i : Fin 6) (r : Role) : (p.setRole i r).swipe = p.swipe := rfl
@[simp] theorem Lane.setRole_cards (p : Lane) (i : Fin 6) (r : Role) : (p.setRole i r).cards = p.cards := rfl
@[simp] theorem Lane.setRole_till (p : Lane) (i : Fin 6) (r : Role) : (p.setRole i r).till = p.till := rfl
@[simp] theorem Lane.setRole_composer (p : Lane) (i : Fin 6) (r : Role) : (p.setRole i r).composer = p.composer := rfl
@[simp] theorem Lane.setRole_printer (p : Lane) (i : Fin 6) (r : Role) : (p.setRole i r).printer = p.printer := rfl

@[simp] theorem Lane.setSaleState_now (p : Lane) (i : Fin 6) (x : SaleState) : (p.setSaleState i x).now = p.now := rfl
@[simp] theorem Lane.setSaleState_link (p : Lane) (i : Fin 6) (x : SaleState) : (p.setSaleState i x).link = p.link := rfl
@[simp] theorem Lane.setSaleState_scale (p : Lane) (i : Fin 6) (x : SaleState) : (p.setSaleState i x).scale = p.scale := rfl
@[simp] theorem Lane.setSaleState_store (p : Lane) (i : Fin 6) (x : SaleState) : (p.setSaleState i x).store = p.store := rfl
@[simp] theorem Lane.setSaleState_swipe (p : Lane) (i : Fin 6) (x : SaleState) : (p.setSaleState i x).swipe = p.swipe := rfl
@[simp] theorem Lane.setSaleState_cards (p : Lane) (i : Fin 6) (x : SaleState) : (p.setSaleState i x).cards = p.cards := rfl
@[simp] theorem Lane.setSaleState_till (p : Lane) (i : Fin 6) (x : SaleState) : (p.setSaleState i x).till = p.till := rfl
@[simp] theorem Lane.setSaleState_composer (p : Lane) (i : Fin 6) (x : SaleState) : (p.setSaleState i x).composer = p.composer := rfl
@[simp] theorem Lane.setSaleState_printer (p : Lane) (i : Fin 6) (x : SaleState) : (p.setSaleState i x).printer = p.printer := rfl

@[simp] theorem Lane.setStack_now (p : Lane) (x : List (Fin 6)) : (p.setStack x).now = p.now := rfl
@[simp] theorem Lane.setStack_link (p : Lane) (x : List (Fin 6)) : (p.setStack x).link = p.link := rfl
@[simp] theorem Lane.setStack_scale (p : Lane) (x : List (Fin 6)) : (p.setStack x).scale = p.scale := rfl
@[simp] theorem Lane.setStack_store (p : Lane) (x : List (Fin 6)) : (p.setStack x).store = p.store := rfl
@[simp] theorem Lane.setStack_swipe (p : Lane) (x : List (Fin 6)) : (p.setStack x).swipe = p.swipe := rfl
@[simp] theorem Lane.setStack_cards (p : Lane) (x : List (Fin 6)) : (p.setStack x).cards = p.cards := rfl
@[simp] theorem Lane.setStack_till (p : Lane) (x : List (Fin 6)) : (p.setStack x).till = p.till := rfl
@[simp] theorem Lane.setStack_composer (p : Lane) (x : List (Fin 6)) : (p.setStack x).composer = p.composer := rfl
@[simp] theorem Lane.setStack_printer (p : Lane) (x : List (Fin 6)) : (p.setStack x).printer = p.printer := rfl

@[simp] theorem Lane.setLoyalty_now (p : Lane) (i : Fin 6) (x : Text) : (p.setLoyalty i x).now = p.now := rfl
@[simp] theorem Lane.setLoyalty_link (p : Lane) (i : Fin 6) (x : Text) : (p.setLoyalty i x).link = p.link := rfl
@[simp] theorem Lane.setLoyalty_scale (p : Lane) (i : Fin 6) (x : Text) : (p.setLoyalty i x).scale = p.scale := rfl
@[simp] theorem Lane.setLoyalty_store (p : Lane) (i : Fin 6) (x : Text) : (p.setLoyalty i x).store = p.store := rfl
@[simp] theorem Lane.setLoyalty_swipe (p : Lane) (i : Fin 6) (x : Text) : (p.setLoyalty i x).swipe = p.swipe := rfl
@[simp] theorem Lane.setLoyalty_cards (p : Lane) (i : Fin 6) (x : Text) : (p.setLoyalty i x).cards = p.cards := rfl
@[simp] theorem Lane.setLoyalty_till (p : Lane) (i : Fin 6) (x : Text) : (p.setLoyalty i x).till = p.till := rfl
@[simp] theorem Lane.setLoyalty_composer (p : Lane) (i : Fin 6) (x : Text) : (p.setLoyalty i x).composer = p.composer := rfl
@[simp] theorem Lane.setLoyalty_printer (p : Lane) (i : Fin 6) (x : Text) : (p.setLoyalty i x).printer = p.printer := rfl

@[simp] theorem Lane.setQueue_now (p : Lane) (q : List CardEntry) : (p.setQueue q).now = p.now := rfl
@[simp] theorem Lane.setQueue_link (p : Lane) (q : List CardEntry) : (p.setQueue q).link = p.link := rfl
@[simp] theorem Lane.setQueue_sale (p : Lane) (q : List CardEntry) : (p.setQueue q).sale = p.sale := rfl
@[simp] theorem Lane.setQueue_scale (p : Lane) (q : List CardEntry) : (p.setQueue q).scale = p.scale := rfl
@[simp] theorem Lane.setQueue_store (p : Lane) (q : List CardEntry) : (p.setQueue q).store = p.store := rfl
@[simp] theorem Lane.setQueue_swipe (p : Lane) (q : List CardEntry) : (p.setQueue q).swipe = p.swipe := rfl
@[simp] theorem Lane.setQueue_till (p : Lane) (q : List CardEntry) : (p.setQueue q).till = p.till := rfl
@[simp] theorem Lane.setQueue_composer (p : Lane) (q : List CardEntry) : (p.setQueue q).composer = p.composer := rfl
@[simp] theorem Lane.setQueue_printer (p : Lane) (q : List CardEntry) : (p.setQueue q).printer = p.printer := rfl

@[simp] theorem Lane.removeCard_now (p : Lane) (h : Nat) : (p.removeCard h).now = p.now := rfl
@[simp] theorem Lane.removeCard_link (p : Lane) (h : Nat) : (p.removeCard h).link = p.link := rfl
@[simp] theorem Lane.removeCard_sale (p : Lane) (h : Nat) : (p.removeCard h).sale = p.sale := rfl
@[simp] theorem Lane.removeCard_scale (p : Lane) (h : Nat) : (p.removeCard h).scale = p.scale := rfl
@[simp] theorem Lane.removeCard_store (p : Lane) (h : Nat) : (p.removeCard h).store = p.store := rfl
@[simp] theorem Lane.removeCard_swipe (p : Lane) (h : Nat) : (p.removeCard h).swipe = p.swipe := rfl
@[simp] theorem Lane.removeCard_till (p : Lane) (h : Nat) : (p.removeCard h).till = p.till := rfl
@[simp] theorem Lane.removeCard_composer (p : Lane) (h : Nat) : (p.removeCard h).composer = p.composer := rfl
@[simp] theorem Lane.removeCard_printer (p : Lane) (h : Nat) : (p.removeCard h).printer = p.printer := rfl

@[simp] theorem Lane.setTenderMark_now (p : Lane) (b : Bool) : (p.setTenderMark b).now = p.now := rfl
@[simp] theorem Lane.setTenderMark_link (p : Lane) (b : Bool) : (p.setTenderMark b).link = p.link := rfl
@[simp] theorem Lane.setTenderMark_sale (p : Lane) (b : Bool) : (p.setTenderMark b).sale = p.sale := rfl
@[simp] theorem Lane.setTenderMark_scale (p : Lane) (b : Bool) : (p.setTenderMark b).scale = p.scale := rfl
@[simp] theorem Lane.setTenderMark_store (p : Lane) (b : Bool) : (p.setTenderMark b).store = p.store := rfl
@[simp] theorem Lane.setTenderMark_swipe (p : Lane) (b : Bool) : (p.setTenderMark b).swipe = p.swipe := rfl
@[simp] theorem Lane.setTenderMark_till (p : Lane) (b : Bool) : (p.setTenderMark b).till = p.till := rfl
@[simp] theorem Lane.setTenderMark_composer (p : Lane) (b : Bool) : (p.setTenderMark b).composer = p.composer := rfl
@[simp] theorem Lane.setTenderMark_printer (p : Lane) (b : Bool) : (p.setTenderMark b).printer = p.printer := rfl

@[simp] theorem Lane.setZero_now (p : Lane) (c : Int) : (p.setZero c).now = p.now := rfl
@[simp] theorem Lane.setZero_link (p : Lane) (c : Int) : (p.setZero c).link = p.link := rfl
@[simp] theorem Lane.setZero_sale (p : Lane) (c : Int) : (p.setZero c).sale = p.sale := rfl
@[simp] theorem Lane.setZero_store (p : Lane) (c : Int) : (p.setZero c).store = p.store := rfl
@[simp] theorem Lane.setZero_swipe (p : Lane) (c : Int) : (p.setZero c).swipe = p.swipe := rfl
@[simp] theorem Lane.setZero_cards (p : Lane) (c : Int) : (p.setZero c).cards = p.cards := rfl
@[simp] theorem Lane.setZero_till (p : Lane) (c : Int) : (p.setZero c).till = p.till := rfl
@[simp] theorem Lane.setZero_composer (p : Lane) (c : Int) : (p.setZero c).composer = p.composer := rfl
@[simp] theorem Lane.setZero_printer (p : Lane) (c : Int) : (p.setZero c).printer = p.printer := rfl

@[simp] theorem Lane.setTare_now (p : Lane) (u : Nat) : (p.setTare u).now = p.now := rfl
@[simp] theorem Lane.setTare_link (p : Lane) (u : Nat) : (p.setTare u).link = p.link := rfl
@[simp] theorem Lane.setTare_sale (p : Lane) (u : Nat) : (p.setTare u).sale = p.sale := rfl
@[simp] theorem Lane.setTare_store (p : Lane) (u : Nat) : (p.setTare u).store = p.store := rfl
@[simp] theorem Lane.setTare_swipe (p : Lane) (u : Nat) : (p.setTare u).swipe = p.swipe := rfl
@[simp] theorem Lane.setTare_cards (p : Lane) (u : Nat) : (p.setTare u).cards = p.cards := rfl
@[simp] theorem Lane.setTare_till (p : Lane) (u : Nat) : (p.setTare u).till = p.till := rfl
@[simp] theorem Lane.setTare_composer (p : Lane) (u : Nat) : (p.setTare u).composer = p.composer := rfl
@[simp] theorem Lane.setTare_printer (p : Lane) (u : Nat) : (p.setTare u).printer = p.printer := rfl

@[simp] theorem Lane.setRail_now (p : Lane) (n : Nat) : (p.setRail n).now = p.now := rfl
@[simp] theorem Lane.setRail_link (p : Lane) (n : Nat) : (p.setRail n).link = p.link := rfl
@[simp] theorem Lane.setRail_sale (p : Lane) (n : Nat) : (p.setRail n).sale = p.sale := rfl
@[simp] theorem Lane.setRail_store (p : Lane) (n : Nat) : (p.setRail n).store = p.store := rfl
@[simp] theorem Lane.setRail_swipe (p : Lane) (n : Nat) : (p.setRail n).swipe = p.swipe := rfl
@[simp] theorem Lane.setRail_cards (p : Lane) (n : Nat) : (p.setRail n).cards = p.cards := rfl
@[simp] theorem Lane.setRail_till (p : Lane) (n : Nat) : (p.setRail n).till = p.till := rfl
@[simp] theorem Lane.setRail_composer (p : Lane) (n : Nat) : (p.setRail n).composer = p.composer := rfl
@[simp] theorem Lane.setRail_printer (p : Lane) (n : Nat) : (p.setRail n).printer = p.printer := rfl

@[simp] theorem Lane.dropCapture_now (p : Lane) : (p.dropCapture).now = p.now := rfl
@[simp] theorem Lane.dropCapture_link (p : Lane) : (p.dropCapture).link = p.link := rfl
@[simp] theorem Lane.dropCapture_sale (p : Lane) : (p.dropCapture).sale = p.sale := rfl
@[simp] theorem Lane.dropCapture_store (p : Lane) : (p.dropCapture).store = p.store := rfl
@[simp] theorem Lane.dropCapture_swipe (p : Lane) : (p.dropCapture).swipe = p.swipe := rfl
@[simp] theorem Lane.dropCapture_cards (p : Lane) : (p.dropCapture).cards = p.cards := rfl
@[simp] theorem Lane.dropCapture_till (p : Lane) : (p.dropCapture).till = p.till := rfl
@[simp] theorem Lane.dropCapture_composer (p : Lane) : (p.dropCapture).composer = p.composer := rfl
@[simp] theorem Lane.dropCapture_printer (p : Lane) : (p.dropCapture).printer = p.printer := rfl

@[simp] theorem Lane.joltHold_now (p : Lane) : (p.joltHold).now = p.now := rfl
@[simp] theorem Lane.joltHold_link (p : Lane) : (p.joltHold).link = p.link := rfl
@[simp] theorem Lane.joltHold_sale (p : Lane) : (p.joltHold).sale = p.sale := rfl
@[simp] theorem Lane.joltHold_store (p : Lane) : (p.joltHold).store = p.store := rfl
@[simp] theorem Lane.joltHold_swipe (p : Lane) : (p.joltHold).swipe = p.swipe := rfl
@[simp] theorem Lane.joltHold_cards (p : Lane) : (p.joltHold).cards = p.cards := rfl
@[simp] theorem Lane.joltHold_till (p : Lane) : (p.joltHold).till = p.till := rfl
@[simp] theorem Lane.joltHold_composer (p : Lane) : (p.joltHold).composer = p.composer := rfl
@[simp] theorem Lane.joltHold_printer (p : Lane) : (p.joltHold).printer = p.printer := rfl

@[simp] theorem Lane.enterHistory_now (p : Lane) (c : Int) : (p.enterHistory c).now = p.now := by unfold Lane.enterHistory; rfl
@[simp] theorem Lane.enterHistory_link (p : Lane) (c : Int) : (p.enterHistory c).link = p.link := by unfold Lane.enterHistory; rfl
@[simp] theorem Lane.enterHistory_sale (p : Lane) (c : Int) : (p.enterHistory c).sale = p.sale := by unfold Lane.enterHistory; rfl
@[simp] theorem Lane.enterHistory_store (p : Lane) (c : Int) : (p.enterHistory c).store = p.store := by unfold Lane.enterHistory; rfl
@[simp] theorem Lane.enterHistory_swipe (p : Lane) (c : Int) : (p.enterHistory c).swipe = p.swipe := by unfold Lane.enterHistory; rfl
@[simp] theorem Lane.enterHistory_cards (p : Lane) (c : Int) : (p.enterHistory c).cards = p.cards := by unfold Lane.enterHistory; rfl
@[simp] theorem Lane.enterHistory_till (p : Lane) (c : Int) : (p.enterHistory c).till = p.till := by unfold Lane.enterHistory; rfl
@[simp] theorem Lane.enterHistory_composer (p : Lane) (c : Int) : (p.enterHistory c).composer = p.composer := by unfold Lane.enterHistory; rfl
@[simp] theorem Lane.enterHistory_printer (p : Lane) (c : Int) : (p.enterHistory c).printer = p.printer := by unfold Lane.enterHistory; rfl

@[simp] theorem Lane.withTill_now (p : Lane) (t : Till) : (p.withTill t).now = p.now := rfl
@[simp] theorem Lane.withTill_link (p : Lane) (t : Till) : (p.withTill t).link = p.link := rfl
@[simp] theorem Lane.withTill_sale (p : Lane) (t : Till) : (p.withTill t).sale = p.sale := rfl
@[simp] theorem Lane.withTill_scale (p : Lane) (t : Till) : (p.withTill t).scale = p.scale := rfl
@[simp] theorem Lane.withTill_store (p : Lane) (t : Till) : (p.withTill t).store = p.store := rfl
@[simp] theorem Lane.withTill_swipe (p : Lane) (t : Till) : (p.withTill t).swipe = p.swipe := rfl
@[simp] theorem Lane.withTill_cards (p : Lane) (t : Till) : (p.withTill t).cards = p.cards := rfl
@[simp] theorem Lane.withTill_composer (p : Lane) (t : Till) : (p.withTill t).composer = p.composer := rfl
@[simp] theorem Lane.withTill_printer (p : Lane) (t : Till) : (p.withTill t).printer = p.printer := rfl

@[simp] theorem Lane.setDrawer_now (p : Lane) (d : Drawer) (r : DrawerRecord) : (p.setDrawer d r).now = p.now := rfl
@[simp] theorem Lane.setDrawer_link (p : Lane) (d : Drawer) (r : DrawerRecord) : (p.setDrawer d r).link = p.link := rfl
@[simp] theorem Lane.setDrawer_sale (p : Lane) (d : Drawer) (r : DrawerRecord) : (p.setDrawer d r).sale = p.sale := rfl
@[simp] theorem Lane.setDrawer_scale (p : Lane) (d : Drawer) (r : DrawerRecord) : (p.setDrawer d r).scale = p.scale := rfl
@[simp] theorem Lane.setDrawer_store (p : Lane) (d : Drawer) (r : DrawerRecord) : (p.setDrawer d r).store = p.store := rfl
@[simp] theorem Lane.setDrawer_swipe (p : Lane) (d : Drawer) (r : DrawerRecord) : (p.setDrawer d r).swipe = p.swipe := rfl
@[simp] theorem Lane.setDrawer_cards (p : Lane) (d : Drawer) (r : DrawerRecord) : (p.setDrawer d r).cards = p.cards := rfl
@[simp] theorem Lane.setDrawer_composer (p : Lane) (d : Drawer) (r : DrawerRecord) : (p.setDrawer d r).composer = p.composer := rfl
@[simp] theorem Lane.setDrawer_printer (p : Lane) (d : Drawer) (r : DrawerRecord) : (p.setDrawer d r).printer = p.printer := rfl

@[simp] theorem Lane.onDrawer_now (p : Lane) (d : Drawer) (f : DrawerRecord → DrawerRecord) : (p.onDrawer d f).now = p.now := rfl
@[simp] theorem Lane.onDrawer_link (p : Lane) (d : Drawer) (f : DrawerRecord → DrawerRecord) : (p.onDrawer d f).link = p.link := rfl
@[simp] theorem Lane.onDrawer_sale (p : Lane) (d : Drawer) (f : DrawerRecord → DrawerRecord) : (p.onDrawer d f).sale = p.sale := rfl
@[simp] theorem Lane.onDrawer_scale (p : Lane) (d : Drawer) (f : DrawerRecord → DrawerRecord) : (p.onDrawer d f).scale = p.scale := rfl
@[simp] theorem Lane.onDrawer_store (p : Lane) (d : Drawer) (f : DrawerRecord → DrawerRecord) : (p.onDrawer d f).store = p.store := rfl
@[simp] theorem Lane.onDrawer_swipe (p : Lane) (d : Drawer) (f : DrawerRecord → DrawerRecord) : (p.onDrawer d f).swipe = p.swipe := rfl
@[simp] theorem Lane.onDrawer_cards (p : Lane) (d : Drawer) (f : DrawerRecord → DrawerRecord) : (p.onDrawer d f).cards = p.cards := rfl
@[simp] theorem Lane.onDrawer_composer (p : Lane) (d : Drawer) (f : DrawerRecord → DrawerRecord) : (p.onDrawer d f).composer = p.composer := rfl
@[simp] theorem Lane.onDrawer_printer (p : Lane) (d : Drawer) (f : DrawerRecord → DrawerRecord) : (p.onDrawer d f).printer = p.printer := rfl

@[simp] theorem Lane.setDriver_now (p : Lane) (g : Option Driving) (w : Option Drawer) : (p.setDriver g w).now = p.now := rfl
@[simp] theorem Lane.setDriver_link (p : Lane) (g : Option Driving) (w : Option Drawer) : (p.setDriver g w).link = p.link := rfl
@[simp] theorem Lane.setDriver_sale (p : Lane) (g : Option Driving) (w : Option Drawer) : (p.setDriver g w).sale = p.sale := rfl
@[simp] theorem Lane.setDriver_scale (p : Lane) (g : Option Driving) (w : Option Drawer) : (p.setDriver g w).scale = p.scale := rfl
@[simp] theorem Lane.setDriver_store (p : Lane) (g : Option Driving) (w : Option Drawer) : (p.setDriver g w).store = p.store := rfl
@[simp] theorem Lane.setDriver_swipe (p : Lane) (g : Option Driving) (w : Option Drawer) : (p.setDriver g w).swipe = p.swipe := rfl
@[simp] theorem Lane.setDriver_cards (p : Lane) (g : Option Driving) (w : Option Drawer) : (p.setDriver g w).cards = p.cards := rfl
@[simp] theorem Lane.setDriver_composer (p : Lane) (g : Option Driving) (w : Option Drawer) : (p.setDriver g w).composer = p.composer := rfl
@[simp] theorem Lane.setDriver_printer (p : Lane) (g : Option Driving) (w : Option Drawer) : (p.setDriver g w).printer = p.printer := rfl

@[simp] theorem Lane.withPrinter_now (p : Lane) (f : Printer → Printer) : (p.withPrinter f).now = p.now := rfl
@[simp] theorem Lane.withPrinter_link (p : Lane) (f : Printer → Printer) : (p.withPrinter f).link = p.link := rfl
@[simp] theorem Lane.withPrinter_sale (p : Lane) (f : Printer → Printer) : (p.withPrinter f).sale = p.sale := rfl
@[simp] theorem Lane.withPrinter_scale (p : Lane) (f : Printer → Printer) : (p.withPrinter f).scale = p.scale := rfl
@[simp] theorem Lane.withPrinter_store (p : Lane) (f : Printer → Printer) : (p.withPrinter f).store = p.store := rfl
@[simp] theorem Lane.withPrinter_swipe (p : Lane) (f : Printer → Printer) : (p.withPrinter f).swipe = p.swipe := rfl
@[simp] theorem Lane.withPrinter_cards (p : Lane) (f : Printer → Printer) : (p.withPrinter f).cards = p.cards := rfl
@[simp] theorem Lane.withPrinter_till (p : Lane) (f : Printer → Printer) : (p.withPrinter f).till = p.till := rfl
@[simp] theorem Lane.withPrinter_composer (p : Lane) (f : Printer → Printer) : (p.withPrinter f).composer = p.composer := rfl

@[simp] theorem Lane.beginRow_now (p : Lane) (b : List Nat) : (p.beginRow b).now = p.now := by unfold Lane.beginRow; rfl
@[simp] theorem Lane.beginRow_link (p : Lane) (b : List Nat) : (p.beginRow b).link = p.link := by unfold Lane.beginRow; rfl
@[simp] theorem Lane.beginRow_sale (p : Lane) (b : List Nat) : (p.beginRow b).sale = p.sale := by unfold Lane.beginRow; rfl
@[simp] theorem Lane.beginRow_scale (p : Lane) (b : List Nat) : (p.beginRow b).scale = p.scale := by unfold Lane.beginRow; rfl
@[simp] theorem Lane.beginRow_store (p : Lane) (b : List Nat) : (p.beginRow b).store = p.store := by unfold Lane.beginRow; rfl
@[simp] theorem Lane.beginRow_swipe (p : Lane) (b : List Nat) : (p.beginRow b).swipe = p.swipe := by unfold Lane.beginRow; rfl
@[simp] theorem Lane.beginRow_cards (p : Lane) (b : List Nat) : (p.beginRow b).cards = p.cards := by unfold Lane.beginRow; rfl
@[simp] theorem Lane.beginRow_till (p : Lane) (b : List Nat) : (p.beginRow b).till = p.till := by unfold Lane.beginRow; rfl
@[simp] theorem Lane.beginRow_composer (p : Lane) (b : List Nat) : (p.beginRow b).composer = p.composer := by unfold Lane.beginRow; rfl

@[simp] theorem Lane.withStore_now (p : Lane) (f : Store → Store) : (p.withStore f).now = p.now := rfl
@[simp] theorem Lane.withStore_link (p : Lane) (f : Store → Store) : (p.withStore f).link = p.link := rfl
@[simp] theorem Lane.withStore_sale (p : Lane) (f : Store → Store) : (p.withStore f).sale = p.sale := rfl
@[simp] theorem Lane.withStore_scale (p : Lane) (f : Store → Store) : (p.withStore f).scale = p.scale := rfl
@[simp] theorem Lane.withStore_swipe (p : Lane) (f : Store → Store) : (p.withStore f).swipe = p.swipe := rfl
@[simp] theorem Lane.withStore_cards (p : Lane) (f : Store → Store) : (p.withStore f).cards = p.cards := rfl
@[simp] theorem Lane.withStore_till (p : Lane) (f : Store → Store) : (p.withStore f).till = p.till := rfl
@[simp] theorem Lane.withStore_composer (p : Lane) (f : Store → Store) : (p.withStore f).composer = p.composer := rfl
@[simp] theorem Lane.withStore_printer (p : Lane) (f : Store → Store) : (p.withStore f).printer = p.printer := rfl

@[simp] theorem Lane.setWorking_now (p : Lane) (v : CalValues) : (p.setWorking v).now = p.now := rfl
@[simp] theorem Lane.setWorking_link (p : Lane) (v : CalValues) : (p.setWorking v).link = p.link := rfl
@[simp] theorem Lane.setWorking_sale (p : Lane) (v : CalValues) : (p.setWorking v).sale = p.sale := rfl
@[simp] theorem Lane.setWorking_scale (p : Lane) (v : CalValues) : (p.setWorking v).scale = p.scale := rfl
@[simp] theorem Lane.setWorking_swipe (p : Lane) (v : CalValues) : (p.setWorking v).swipe = p.swipe := rfl
@[simp] theorem Lane.setWorking_cards (p : Lane) (v : CalValues) : (p.setWorking v).cards = p.cards := rfl
@[simp] theorem Lane.setWorking_till (p : Lane) (v : CalValues) : (p.setWorking v).till = p.till := rfl
@[simp] theorem Lane.setWorking_composer (p : Lane) (v : CalValues) : (p.setWorking v).composer = p.composer := rfl
@[simp] theorem Lane.setWorking_printer (p : Lane) (v : CalValues) : (p.setWorking v).printer = p.printer := rfl

@[simp] theorem Lane.setPosition_now (p : Lane) (q : Option Position) : (p.setPosition q).now = p.now := rfl
@[simp] theorem Lane.setPosition_link (p : Lane) (q : Option Position) : (p.setPosition q).link = p.link := rfl
@[simp] theorem Lane.setPosition_sale (p : Lane) (q : Option Position) : (p.setPosition q).sale = p.sale := rfl
@[simp] theorem Lane.setPosition_scale (p : Lane) (q : Option Position) : (p.setPosition q).scale = p.scale := rfl
@[simp] theorem Lane.setPosition_store (p : Lane) (q : Option Position) : (p.setPosition q).store = p.store := rfl
@[simp] theorem Lane.setPosition_swipe (p : Lane) (q : Option Position) : (p.setPosition q).swipe = p.swipe := rfl
@[simp] theorem Lane.setPosition_cards (p : Lane) (q : Option Position) : (p.setPosition q).cards = p.cards := rfl
@[simp] theorem Lane.setPosition_till (p : Lane) (q : Option Position) : (p.setPosition q).till = p.till := rfl
@[simp] theorem Lane.setPosition_printer (p : Lane) (q : Option Position) : (p.setPosition q).printer = p.printer := rfl

/-! ## What an update writes -/

@[simp] theorem Lane.event_link (p : Lane) (c : Byte) (x : List Field) :
    (p.event c x).link = p.link.handEvent ⟨c, 0x00#8, x⟩ := rfl

@[simp] theorem Lane.latch_link (p : Lane) (f : Latched) : (p.latch f).link = p.link.latch f := rfl

@[simp] theorem Lane.withLink_link (p : Lane) (f : Link → Link) : (p.withLink f).link = f p.link := rfl

@[simp] theorem Lane.elapseTo_now (p : Lane) (t : Nat) : (p.elapseTo t).now = max p.now t := rfl

@[simp] theorem Lane.setCtx_stack (p : Lane) (i : Fin 6) (c : Context) : (p.setCtx i c).sale.stack = p.sale.stack := rfl

@[simp] theorem Lane.setCtx_backlog (p : Lane) (i : Fin 6) (c : Context) :
    (p.setCtx i c).sale.backlog = p.sale.backlog := rfl

@[simp] theorem Lane.setCtx_autoOpen (p : Lane) (i : Fin 6) (c : Context) :
    (p.setCtx i c).sale.autoOpen = p.sale.autoOpen := rfl

/-- A context written is read back; the others are as they were. -/
theorem Lane.ctx_setCtx (p : Lane) (i j : Fin 6) (c : Context) :
    (p.setCtx i c).ctx j = if i = j then c else p.ctx j := by
  simp only [Lane.ctx, Lane.setCtx, Fin.getElem_fin, Vector.getElem_set, Fin.ext_iff]

@[simp] theorem Lane.ctx_setCtx_same (p : Lane) (i : Fin 6) (c : Context) : (p.setCtx i c).ctx i = c := by
  simp [Lane.ctx_setCtx]

@[simp] theorem Lane.setQueue_queue (p : Lane) (q : List CardEntry) : (p.setQueue q).cards.queue = q := rfl

@[simp] theorem Lane.setTenderMark_mark (p : Lane) (b : Bool) : (p.setTenderMark b).cards.tenderMark = b := rfl

@[simp] theorem Lane.withPrinter_printer (p : Lane) (f : Printer → Printer) :
    (p.withPrinter f).printer = f p.printer := rfl

@[simp] theorem Lane.withStore_store (p : Lane) (f : Store → Store) : (p.withStore f).store = f p.store := rfl

@[simp] theorem Lane.setPosition_position (p : Lane) (q : Option Position) :
    (p.setPosition q).composer.position = q := rfl

/-! ## Contexts and drawers read through an update of another block -/

theorem Lane.ctx_of_sale {p q : Lane} (h : q.sale = p.sale) (i : Fin 6) : q.ctx i = p.ctx i := by
  simp only [Lane.ctx, h]

theorem Lane.current_of_sale {p q : Lane} (h : q.sale = p.sale) : q.current = p.current := by
  unfold Lane.current Lane.firstOf Lane.ctx
  rw [h]

theorem Lane.drawer_of_till {p q : Lane} (h : q.till = p.till) (d : Drawer) : q.drawer d = p.drawer d := by
  simp only [Lane.drawer, h]

end Sys2Proof.Machine
end

