-- ==== Sys2Proof/Laws/Link.lean ====
section
/-! SUPPORT. Laws/Link.lean: what handing over an event or a reply can change, and what becomes of a request
that can be taken. -/

namespace Sys2Proof.Machine

/-! ## Only the transmit side and the flags change -/

theorem Link.pump_cases (l : Link) :
    l.pump = l ∨
    (∃ m, l.sending = none ∧ l.reply = some ⟨m, 0⟩ ∧ l.pump = { l with sending := some (.reply m), reply := none }) ∨
    (∃ m n e rest, l.sending = none ∧ l.reply = some ⟨m, n + 1⟩ ∧ l.events = e :: rest ∧
      l.pump = { l with sending := some (.event e), events := rest, reply := some ⟨m, n⟩ }) ∨
    (∃ e rest, l.sending = none ∧ l.reply = none ∧ l.events = e :: rest ∧
      l.pump = { l with sending := some (.event e), events := rest }) := by
  rcases hs : l.sending with _ | m <;> rcases hr : l.reply with _ | ⟨m, _ | n⟩ <;>
    rcases he : l.events with _ | ⟨e, rest⟩ <;> simp [Link.pump, hs, hr, he]

@[simp] theorem Link.pump_receiver (l : Link) : l.pump.receiver = l.receiver := by
  unfold Link.pump; repeat' split
  all_goals rfl

@[simp] theorem Link.pump_inProgress (l : Link) : l.pump.inProgress = l.inProgress := by
  unfold Link.pump; repeat' split
  all_goals rfl

@[simp] theorem Link.pump_enabled (l : Link) : l.pump.enabled = l.enabled := by
  unfold Link.pump; repeat' split
  all_goals rfl

@[simp] theorem Link.pump_flags (l : Link) : l.pump.flags = l.flags := by
  unfold Link.pump; repeat' split
  all_goals rfl

@[simp] theorem Link.pump_rate (l : Link) : l.pump.rate = l.rate := by
  unfold Link.pump; repeat' split
  all_goals rfl

@[simp] theorem Link.pump_newRate (l : Link) : l.pump.newRate = l.newRate := by
  unfold Link.pump; repeat' split
  all_goals rfl

@[simp] theorem Link.pump_clock (l : Link) : l.pump.clock = l.clock := by
  unfold Link.pump; repeat' split
  all_goals rfl

@[simp] theorem Link.pump_nextSecond (l : Link) : l.pump.nextSecond = l.nextSecond := by
  unfold Link.pump; repeat' split
  all_goals rfl

@[simp] theorem Link.pump_identity (l : Link) : l.pump.identity = l.identity := by
  unfold Link.pump; repeat' split
  all_goals rfl

@[simp] theorem Link.handEvent_receiver (l : Link) (m : Message) : (l.handEvent m).receiver = l.receiver := by
  unfold Link.handEvent; repeat' split
  all_goals simp [Link.latch]

@[simp] theorem Link.handEvent_inProgress (l : Link) (m : Message) : (l.handEvent m).inProgress = l.inProgress := by
  unfold Link.handEvent; repeat' split
  all_goals simp [Link.latch]

@[simp] theorem Link.handEvent_enabled (l : Link) (m : Message) : (l.handEvent m).enabled = l.enabled := by
  unfold Link.handEvent; repeat' split
  all_goals simp [Link.latch]

@[simp] theorem Link.handEvent_rate (l : Link) (m : Message) : (l.handEvent m).rate = l.rate := by
  unfold Link.handEvent; repeat' split
  all_goals simp [Link.latch]

@[simp] theorem Link.handEvent_newRate (l : Link) (m : Message) : (l.handEvent m).newRate = l.newRate := by
  unfold Link.handEvent; repeat' split
  all_goals simp [Link.latch]

@[simp] theorem Link.handEvent_clock (l : Link) (m : Message) : (l.handEvent m).clock = l.clock := by
  unfold Link.handEvent; repeat' split
  all_goals simp [Link.latch]

@[simp] theorem Link.handEvent_nextSecond (l : Link) (m : Message) : (l.handEvent m).nextSecond = l.nextSecond := by
  unfold Link.handEvent; repeat' split
  all_goals simp [Link.latch]

@[simp] theorem Link.handEvent_identity (l : Link) (m : Message) : (l.handEvent m).identity = l.identity := by
  unfold Link.handEvent; repeat' split
  all_goals simp [Link.latch]

@[simp] theorem Link.handReply_receiver (l : Link) (m : Message) : (l.handReply m).receiver = l.receiver := by
  simp [Link.handReply]

@[simp] theorem Link.handReply_inProgress (l : Link) (m : Message) : (l.handReply m).inProgress = l.inProgress := by
  simp [Link.handReply]

@[simp] theorem Link.latch_receiver (l : Link) (f : Latched) : (l.latch f).receiver = l.receiver := rfl

@[simp] theorem Link.latch_inProgress (l : Link) (f : Latched) : (l.latch f).inProgress = l.inProgress := rfl

@[simp] theorem Link.latch_events (l : Link) (f : Latched) : (l.latch f).events = l.events := rfl

@[simp] theorem Link.latch_clock (l : Link) (f : Latched) : (l.latch f).clock = l.clock := rfl

@[simp] theorem Link.latch_newRate (l : Link) (f : Latched) : (l.latch f).newRate = l.newRate := rfl

@[simp] theorem Link.taking_inProgress (l : Link) (c t : Byte) : (l.taking c t).inProgress = some ⟨c, t⟩ := rfl

@[simp] theorem Link.taking_receiver (l : Link) (c t : Byte) : (l.taking c t).receiver = .hunt := rfl

@[simp] theorem Link.taking_clock (l : Link) (c t : Byte) : (l.taking c t).clock = l.clock := rfl

@[simp] theorem Link.taking_events (l : Link) (c t : Byte) : (l.taking c t).events = l.events := rfl

@[simp] theorem Link.taking_flags (l : Link) (c t : Byte) : (l.taking c t).flags = l.flags := rfl

/-! ## The event queue keeps to 16 places (R187) -/

theorem Link.pump_events_le (l : Link) : l.pump.events.length ≤ l.events.length := by
  unfold Link.pump; repeat' split
  all_goals simp_all

theorem Link.handEvent_events_le (l : Link) (m : Message) (h : l.events.length ≤ 16) :
    (l.handEvent m).events.length ≤ 16 := by
  unfold Link.handEvent
  split
  · split
    · exact Nat.le_trans (Link.pump_events_le _) (by simpa using by omega)
    · exact h
  · exact h

/-! ## A request that can be taken (R182) -/

/-- A request command whose frame is f, taken at once: its block acts on the part with the request in
progress, and the reply is handed over. -/
theorem request_takes {s : State} (h : s.takes) {i : Instr} {f : Frame} (hf : requestFrame i = some f)
    (body : Lane → Lane × Answer) :
    request i body s = .next { s with toLane := Lane.serve body (s.toLane.begun f.code f.tag) } := by
  obtain ⟨h1, h2⟩ := h
  unfold request State.advance Lane.arrive frameFor
  rw [hf]
  cases hr : s.link.receiver with
  | held g o => simp [Link.holding, hr] at h2
  | hunt => simp [h1, Lane.take, Lane.begun, Link.taking]
  | collect b => simp [h1, Lane.take, Lane.begun, Link.taking]

/-- The reply of the request in progress is handed over. -/
theorem Lane.respond_eq {p : Lane} {t : Ticket} (h : p.link.inProgress = some t) (a : Answer) :
    p.respond a = { p with link := p.link.handReply ⟨t.code, t.tag, a.allFields⟩ } := by
  unfold Lane.respond; rw [h]

/-! What taking a request leaves as it was. Proved as (rfl), so that simp rewrites a check's instance with it. -/

@[simp] theorem Lane.begun_link (p : Lane) (c t : Byte) : (p.begun c t).link = p.link.taking c t := (rfl)
@[simp] theorem Lane.begun_now (p : Lane) (c t : Byte) : (p.begun c t).now = p.now := (rfl)
@[simp] theorem Lane.begun_sale (p : Lane) (c t : Byte) : (p.begun c t).sale = p.sale := (rfl)
@[simp] theorem Lane.begun_scale (p : Lane) (c t : Byte) : (p.begun c t).scale = p.scale := (rfl)
@[simp] theorem Lane.begun_store (p : Lane) (c t : Byte) : (p.begun c t).store = p.store := (rfl)
@[simp] theorem Lane.begun_swipe (p : Lane) (c t : Byte) : (p.begun c t).swipe = p.swipe := (rfl)
@[simp] theorem Lane.begun_cards (p : Lane) (c t : Byte) : (p.begun c t).cards = p.cards := (rfl)
@[simp] theorem Lane.begun_till (p : Lane) (c t : Byte) : (p.begun c t).till = p.till := (rfl)
@[simp] theorem Lane.begun_composer (p : Lane) (c t : Byte) : (p.begun c t).composer = p.composer := (rfl)
@[simp] theorem Lane.begun_printer (p : Lane) (c t : Byte) : (p.begun c t).printer = p.printer := (rfl)
@[simp] theorem Lane.begun_clock (p : Lane) (c t : Byte) : (p.begun c t).clock = p.clock := (rfl)
@[simp] theorem Lane.begun_ctx (p : Lane) (c t : Byte) (i : Fin 6) : (p.begun c t).ctx i = p.ctx i := (rfl)
@[simp] theorem Lane.begun_current (p : Lane) (c t : Byte) : (p.begun c t).current = p.current := (rfl)
@[simp] theorem Lane.begun_currentCtx (p : Lane) (c t : Byte) : (p.begun c t).currentCtx = p.currentCtx := (rfl)
@[simp] theorem Lane.begun_noSaleOpen (p : Lane) (c t : Byte) : (p.begun c t).noSaleOpen = p.noSaleOpen := (rfl)
@[simp] theorem Lane.begun_poolFree (p : Lane) (c t : Byte) : (p.begun c t).poolFree = p.poolFree := (rfl)
@[simp] theorem Lane.begun_drawer (p : Lane) (c t : Byte) (d : Drawer) : (p.begun c t).drawer d = p.drawer d := (rfl)

/-! ## Checks (R8) -/

theorem checked_cons (b : Bool) (a : Answer) (l : List (Bool × Answer)) (act : Lane → Lane × Answer) (p : Lane) :
    checked ((b, a) :: l) act p = if b = true then (p, a) else checked l act p := by
  cases b <;> simp [checked, firstFailing]

/-- A request's checks: the first that fails decides the answer and nothing is done, or all pass. -/
theorem checked_cases (l : List (Bool × Answer)) (act : Lane → Lane × Answer) (p : Lane) :
    (∃ a, (true, a) ∈ l ∧ checked l act p = (p, a)) ∨ (firstFailing l = none ∧ checked l act p = act p) := by
  unfold checked
  induction l with
  | nil => exact .inr ⟨rfl, rfl⟩
  | cons c l ih =>
    obtain ⟨b, a⟩ := c
    cases b
    · simpa [firstFailing] using ih
    · exact .inl ⟨a, by simp, rfl⟩

/-! ## The outcome of a request, from what its block made of it

A statement about a request is proved by rewriting with request_answering and checked_cons, pushing answering
into the checks with answering_ite, and closing each refusal with answering_same. -/

/-- The next state of a request taken: the part and the answer its block made, the reply handed over. -/
def State.answering (s : State) (r : Lane × Answer) : Host.Outcome State Fault Refusal :=
  .next { s with toLane := r.1.respond r.2 }

theorem request_answering {s : State} (h : s.takes) {i : Instr} {f : Frame} (hf : requestFrame i = some f)
    (body : Lane → Lane × Answer) : request i body s = s.answering (body (s.toLane.begun f.code f.tag)) :=
  request_takes h hf body

theorem answering_ite (s : State) (c : Prop) [Decidable c] (a b : Lane × Answer) :
    s.answering (if c then a else b) = if c then s.answering a else s.answering b := by
  split <;> rfl

/-- A request answered without a change of the part. -/
theorem answering_same (s : State) (code tag : Byte) (a : Answer) :
    s.answering (s.toLane.begun code tag, a) = s.says code tag a.allFields := rfl

/-- A request answered after a change of the part that leaves the link as it was taken. -/
theorem answering_changed {s : State} {code tag : Byte} {p : Lane} (h : p.link = s.link.taking code tag) (a : Answer) :
    s.answering (p, a) = s.becomes { p with link := s.link.answered code tag [] a.allFields } := by
  simp [State.answering, State.becomes, Lane.respond, h, Link.answered, Link.handEvents]

/-- Two chains of the same check agree when their branches do. -/
theorem ite_agree {α : Type} {c : Prop} {d1 d2 : Decidable c} {a b x y : α} (h1 : c → a = x) (h2 : ¬c → b = y) :
    @ite α c d1 a b = @ite α c d2 x y := by
  by_cases hc : c
  · simpa [hc] using h1 hc
  · simpa [hc] using h2 hc

theorem Lane.firstOf_congr {p q : Lane} (h : p.sale.contexts = q.sale.contexts) (r : Role) :
    p.firstOf r = q.firstOf r := by
  unfold Lane.firstOf Lane.ctx; rw [h]

theorem Lane.current_congr {p q : Lane} (h : p.sale.contexts = q.sale.contexts) : p.current = q.current :=
  Lane.firstOf_congr h _

/-! ## The CURRENT context (R2) -/

theorem Lane.firstOf_role {p : Lane} {r : Role} {i : Fin 6} (h : p.firstOf r = some i) : (p.ctx i).role = r := by
  simpa using List.find?_some h

theorem Lane.currentCtx_eq {p : Lane} {i : Fin 6} (h : p.current = some i) : p.currentCtx = p.ctx i := by
  simp [Lane.currentCtx, h]

/-- A context rewritten with its role kept leaves every role where it was. -/
theorem Lane.firstOf_setCtx (p : Lane) (i : Fin 6) (c : Context) (r : Role) (h : c.role = (p.ctx i).role) :
    (p.setCtx i c).firstOf r = p.firstOf r := by
  have hr : ∀ j, ((p.setCtx i c).ctx j).role = (p.ctx j).role := by
    intro j
    by_cases hj : i.val = j.val
    · have : i = j := Fin.ext hj
      subst this
      simpa [Lane.setCtx, Lane.ctx] using h
    · simp [Lane.setCtx, Lane.ctx, Vector.getElem_set, hj]
  unfold Lane.firstOf
  simp only [hr]

theorem Lane.current_setCtx (p : Lane) (i : Fin 6) (c : Context) (h : c.role = (p.ctx i).role) :
    (p.setCtx i c).current = p.current :=
  Lane.firstOf_setCtx p i c _ h

end Sys2Proof.Machine
end

