-- ==== Sys2Proof/Laws/Frames.lean ====
section
/-! SUPPORT. Laws/Frames.lean: for each operation and each request's action, the blocks it leaves as they were
(00, Block overview: each block owns its own state). -/

namespace Sys2Proof.Machine

@[simp] theorem checked_nil (act : Lane → Lane × Answer) (p : Lane) : checked [] act p = act p := rfl

/-! ## Shared operations -/

@[simp] theorem Lane.elapseIf_frame (t : Option Nat) (p : Lane) :
    (p.elapseIf t).link = p.link ∧ (p.elapseIf t).sale = p.sale ∧ (p.elapseIf t).scale = p.scale ∧
    (p.elapseIf t).store = p.store ∧ (p.elapseIf t).swipe = p.swipe ∧ (p.elapseIf t).cards = p.cards ∧
    (p.elapseIf t).till = p.till ∧ (p.elapseIf t).composer = p.composer ∧ (p.elapseIf t).printer = p.printer := by
  unfold Lane.elapseIf; try simp only [checked]
  all_goals ((repeat' split) <;> first | (simp; done) | simp_all)

@[simp] theorem Lane.respond_frame (a : Answer) (p : Lane) :
    (p.respond a).now = p.now ∧ (p.respond a).sale = p.sale ∧ (p.respond a).scale = p.scale ∧
    (p.respond a).store = p.store ∧ (p.respond a).swipe = p.swipe ∧ (p.respond a).cards = p.cards ∧
    (p.respond a).till = p.till ∧ (p.respond a).composer = p.composer ∧ (p.respond a).printer = p.printer := by
  unfold Lane.respond; try simp only [checked]
  all_goals ((repeat' split) <;> first | (simp; done) | simp_all)

/-! ## The weighing unit -/

@[simp] theorem Lane.scaleStateEvent_frame (left : Nat) (p : Lane) :
    (p.scaleStateEvent left).now = p.now ∧ (p.scaleStateEvent left).sale = p.sale ∧
    (p.scaleStateEvent left).scale = p.scale ∧ (p.scaleStateEvent left).store = p.store ∧
    (p.scaleStateEvent left).swipe = p.swipe ∧ (p.scaleStateEvent left).cards = p.cards ∧
    (p.scaleStateEvent left).till = p.till ∧ (p.scaleStateEvent left).composer = p.composer ∧
    (p.scaleStateEvent left).printer = p.printer := by
  unfold Lane.scaleStateEvent; try simp only [checked]
  all_goals ((repeat' split) <;> first | (simp; done) | simp_all)

@[simp] theorem Lane.enterUnit_frame (u : UnitState) (p : Lane) :
    (p.enterUnit u).now = p.now ∧ (p.enterUnit u).sale = p.sale ∧ (p.enterUnit u).store = p.store ∧
    (p.enterUnit u).swipe = p.swipe ∧ (p.enterUnit u).cards = p.cards ∧ (p.enterUnit u).till = p.till ∧
    (p.enterUnit u).composer = p.composer ∧ (p.enterUnit u).printer = p.printer := by
  unfold Lane.enterUnit; try simp only [checked]
  all_goals ((repeat' split) <;> first | (simp; done) | simp_all)

@[simp] theorem Lane.restarted_frame (p : Lane) :
    p.restarted.now = p.now ∧ p.restarted.link = p.link ∧ p.restarted.sale = p.sale ∧
    p.restarted.store = p.store ∧ p.restarted.swipe = p.swipe ∧ p.restarted.cards = p.cards ∧
    p.restarted.till = p.till ∧ p.restarted.composer = p.composer ∧ p.restarted.printer = p.printer := by
  unfold Lane.restarted; try simp only [checked]
  all_goals ((repeat' split) <;> first | (simp; done) | simp_all)

@[simp] theorem Lane.restart_frame (p : Lane) :
    p.restart.now = p.now ∧ p.restart.sale = p.sale ∧ p.restart.store = p.store ∧ p.restart.swipe = p.swipe ∧
    p.restart.cards = p.cards ∧ p.restart.till = p.till ∧ p.restart.composer = p.composer ∧
    p.restart.printer = p.printer := by
  unfold Lane.restart; try simp only [checked]
  all_goals ((repeat' split) <;> first | (simp; done) | simp_all)

@[simp] theorem Lane.weighDone_frame (c : Capture) (o : CaptureOutcome) (more : List Field) (p : Lane) :
    (p.weighDone c o more).now = p.now ∧ (p.weighDone c o more).sale = p.sale ∧
    (p.weighDone c o more).scale = p.scale ∧ (p.weighDone c o more).store = p.store ∧
    (p.weighDone c o more).swipe = p.swipe ∧ (p.weighDone c o more).cards = p.cards ∧
    (p.weighDone c o more).till = p.till ∧ (p.weighDone c o more).composer = p.composer ∧
    (p.weighDone c o more).printer = p.printer := by
  unfold Lane.weighDone; try simp only [checked]
  all_goals ((repeat' split) <;> first | (simp; done) | simp_all)

@[simp] theorem Lane.endCapture_frame (o : CaptureOutcome) (more : List Field) (p : Lane) :
    (p.endCapture o more).now = p.now ∧ (p.endCapture o more).sale = p.sale ∧
    (p.endCapture o more).store = p.store ∧ (p.endCapture o more).swipe = p.swipe ∧
    (p.endCapture o more).cards = p.cards ∧ (p.endCapture o more).till = p.till ∧
    (p.endCapture o more).composer = p.composer ∧ (p.endCapture o more).printer = p.printer := by
  unfold Lane.endCapture; try simp only [checked]
  all_goals ((repeat' split) <;> first | (simp; done) | simp_all)

@[simp] theorem Lane.computeChain_frame (p : Lane) :
    p.computeChain.now = p.now ∧ p.computeChain.link = p.link ∧ p.computeChain.sale = p.sale ∧
    p.computeChain.store = p.store ∧ p.computeChain.swipe = p.swipe ∧ p.computeChain.cards = p.cards ∧
    p.computeChain.till = p.till ∧ p.computeChain.composer = p.composer ∧ p.computeChain.printer = p.printer := by
  unfold Lane.computeChain; try simp only [checked]
  all_goals ((repeat' split) <;> first | (simp; done) | simp_all)

@[simp] theorem Lane.powerUpZero_frame (chain : Chain) (p : Lane) :
    (p.powerUpZero chain).now = p.now ∧ (p.powerUpZero chain).sale = p.sale ∧
    (p.powerUpZero chain).store = p.store ∧ (p.powerUpZero chain).swipe = p.swipe ∧
    (p.powerUpZero chain).cards = p.cards ∧ (p.powerUpZero chain).till = p.till ∧
    (p.powerUpZero chain).composer = p.composer ∧ (p.powerUpZero chain).printer = p.printer := by
  unfold Lane.powerUpZero; try simp only [checked]
  all_goals ((repeat' split) <;> first | (simp; done) | simp_all)

@[simp] theorem Lane.trackZero_frame (chain : Chain) (p : Lane) :
    (p.trackZero chain).now = p.now ∧ (p.trackZero chain).link = p.link ∧ (p.trackZero chain).sale = p.sale ∧
    (p.trackZero chain).store = p.store ∧ (p.trackZero chain).swipe = p.swipe ∧
    (p.trackZero chain).cards = p.cards ∧ (p.trackZero chain).till = p.till ∧
    (p.trackZero chain).composer = p.composer ∧ (p.trackZero chain).printer = p.printer := by
  unfold Lane.trackZero; try simp only [checked]
  all_goals ((repeat' split) <;> first | (simp; done) | simp_all)

@[simp] theorem Lane.zeroStage_frame (chain : Chain) (p : Lane) :
    (p.zeroStage chain).now = p.now ∧ (p.zeroStage chain).sale = p.sale ∧ (p.zeroStage chain).store = p.store ∧
    (p.zeroStage chain).swipe = p.swipe ∧ (p.zeroStage chain).cards = p.cards ∧
    (p.zeroStage chain).till = p.till ∧ (p.zeroStage chain).composer = p.composer ∧
    (p.zeroStage chain).printer = p.printer := by
  unfold Lane.zeroStage; try simp only [checked]
  all_goals ((repeat' split) <;> first | (simp; done) | simp_all)

@[simp] theorem Lane.makeCapture_frame (c : Capture) (chain : Chain) (amount : Int) (p : Lane) :
    (p.makeCapture c chain amount).now = p.now ∧ (p.makeCapture c chain amount).store = p.store ∧
    (p.makeCapture c chain amount).swipe = p.swipe ∧ (p.makeCapture c chain amount).cards = p.cards ∧
    (p.makeCapture c chain amount).till = p.till ∧ (p.makeCapture c chain amount).composer = p.composer ∧
    (p.makeCapture c chain amount).printer = p.printer := by
  unfold Lane.makeCapture; try simp only [checked]
  all_goals ((repeat' split) <;> first | (simp; done) | simp_all)

@[simp] theorem Lane.judge_frame (c : Capture) (chain : Chain) (p : Lane) :
    (p.judge c chain).now = p.now ∧ (p.judge c chain).store = p.store ∧ (p.judge c chain).swipe = p.swipe ∧
    (p.judge c chain).cards = p.cards ∧ (p.judge c chain).till = p.till ∧
    (p.judge c chain).composer = p.composer ∧ (p.judge c chain).printer = p.printer := by
  unfold Lane.judge; try simp only [checked]
  all_goals ((repeat' split) <;> first | (simp; done) | simp_all)

@[simp] theorem Lane.captureStage_frame (chain : Chain) (p : Lane) :
    (p.captureStage chain).now = p.now ∧ (p.captureStage chain).store = p.store ∧
    (p.captureStage chain).swipe = p.swipe ∧ (p.captureStage chain).cards = p.cards ∧
    (p.captureStage chain).till = p.till ∧ (p.captureStage chain).composer = p.composer ∧
    (p.captureStage chain).printer = p.printer := by
  unfold Lane.captureStage; try simp only [checked]
  all_goals ((repeat' split) <;> first | (simp; done) | simp_all)

@[simp] theorem Lane.feedStage_frame (p : Lane) :
    p.feedStage.now = p.now ∧ p.feedStage.sale = p.sale ∧ p.feedStage.store = p.store ∧
    p.feedStage.swipe = p.swipe ∧ p.feedStage.cards = p.cards ∧ p.feedStage.till = p.till ∧
    p.feedStage.composer = p.composer ∧ p.feedStage.printer = p.printer := by
  unfold Lane.feedStage; try simp only [checked]
  all_goals ((repeat' split) <;> first | (simp; done) | simp_all)

@[simp] theorem Lane.processSample_frame (count : Int) (p : Lane) :
    (p.processSample count).now = p.now ∧ (p.processSample count).store = p.store ∧
    (p.processSample count).swipe = p.swipe ∧ (p.processSample count).cards = p.cards ∧
    (p.processSample count).till = p.till ∧ (p.processSample count).composer = p.composer ∧
    (p.processSample count).printer = p.printer := by
  unfold Lane.processSample; try simp only [checked]
  all_goals ((repeat' split) <;> first | (simp; done) | simp_all)

@[simp] theorem Lane.enterAdcFault_frame (p : Lane) :
    p.enterAdcFault.now = p.now ∧ p.enterAdcFault.sale = p.sale ∧ p.enterAdcFault.store = p.store ∧
    p.enterAdcFault.swipe = p.swipe ∧ p.enterAdcFault.cards = p.cards ∧ p.enterAdcFault.till = p.till ∧
    p.enterAdcFault.composer = p.composer ∧ p.enterAdcFault.printer = p.printer := by
  unfold Lane.enterAdcFault; try simp only [checked]
  all_goals ((repeat' split) <;> first | (simp; done) | simp_all)

@[simp] theorem Lane.samplePeriod_frame (p : Lane) :
    p.samplePeriod.link = p.link ∧ p.samplePeriod.sale = p.sale ∧ p.samplePeriod.store = p.store ∧
    p.samplePeriod.swipe = p.swipe ∧ p.samplePeriod.cards = p.cards ∧ p.samplePeriod.till = p.till ∧
    p.samplePeriod.composer = p.composer ∧ p.samplePeriod.printer = p.printer := by
  unfold Lane.samplePeriod; try simp only [checked]
  all_goals ((repeat' split) <;> first | (simp; done) | simp_all)

@[simp] theorem Lane.sample_frame (count : Int) (p : Lane) :
    (p.sample count).store = p.store ∧ (p.sample count).swipe = p.swipe ∧ (p.sample count).cards = p.cards ∧
    (p.sample count).till = p.till ∧ (p.sample count).composer = p.composer ∧
    (p.sample count).printer = p.printer := by
  unfold Lane.sample; try simp only [checked]
  all_goals ((repeat' split) <;> first | (simp; done) | simp_all)

@[simp] theorem Lane.joltExpire_frame (p : Lane) :
    p.joltExpire.link = p.link ∧ p.joltExpire.sale = p.sale ∧ p.joltExpire.store = p.store ∧
    p.joltExpire.swipe = p.swipe ∧ p.joltExpire.cards = p.cards ∧ p.joltExpire.till = p.till ∧
    p.joltExpire.composer = p.composer ∧ p.joltExpire.printer = p.printer := by
  unfold Lane.joltExpire; try simp only [checked]
  all_goals ((repeat' split) <;> first | (simp; done) | simp_all)

@[simp] theorem doZero_frame (p : Lane) :
    (doZero p).1.now = p.now ∧ (doZero p).1.link = p.link ∧ (doZero p).1.sale = p.sale ∧
    (doZero p).1.store = p.store ∧ (doZero p).1.swipe = p.swipe ∧ (doZero p).1.cards = p.cards ∧
    (doZero p).1.till = p.till ∧ (doZero p).1.composer = p.composer ∧ (doZero p).1.printer = p.printer := by
  unfold doZero; try simp only [checked]
  all_goals ((repeat' split) <;> first | (simp; done) | simp_all)

@[simp] theorem doTare_frame (p : Lane) :
    (doTare p).1.now = p.now ∧ (doTare p).1.link = p.link ∧ (doTare p).1.sale = p.sale ∧
    (doTare p).1.store = p.store ∧ (doTare p).1.swipe = p.swipe ∧ (doTare p).1.cards = p.cards ∧
    (doTare p).1.till = p.till ∧ (doTare p).1.composer = p.composer ∧ (doTare p).1.printer = p.printer := by
  unfold doTare; try simp only [checked]
  all_goals ((repeat' split) <;> first | (simp; done) | simp_all)

@[simp] theorem doTarePreset_frame (grams : Nat) (p : Lane) :
    (doTarePreset grams p).1.now = p.now ∧ (doTarePreset grams p).1.link = p.link ∧
    (doTarePreset grams p).1.sale = p.sale ∧ (doTarePreset grams p).1.store = p.store ∧
    (doTarePreset grams p).1.swipe = p.swipe ∧ (doTarePreset grams p).1.cards = p.cards ∧
    (doTarePreset grams p).1.till = p.till ∧ (doTarePreset grams p).1.composer = p.composer ∧
    (doTarePreset grams p).1.printer = p.printer := by
  unfold doTarePreset; try simp only [checked]
  all_goals ((repeat' split) <;> first | (simp; done) | simp_all)

@[simp] theorem doTareClear_frame (p : Lane) :
    (doTareClear p).1.now = p.now ∧ (doTareClear p).1.link = p.link ∧ (doTareClear p).1.sale = p.sale ∧
    (doTareClear p).1.store = p.store ∧ (doTareClear p).1.swipe = p.swipe ∧ (doTareClear p).1.cards = p.cards ∧
    (doTareClear p).1.till = p.till ∧ (doTareClear p).1.composer = p.composer ∧
    (doTareClear p).1.printer = p.printer := by
  unfold doTareClear; try simp only [checked]
  all_goals ((repeat' split) <;> first | (simp; done) | simp_all)

@[simp] theorem doScaleSetup_frame (autoClear : Byte) (tenths : Nat) (p : Lane) :
    (doScaleSetup autoClear tenths p).1.now = p.now ∧ (doScaleSetup autoClear tenths p).1.link = p.link ∧
    (doScaleSetup autoClear tenths p).1.sale = p.sale ∧ (doScaleSetup autoClear tenths p).1.store = p.store ∧
    (doScaleSetup autoClear tenths p).1.swipe = p.swipe ∧ (doScaleSetup autoClear tenths p).1.cards = p.cards ∧
    (doScaleSetup autoClear tenths p).1.till = p.till ∧
    (doScaleSetup autoClear tenths p).1.composer = p.composer ∧
    (doScaleSetup autoClear tenths p).1.printer = p.printer := by
  unfold doScaleSetup; try simp only [checked]
  all_goals ((repeat' split) <;> first | (simp; done) | simp_all)

@[simp] theorem doWeightRead_frame (p : Lane) :
    (doWeightRead p).1.now = p.now ∧ (doWeightRead p).1.link = p.link ∧ (doWeightRead p).1.sale = p.sale ∧
    (doWeightRead p).1.scale = p.scale ∧ (doWeightRead p).1.store = p.store ∧
    (doWeightRead p).1.swipe = p.swipe ∧ (doWeightRead p).1.cards = p.cards ∧
    (doWeightRead p).1.till = p.till ∧ (doWeightRead p).1.composer = p.composer ∧
    (doWeightRead p).1.printer = p.printer := by
  unfold doWeightRead; try simp only [checked]
  all_goals ((repeat' split) <;> first | (simp; done) | simp_all)

@[simp] theorem doScaleFeed_frame (setting : Byte) (p : Lane) :
    (doScaleFeed setting p).1.now = p.now ∧ (doScaleFeed setting p).1.link = p.link ∧
    (doScaleFeed setting p).1.sale = p.sale ∧ (doScaleFeed setting p).1.store = p.store ∧
    (doScaleFeed setting p).1.swipe = p.swipe ∧ (doScaleFeed setting p).1.cards = p.cards ∧
    (doScaleFeed setting p).1.till = p.till ∧ (doScaleFeed setting p).1.composer = p.composer ∧
    (doScaleFeed setting p).1.printer = p.printer := by
  unfold doScaleFeed; try simp only [checked]
  all_goals ((repeat' split) <;> first | (simp; done) | simp_all)

@[simp] theorem Lane.startCapture_frame (description : Text) (unitPrice : Int) (p : Lane) :
    (p.startCapture description unitPrice).1.now = p.now ∧
    (p.startCapture description unitPrice).1.link = p.link ∧
    (p.startCapture description unitPrice).1.sale = p.sale ∧
    (p.startCapture description unitPrice).1.store = p.store ∧
    (p.startCapture description unitPrice).1.swipe = p.swipe ∧
    (p.startCapture description unitPrice).1.cards = p.cards ∧
    (p.startCapture description unitPrice).1.till = p.till ∧
    (p.startCapture description unitPrice).1.composer = p.composer ∧
    (p.startCapture description unitPrice).1.printer = p.printer := by
  unfold Lane.startCapture; try simp only [checked]
  all_goals ((repeat' split) <;> first | (simp; done) | simp_all)

@[simp] theorem doWeigh_frame (description : Text) (unitPrice : Int) (p : Lane) :
    (doWeigh description unitPrice p).1.now = p.now ∧ (doWeigh description unitPrice p).1.link = p.link ∧
    (doWeigh description unitPrice p).1.sale = p.sale ∧ (doWeigh description unitPrice p).1.store = p.store ∧
    (doWeigh description unitPrice p).1.swipe = p.swipe ∧ (doWeigh description unitPrice p).1.cards = p.cards ∧
    (doWeigh description unitPrice p).1.till = p.till ∧
    (doWeigh description unitPrice p).1.composer = p.composer ∧
    (doWeigh description unitPrice p).1.printer = p.printer := by
  unfold doWeigh; try simp only [checked]
  all_goals ((repeat' split) <;> first | (simp; done) | simp_all)

@[simp] theorem doWeighCancel_frame (p : Lane) :
    (doWeighCancel p).1.now = p.now ∧ (doWeighCancel p).1.sale = p.sale ∧ (doWeighCancel p).1.store = p.store ∧
    (doWeighCancel p).1.swipe = p.swipe ∧ (doWeighCancel p).1.cards = p.cards ∧
    (doWeighCancel p).1.till = p.till ∧ (doWeighCancel p).1.composer = p.composer ∧
    (doWeighCancel p).1.printer = p.printer := by
  unfold doWeighCancel; try simp only [checked]
  all_goals ((repeat' split) <;> first | (simp; done) | simp_all)

@[simp] theorem Lane.captureExpire_frame (p : Lane) :
    p.captureExpire.sale = p.sale ∧ p.captureExpire.store = p.store ∧ p.captureExpire.swipe = p.swipe ∧
    p.captureExpire.cards = p.cards ∧ p.captureExpire.till = p.till ∧ p.captureExpire.composer = p.composer ∧
    p.captureExpire.printer = p.printer := by
  unfold Lane.captureExpire; try simp only [checked]
  all_goals ((repeat' split) <;> first | (simp; done) | simp_all)

/-! ## The card classifier -/

@[simp] theorem Lane.cardReadyEvent_frame (e : CardEntry) (p : Lane) :
    (p.cardReadyEvent e).now = p.now ∧ (p.cardReadyEvent e).sale = p.sale ∧
    (p.cardReadyEvent e).scale = p.scale ∧ (p.cardReadyEvent e).store = p.store ∧
    (p.cardReadyEvent e).swipe = p.swipe ∧ (p.cardReadyEvent e).cards = p.cards ∧
    (p.cardReadyEvent e).till = p.till ∧ (p.cardReadyEvent e).composer = p.composer ∧
    (p.cardReadyEvent e).printer = p.printer := by
  unfold Lane.cardReadyEvent; try simp only [checked]
  all_goals ((repeat' split) <;> first | (simp; done) | simp_all)

@[simp] theorem Lane.promote_frame (p : Lane) :
    p.promote.now = p.now ∧ p.promote.sale = p.sale ∧ p.promote.scale = p.scale ∧ p.promote.store = p.store ∧
    p.promote.swipe = p.swipe ∧ p.promote.till = p.till ∧ p.promote.composer = p.composer ∧
    p.promote.printer = p.printer := by
  unfold Lane.promote; try simp only [checked]
  all_goals ((repeat' split) <;> first | (simp; done) | simp_all)

@[simp] theorem Lane.enterTender_frame (p : Lane) :
    p.enterTender.now = p.now ∧ p.enterTender.sale = p.sale ∧ p.enterTender.scale = p.scale ∧
    p.enterTender.store = p.store ∧ p.enterTender.swipe = p.swipe ∧ p.enterTender.till = p.till ∧
    p.enterTender.composer = p.composer ∧ p.enterTender.printer = p.printer := by
  unfold Lane.enterTender; try simp only [checked]
  all_goals ((repeat' split) <;> first | (simp; done) | simp_all)

@[simp] theorem Lane.leaveTender_frame (p : Lane) :
    p.leaveTender.now = p.now ∧ p.leaveTender.sale = p.sale ∧ p.leaveTender.scale = p.scale ∧
    p.leaveTender.store = p.store ∧ p.leaveTender.swipe = p.swipe ∧ p.leaveTender.till = p.till ∧
    p.leaveTender.composer = p.composer ∧ p.leaveTender.printer = p.printer := by
  unfold Lane.leaveTender; try simp only [checked]
  all_goals ((repeat' split) <;> first | (simp; done) | simp_all)

@[simp] theorem Lane.queueCard_frame (r : SwipeResult) (i : Fin 24) (cls : CardClass) (p : Lane) :
    (p.queueCard r i cls).now = p.now ∧ (p.queueCard r i cls).sale = p.sale ∧
    (p.queueCard r i cls).scale = p.scale ∧ (p.queueCard r i cls).store = p.store ∧
    (p.queueCard r i cls).swipe = p.swipe ∧ (p.queueCard r i cls).till = p.till ∧
    (p.queueCard r i cls).composer = p.composer ∧ (p.queueCard r i cls).printer = p.printer := by
  unfold Lane.queueCard; try simp only [checked]
  all_goals ((repeat' split) <;> first | (simp; done) | simp_all)

@[simp] theorem Lane.loyaltyEvent_frame (txn : Nat) (masked : Text) (head : Head) (p : Lane) :
    (p.loyaltyEvent txn masked head).now = p.now ∧ (p.loyaltyEvent txn masked head).sale = p.sale ∧
    (p.loyaltyEvent txn masked head).scale = p.scale ∧ (p.loyaltyEvent txn masked head).store = p.store ∧
    (p.loyaltyEvent txn masked head).swipe = p.swipe ∧ (p.loyaltyEvent txn masked head).cards = p.cards ∧
    (p.loyaltyEvent txn masked head).till = p.till ∧ (p.loyaltyEvent txn masked head).composer = p.composer ∧
    (p.loyaltyEvent txn masked head).printer = p.printer := by
  unfold Lane.loyaltyEvent; try simp only [checked]
  all_goals ((repeat' split) <;> first | (simp; done) | simp_all)

@[simp] theorem Lane.takeLoyalty_frame (r : SwipeResult) (i : Fin 24) (p : Lane) :
    (p.takeLoyalty r i).now = p.now ∧ (p.takeLoyalty r i).scale = p.scale ∧
    (p.takeLoyalty r i).store = p.store ∧ (p.takeLoyalty r i).swipe = p.swipe ∧
    (p.takeLoyalty r i).till = p.till ∧ (p.takeLoyalty r i).composer = p.composer ∧
    (p.takeLoyalty r i).printer = p.printer := by
  unfold Lane.takeLoyalty; try simp only [checked]
  all_goals ((repeat' split) <;> first | (simp; done) | simp_all)

@[simp] theorem Lane.cardInvalid_frame (r : SwipeResult) (reason : Nat) (p : Lane) :
    (p.cardInvalid r reason).now = p.now ∧ (p.cardInvalid r reason).sale = p.sale ∧
    (p.cardInvalid r reason).scale = p.scale ∧ (p.cardInvalid r reason).store = p.store ∧
    (p.cardInvalid r reason).swipe = p.swipe ∧ (p.cardInvalid r reason).cards = p.cards ∧
    (p.cardInvalid r reason).till = p.till ∧ (p.cardInvalid r reason).composer = p.composer ∧
    (p.cardInvalid r reason).printer = p.printer := by
  unfold Lane.cardInvalid; try simp only [checked]
  all_goals ((repeat' split) <;> first | (simp; done) | simp_all)

@[simp] theorem Lane.takeResult_frame (r : SwipeResult) (p : Lane) :
    (p.takeResult r).now = p.now ∧ (p.takeResult r).scale = p.scale ∧ (p.takeResult r).store = p.store ∧
    (p.takeResult r).swipe = p.swipe ∧ (p.takeResult r).till = p.till ∧
    (p.takeResult r).composer = p.composer ∧ (p.takeResult r).printer = p.printer := by
  unfold Lane.takeResult; try simp only [checked]
  all_goals ((repeat' split) <;> first | (simp; done) | simp_all)

@[simp] theorem Lane.applyHeldLoyalty_frame (i : Fin 6) (p : Lane) :
    (p.applyHeldLoyalty i).now = p.now ∧ (p.applyHeldLoyalty i).scale = p.scale ∧
    (p.applyHeldLoyalty i).store = p.store ∧ (p.applyHeldLoyalty i).swipe = p.swipe ∧
    (p.applyHeldLoyalty i).till = p.till ∧ (p.applyHeldLoyalty i).composer = p.composer ∧
    (p.applyHeldLoyalty i).printer = p.printer := by
  unfold Lane.applyHeldLoyalty; try simp only [checked]
  all_goals ((repeat' split) <;> first | (simp; done) | simp_all)

@[simp] theorem Lane.expireCard_frame (h : Nat) (p : Lane) :
    (p.expireCard h).sale = p.sale ∧ (p.expireCard h).scale = p.scale ∧ (p.expireCard h).store = p.store ∧
    (p.expireCard h).swipe = p.swipe ∧ (p.expireCard h).till = p.till ∧
    (p.expireCard h).composer = p.composer ∧ (p.expireCard h).printer = p.printer := by
  unfold Lane.expireCard; try simp only [checked]
  all_goals ((repeat' split) <;> first | (simp; done) | simp_all)

@[simp] theorem doCardSetup_frame (tens : Nat) (p : Lane) :
    (doCardSetup tens p).1.now = p.now ∧ (doCardSetup tens p).1.link = p.link ∧
    (doCardSetup tens p).1.sale = p.sale ∧ (doCardSetup tens p).1.scale = p.scale ∧
    (doCardSetup tens p).1.store = p.store ∧ (doCardSetup tens p).1.swipe = p.swipe ∧
    (doCardSetup tens p).1.till = p.till ∧ (doCardSetup tens p).1.composer = p.composer ∧
    (doCardSetup tens p).1.printer = p.printer := by
  unfold doCardSetup; try simp only [checked]
  all_goals ((repeat' split) <;> first | (simp; done) | simp_all)

@[simp] theorem Lane.writeRange_frame (index : Nat) (e : RangeEntry) (p : Lane) :
    (p.writeRange index e).1.now = p.now ∧ (p.writeRange index e).1.link = p.link ∧
    (p.writeRange index e).1.sale = p.sale ∧ (p.writeRange index e).1.scale = p.scale ∧
    (p.writeRange index e).1.store = p.store ∧ (p.writeRange index e).1.swipe = p.swipe ∧
    (p.writeRange index e).1.till = p.till ∧ (p.writeRange index e).1.composer = p.composer ∧
    (p.writeRange index e).1.printer = p.printer := by
  unfold Lane.writeRange; try simp only [checked]
  all_goals ((repeat' split) <;> first | (simp; done) | simp_all)

@[simp] theorem doRangeWrite_frame (index : Nat) (entry : RangeFields) (p : Lane) :
    (doRangeWrite index entry p).1.now = p.now ∧ (doRangeWrite index entry p).1.link = p.link ∧
    (doRangeWrite index entry p).1.sale = p.sale ∧ (doRangeWrite index entry p).1.scale = p.scale ∧
    (doRangeWrite index entry p).1.store = p.store ∧ (doRangeWrite index entry p).1.swipe = p.swipe ∧
    (doRangeWrite index entry p).1.till = p.till ∧ (doRangeWrite index entry p).1.composer = p.composer ∧
    (doRangeWrite index entry p).1.printer = p.printer := by
  unfold doRangeWrite; try simp only [checked]
  all_goals ((repeat' split) <;> first | (simp; done) | simp_all)

@[simp] theorem doRangeMask_frame (positions : List Nat) (p : Lane) :
    (doRangeMask positions p).1.now = p.now ∧ (doRangeMask positions p).1.link = p.link ∧
    (doRangeMask positions p).1.sale = p.sale ∧ (doRangeMask positions p).1.scale = p.scale ∧
    (doRangeMask positions p).1.store = p.store ∧ (doRangeMask positions p).1.swipe = p.swipe ∧
    (doRangeMask positions p).1.till = p.till ∧ (doRangeMask positions p).1.composer = p.composer ∧
    (doRangeMask positions p).1.printer = p.printer := by
  unfold doRangeMask; try simp only [checked]
  all_goals ((repeat' split) <;> first | (simp; done) | simp_all)

@[simp] theorem doRangeRead_frame (index : Nat) (p : Lane) :
    (doRangeRead index p).1.now = p.now ∧ (doRangeRead index p).1.link = p.link ∧
    (doRangeRead index p).1.sale = p.sale ∧ (doRangeRead index p).1.scale = p.scale ∧
    (doRangeRead index p).1.store = p.store ∧ (doRangeRead index p).1.swipe = p.swipe ∧
    (doRangeRead index p).1.cards = p.cards ∧ (doRangeRead index p).1.till = p.till ∧
    (doRangeRead index p).1.composer = p.composer ∧ (doRangeRead index p).1.printer = p.printer := by
  unfold doRangeRead; try simp only [checked]
  all_goals ((repeat' split) <;> first | (simp; done) | simp_all)

@[simp] theorem Lane.fetchCard_frame (h : Nat) (p : Lane) :
    (p.fetchCard h).1.now = p.now ∧ (p.fetchCard h).1.link = p.link ∧ (p.fetchCard h).1.sale = p.sale ∧
    (p.fetchCard h).1.scale = p.scale ∧ (p.fetchCard h).1.store = p.store ∧ (p.fetchCard h).1.swipe = p.swipe ∧
    (p.fetchCard h).1.till = p.till ∧ (p.fetchCard h).1.composer = p.composer ∧
    (p.fetchCard h).1.printer = p.printer := by
  unfold Lane.fetchCard; try simp only [checked]
  all_goals ((repeat' split) <;> first | (simp; done) | simp_all)

@[simp] theorem doCardFetch_frame (h : Nat) (p : Lane) :
    (doCardFetch h p).1.now = p.now ∧ (doCardFetch h p).1.link = p.link ∧ (doCardFetch h p).1.sale = p.sale ∧
    (doCardFetch h p).1.scale = p.scale ∧ (doCardFetch h p).1.store = p.store ∧
    (doCardFetch h p).1.swipe = p.swipe ∧ (doCardFetch h p).1.till = p.till ∧
    (doCardFetch h p).1.composer = p.composer ∧ (doCardFetch h p).1.printer = p.printer := by
  unfold doCardFetch; try simp only [checked]
  all_goals ((repeat' split) <;> first | (simp; done) | simp_all)

@[simp] theorem doCardList_frame (p : Lane) :
    (doCardList p).1.now = p.now ∧ (doCardList p).1.link = p.link ∧ (doCardList p).1.sale = p.sale ∧
    (doCardList p).1.scale = p.scale ∧ (doCardList p).1.store = p.store ∧ (doCardList p).1.swipe = p.swipe ∧
    (doCardList p).1.cards = p.cards ∧ (doCardList p).1.till = p.till ∧
    (doCardList p).1.composer = p.composer ∧ (doCardList p).1.printer = p.printer := by
  unfold doCardList; try simp only [checked]
  all_goals ((repeat' split) <;> first | (simp; done) | simp_all)

@[simp] theorem doCardDiscard_frame (h : Nat) (p : Lane) :
    (doCardDiscard h p).1.now = p.now ∧ (doCardDiscard h p).1.sale = p.sale ∧
    (doCardDiscard h p).1.scale = p.scale ∧ (doCardDiscard h p).1.store = p.store ∧
    (doCardDiscard h p).1.swipe = p.swipe ∧ (doCardDiscard h p).1.till = p.till ∧
    (doCardDiscard h p).1.composer = p.composer ∧ (doCardDiscard h p).1.printer = p.printer := by
  unfold doCardDiscard; try simp only [checked]
  all_goals ((repeat' split) <;> first | (simp; done) | simp_all)

@[simp] theorem Lane.declineCard_frame (h : Nat) (p : Lane) :
    (p.declineCard h).1.now = p.now ∧ (p.declineCard h).1.sale = p.sale ∧ (p.declineCard h).1.scale = p.scale ∧
    (p.declineCard h).1.store = p.store ∧ (p.declineCard h).1.swipe = p.swipe ∧
    (p.declineCard h).1.till = p.till ∧ (p.declineCard h).1.composer = p.composer ∧
    (p.declineCard h).1.printer = p.printer := by
  unfold Lane.declineCard; try simp only [checked]
  all_goals ((repeat' split) <;> first | (simp; done) | simp_all)

@[simp] theorem doDeclineCard_frame (h : Nat) (p : Lane) :
    (doDeclineCard h p).1.now = p.now ∧ (doDeclineCard h p).1.sale = p.sale ∧
    (doDeclineCard h p).1.scale = p.scale ∧ (doDeclineCard h p).1.store = p.store ∧
    (doDeclineCard h p).1.swipe = p.swipe ∧ (doDeclineCard h p).1.till = p.till ∧
    (doDeclineCard h p).1.composer = p.composer ∧ (doDeclineCard h p).1.printer = p.printer := by
  unfold doDeclineCard; try simp only [checked]
  all_goals ((repeat' split) <;> first | (simp; done) | simp_all)

/-! ## The receipt composer -/

@[simp] theorem Lane.askLine_frame (j : Job) (p : Lane) :
    (p.askLine j).1.now = p.now ∧ (p.askLine j).1.link = p.link ∧ (p.askLine j).1.sale = p.sale ∧
    (p.askLine j).1.scale = p.scale ∧ (p.askLine j).1.store = p.store ∧ (p.askLine j).1.swipe = p.swipe ∧
    (p.askLine j).1.cards = p.cards ∧ (p.askLine j).1.till = p.till ∧ (p.askLine j).1.printer = p.printer := by
  unfold Lane.askLine; try simp only [checked]
  all_goals ((repeat' split) <;> first | (simp; done) | simp_all)

@[simp] theorem doHeaderSet_frame (lines : List Text) (exponent : Nat) (p : Lane) :
    (doHeaderSet lines exponent p).1.now = p.now ∧ (doHeaderSet lines exponent p).1.link = p.link ∧
    (doHeaderSet lines exponent p).1.sale = p.sale ∧ (doHeaderSet lines exponent p).1.scale = p.scale ∧
    (doHeaderSet lines exponent p).1.store = p.store ∧ (doHeaderSet lines exponent p).1.swipe = p.swipe ∧
    (doHeaderSet lines exponent p).1.cards = p.cards ∧ (doHeaderSet lines exponent p).1.till = p.till ∧
    (doHeaderSet lines exponent p).1.printer = p.printer := by
  unfold doHeaderSet; try simp only [checked]
  all_goals ((repeat' split) <;> first | (simp; done) | simp_all)

@[simp] theorem doHeaderRead_frame (p : Lane) :
    (doHeaderRead p).1.now = p.now ∧ (doHeaderRead p).1.link = p.link ∧ (doHeaderRead p).1.sale = p.sale ∧
    (doHeaderRead p).1.scale = p.scale ∧ (doHeaderRead p).1.store = p.store ∧
    (doHeaderRead p).1.swipe = p.swipe ∧ (doHeaderRead p).1.cards = p.cards ∧
    (doHeaderRead p).1.till = p.till ∧ (doHeaderRead p).1.composer = p.composer ∧
    (doHeaderRead p).1.printer = p.printer := by
  unfold doHeaderRead; try simp only [checked]
  all_goals ((repeat' split) <;> first | (simp; done) | simp_all)

/-! ## The print engine -/

@[simp] theorem Lane.pauseHead_frame (r : PauseReason) (p : Lane) :
    (p.pauseHead r).now = p.now ∧ (p.pauseHead r).sale = p.sale ∧ (p.pauseHead r).scale = p.scale ∧
    (p.pauseHead r).store = p.store ∧ (p.pauseHead r).swipe = p.swipe ∧ (p.pauseHead r).cards = p.cards ∧
    (p.pauseHead r).till = p.till ∧ (p.pauseHead r).composer = p.composer := by
  unfold Lane.pauseHead; try simp only [checked]
  all_goals ((repeat' split) <;> first | (simp; done) | simp_all)

@[simp] theorem Lane.startRow_frame (p : Lane) :
    p.startRow.now = p.now ∧ p.startRow.sale = p.sale ∧ p.startRow.scale = p.scale ∧
    p.startRow.store = p.store ∧ p.startRow.swipe = p.swipe ∧ p.startRow.cards = p.cards ∧
    p.startRow.till = p.till ∧ p.startRow.composer = p.composer := by
  unfold Lane.startRow; try simp only [checked]
  all_goals ((repeat' split) <;> first | (simp; done) | simp_all)

@[simp] theorem Lane.nextLine_frame (j : Job) (p : Lane) :
    (p.nextLine j).now = p.now ∧ (p.nextLine j).sale = p.sale ∧ (p.nextLine j).scale = p.scale ∧
    (p.nextLine j).store = p.store ∧ (p.nextLine j).swipe = p.swipe ∧ (p.nextLine j).cards = p.cards ∧
    (p.nextLine j).till = p.till := by
  have h := p.askLine_frame j
  unfold Lane.nextLine
  rcases hq : p.askLine j with ⟨q, _ | ⟨t, n⟩⟩ <;> rw [hq] at h <;> simp_all

@[simp] theorem Lane.startHead_frame (p : Lane) :
    p.startHead.now = p.now ∧ p.startHead.sale = p.sale ∧ p.startHead.scale = p.scale ∧
    p.startHead.store = p.store ∧ p.startHead.swipe = p.swipe ∧ p.startHead.cards = p.cards ∧
    p.startHead.till = p.till := by
  unfold Lane.startHead; try simp only [checked]
  all_goals ((repeat' split) <;> first | (simp; done) | simp_all)

@[simp] theorem Lane.enqueue_frame (j : Job) (p : Lane) :
    (p.enqueue j).now = p.now ∧ (p.enqueue j).link = p.link ∧ (p.enqueue j).sale = p.sale ∧
    (p.enqueue j).scale = p.scale ∧ (p.enqueue j).store = p.store ∧ (p.enqueue j).swipe = p.swipe ∧
    (p.enqueue j).cards = p.cards ∧ (p.enqueue j).till = p.till ∧ (p.enqueue j).composer = p.composer := by
  unfold Lane.enqueue; try simp only [checked]
  all_goals ((repeat' split) <;> first | (simp; done) | simp_all)

@[simp] theorem Lane.appendJob_frame (j : Job) (p : Lane) :
    (p.appendJob j).now = p.now ∧ (p.appendJob j).sale = p.sale ∧ (p.appendJob j).scale = p.scale ∧
    (p.appendJob j).store = p.store ∧ (p.appendJob j).swipe = p.swipe ∧ (p.appendJob j).cards = p.cards ∧
    (p.appendJob j).till = p.till := by
  unfold Lane.appendJob; try simp only [checked]
  all_goals ((repeat' split) <;> first | (simp; done) | simp_all)

@[simp] theorem Lane.placeJob_frame (k : JobKind) (i : Fin 6) (p : Lane) :
    (p.placeJob k i).now = p.now ∧ (p.placeJob k i).scale = p.scale ∧ (p.placeJob k i).store = p.store ∧
    (p.placeJob k i).swipe = p.swipe ∧ (p.placeJob k i).cards = p.cards ∧ (p.placeJob k i).till = p.till := by
  unfold Lane.placeJob; try simp only [checked]
  all_goals ((repeat' split) <;> first | (simp; done) | simp_all)

@[simp] theorem Lane.freePlace_frame (p : Lane) :
    p.freePlace.now = p.now ∧ p.freePlace.link = p.link ∧ p.freePlace.scale = p.scale ∧
    p.freePlace.store = p.store ∧ p.freePlace.swipe = p.swipe ∧ p.freePlace.cards = p.cards ∧
    p.freePlace.till = p.till ∧ p.freePlace.composer = p.composer := by
  unfold Lane.freePlace; try simp only [checked]
  all_goals ((repeat' split) <;> first | (simp; done) | simp_all)

@[simp] theorem Lane.retireLastPrinted_frame (p : Lane) :
    p.retireLastPrinted.now = p.now ∧ p.retireLastPrinted.link = p.link ∧ p.retireLastPrinted.scale = p.scale ∧
    p.retireLastPrinted.store = p.store ∧ p.retireLastPrinted.swipe = p.swipe ∧
    p.retireLastPrinted.cards = p.cards ∧ p.retireLastPrinted.till = p.till ∧
    p.retireLastPrinted.composer = p.composer ∧ p.retireLastPrinted.printer = p.printer := by
  unfold Lane.retireLastPrinted; try simp only [checked]
  all_goals ((repeat' split) <;> first | (simp; done) | simp_all)

@[simp] theorem Lane.receiptEnd_frame (i : Fin 6) (p : Lane) :
    (p.receiptEnd i).now = p.now ∧ (p.receiptEnd i).link = p.link ∧ (p.receiptEnd i).scale = p.scale ∧
    (p.receiptEnd i).store = p.store ∧ (p.receiptEnd i).swipe = p.swipe ∧ (p.receiptEnd i).cards = p.cards ∧
    (p.receiptEnd i).till = p.till ∧ (p.receiptEnd i).composer = p.composer ∧
    (p.receiptEnd i).printer = p.printer := by
  unfold Lane.receiptEnd; try simp only [checked]
  all_goals ((repeat' split) <;> first | (simp; done) | simp_all)

@[simp] theorem Lane.copyEnd_frame (i : Fin 6) (p : Lane) :
    (p.copyEnd i).now = p.now ∧ (p.copyEnd i).link = p.link ∧ (p.copyEnd i).scale = p.scale ∧
    (p.copyEnd i).store = p.store ∧ (p.copyEnd i).swipe = p.swipe ∧ (p.copyEnd i).cards = p.cards ∧
    (p.copyEnd i).till = p.till ∧ (p.copyEnd i).composer = p.composer ∧ (p.copyEnd i).printer = p.printer := by
  unfold Lane.copyEnd; try simp only [checked]
  all_goals ((repeat' split) <;> first | (simp; done) | simp_all)

@[simp] theorem Lane.jobReport_frame (j : Job) (p : Lane) :
    (p.jobReport j).now = p.now ∧ (p.jobReport j).link = p.link ∧ (p.jobReport j).scale = p.scale ∧
    (p.jobReport j).store = p.store ∧ (p.jobReport j).swipe = p.swipe ∧ (p.jobReport j).cards = p.cards ∧
    (p.jobReport j).till = p.till ∧ (p.jobReport j).composer = p.composer := by
  unfold Lane.jobReport; try simp only [checked]
  all_goals ((repeat' split) <;> first | (simp; done) | simp_all)

@[simp] theorem Lane.printDone_frame (j : Job) (lines : Nat) (p : Lane) :
    (p.printDone j lines).now = p.now ∧ (p.printDone j lines).sale = p.sale ∧
    (p.printDone j lines).scale = p.scale ∧ (p.printDone j lines).store = p.store ∧
    (p.printDone j lines).swipe = p.swipe ∧ (p.printDone j lines).cards = p.cards ∧
    (p.printDone j lines).till = p.till ∧ (p.printDone j lines).composer = p.composer ∧
    (p.printDone j lines).printer = p.printer := by
  unfold Lane.printDone; try simp only [checked]
  all_goals ((repeat' split) <;> first | (simp; done) | simp_all)

@[simp] theorem Lane.printAborted_frame (j : Job) (lines : Nat) (p : Lane) :
    (p.printAborted j lines).now = p.now ∧ (p.printAborted j lines).sale = p.sale ∧
    (p.printAborted j lines).scale = p.scale ∧ (p.printAborted j lines).store = p.store ∧
    (p.printAborted j lines).swipe = p.swipe ∧ (p.printAborted j lines).cards = p.cards ∧
    (p.printAborted j lines).till = p.till ∧ (p.printAborted j lines).composer = p.composer ∧
    (p.printAborted j lines).printer = p.printer := by
  unfold Lane.printAborted; try simp only [checked]
  all_goals ((repeat' split) <;> first | (simp; done) | simp_all)

@[simp] theorem Lane.jobEnd_frame (p : Lane) :
    p.jobEnd.now = p.now ∧ p.jobEnd.scale = p.scale ∧ p.jobEnd.store = p.store ∧ p.jobEnd.swipe = p.swipe ∧
    p.jobEnd.cards = p.cards ∧ p.jobEnd.till = p.till := by
  unfold Lane.jobEnd; try simp only [checked]
  all_goals ((repeat' split) <;> first | (simp; done) | simp_all)

@[simp] theorem Lane.startCut_frame (p : Lane) :
    p.startCut.now = p.now ∧ p.startCut.sale = p.sale ∧ p.startCut.scale = p.scale ∧
    p.startCut.store = p.store ∧ p.startCut.swipe = p.swipe ∧ p.startCut.cards = p.cards ∧
    p.startCut.till = p.till ∧ p.startCut.composer = p.composer := by
  unfold Lane.startCut; try simp only [checked]
  all_goals ((repeat' split) <;> first | (simp; done) | simp_all)

@[simp] theorem Lane.jobRowEnd_frame (p : Lane) :
    p.jobRowEnd.now = p.now ∧ p.jobRowEnd.sale = p.sale ∧ p.jobRowEnd.scale = p.scale ∧
    p.jobRowEnd.store = p.store ∧ p.jobRowEnd.swipe = p.swipe ∧ p.jobRowEnd.cards = p.cards ∧
    p.jobRowEnd.till = p.till := by
  unfold Lane.jobRowEnd; try simp only [checked]
  all_goals ((repeat' split) <;> first | (simp; done) | simp_all)

@[simp] theorem Lane.feedEnd_frame (fed : Nat) (stopped : Option PauseReason) (p : Lane) :
    (p.feedEnd fed stopped).now = p.now ∧ (p.feedEnd fed stopped).sale = p.sale ∧
    (p.feedEnd fed stopped).scale = p.scale ∧ (p.feedEnd fed stopped).store = p.store ∧
    (p.feedEnd fed stopped).swipe = p.swipe ∧ (p.feedEnd fed stopped).cards = p.cards ∧
    (p.feedEnd fed stopped).till = p.till := by
  unfold Lane.feedEnd; try simp only [checked]
  all_goals ((repeat' split) <;> first | (simp; done) | simp_all)

@[simp] theorem Lane.feedRowEnd_frame (f : Feed) (p : Lane) :
    (p.feedRowEnd f).now = p.now ∧ (p.feedRowEnd f).sale = p.sale ∧ (p.feedRowEnd f).scale = p.scale ∧
    (p.feedRowEnd f).store = p.store ∧ (p.feedRowEnd f).swipe = p.swipe ∧ (p.feedRowEnd f).cards = p.cards ∧
    (p.feedRowEnd f).till = p.till := by
  unfold Lane.feedRowEnd; try simp only [checked]
  all_goals ((repeat' split) <;> first | (simp; done) | simp_all)

@[simp] theorem Lane.drained_frame (p : Lane) :
    p.drained.now = p.now ∧ p.drained.sale = p.sale ∧ p.drained.scale = p.scale ∧ p.drained.store = p.store ∧
    p.drained.swipe = p.swipe ∧ p.drained.cards = p.cards ∧ p.drained.till = p.till := by
  unfold Lane.drained; try simp only [checked]
  all_goals ((repeat' split) <;> first | (simp; done) | simp_all)

@[simp] theorem Lane.rowEnd_frame (p : Lane) :
    p.rowEnd.sale = p.sale ∧ p.rowEnd.scale = p.scale ∧ p.rowEnd.store = p.store ∧ p.rowEnd.swipe = p.swipe ∧
    p.rowEnd.cards = p.cards ∧ p.rowEnd.till = p.till := by
  unfold Lane.rowEnd; try simp only [checked]
  all_goals ((repeat' split) <;> first | (simp; done) | simp_all)

@[simp] theorem Lane.cutEnd_frame (p : Lane) :
    p.cutEnd.scale = p.scale ∧ p.cutEnd.store = p.store ∧ p.cutEnd.swipe = p.swipe ∧ p.cutEnd.cards = p.cards ∧
    p.cutEnd.till = p.till := by
  unfold Lane.cutEnd; try simp only [checked]
  all_goals ((repeat' split) <;> first | (simp; done) | simp_all)

@[simp] theorem Lane.endPause_frame (cause : Nat) (p : Lane) :
    (p.endPause cause).now = p.now ∧ (p.endPause cause).sale = p.sale ∧ (p.endPause cause).scale = p.scale ∧
    (p.endPause cause).store = p.store ∧ (p.endPause cause).swipe = p.swipe ∧
    (p.endPause cause).cards = p.cards ∧ (p.endPause cause).till = p.till ∧
    (p.endPause cause).composer = p.composer := by
  unfold Lane.endPause; try simp only [checked]
  all_goals ((repeat' split) <;> first | (simp; done) | simp_all)

@[simp] theorem Lane.restartHead_frame (p : Lane) :
    p.restartHead.now = p.now ∧ p.restartHead.sale = p.sale ∧ p.restartHead.scale = p.scale ∧
    p.restartHead.store = p.store ∧ p.restartHead.swipe = p.swipe ∧ p.restartHead.cards = p.cards ∧
    p.restartHead.till = p.till ∧ p.restartHead.composer = p.composer := by
  unfold Lane.restartHead; try simp only [checked]
  all_goals ((repeat' split) <;> first | (simp; done) | simp_all)

@[simp] theorem Lane.temperatureReading_frame (t : Int) (p : Lane) :
    (p.temperatureReading t).sale = p.sale ∧ (p.temperatureReading t).scale = p.scale ∧
    (p.temperatureReading t).store = p.store ∧ (p.temperatureReading t).swipe = p.swipe ∧
    (p.temperatureReading t).cards = p.cards ∧ (p.temperatureReading t).till = p.till ∧
    (p.temperatureReading t).composer = p.composer := by
  unfold Lane.temperatureReading; try simp only [checked]
  all_goals ((repeat' split) <;> first | (simp; done) | simp_all)

@[simp] theorem Lane.printerInput_frame (i : PrinterInput) (p : Lane) :
    (p.printerInput i).now = p.now ∧ (p.printerInput i).sale = p.sale ∧ (p.printerInput i).scale = p.scale ∧
    (p.printerInput i).store = p.store ∧ (p.printerInput i).swipe = p.swipe ∧
    (p.printerInput i).cards = p.cards ∧ (p.printerInput i).till = p.till ∧
    (p.printerInput i).composer = p.composer := by
  unfold Lane.printerInput; try simp only [checked]
  all_goals ((repeat' split) <;> first | (simp; done) | simp_all)

@[simp] theorem Lane.resumePrint_frame (p : Lane) :
    (p.resumePrint).1.now = p.now ∧ (p.resumePrint).1.sale = p.sale ∧ (p.resumePrint).1.scale = p.scale ∧
    (p.resumePrint).1.store = p.store ∧ (p.resumePrint).1.swipe = p.swipe ∧ (p.resumePrint).1.cards = p.cards ∧
    (p.resumePrint).1.till = p.till ∧ (p.resumePrint).1.composer = p.composer := by
  unfold Lane.resumePrint; try simp only [checked]
  all_goals ((repeat' split) <;> first | (simp; done) | simp_all)

@[simp] theorem doPrintResume_frame (p : Lane) :
    (doPrintResume p).1.now = p.now ∧ (doPrintResume p).1.sale = p.sale ∧ (doPrintResume p).1.scale = p.scale ∧
    (doPrintResume p).1.store = p.store ∧ (doPrintResume p).1.swipe = p.swipe ∧
    (doPrintResume p).1.cards = p.cards ∧ (doPrintResume p).1.till = p.till ∧
    (doPrintResume p).1.composer = p.composer := by
  unfold doPrintResume; try simp only [checked]
  all_goals ((repeat' split) <;> first | (simp; done) | simp_all)

@[simp] theorem Lane.printRestart_frame (p : Lane) :
    p.printRestart.now = p.now ∧ p.printRestart.sale = p.sale ∧ p.printRestart.scale = p.scale ∧
    p.printRestart.store = p.store ∧ p.printRestart.swipe = p.swipe ∧ p.printRestart.cards = p.cards ∧
    p.printRestart.till = p.till ∧ p.printRestart.composer = p.composer := by
  unfold Lane.printRestart; try simp only [checked]
  all_goals ((repeat' split) <;> first | (simp; done) | simp_all)

@[simp] theorem Lane.removeSlip_frame (j : Job) (p : Lane) :
    (p.removeSlip j).now = p.now ∧ (p.removeSlip j).link = p.link ∧ (p.removeSlip j).sale = p.sale ∧
    (p.removeSlip j).scale = p.scale ∧ (p.removeSlip j).store = p.store ∧ (p.removeSlip j).swipe = p.swipe ∧
    (p.removeSlip j).cards = p.cards ∧ (p.removeSlip j).till = p.till := by
  unfold Lane.removeSlip; try simp only [checked]
  all_goals ((repeat' split) <;> first | (simp; done) | simp_all)

@[simp] theorem Lane.afterRemoval_frame (j : Job) (p : Lane) :
    (p.afterRemoval j).now = p.now ∧ (p.afterRemoval j).sale = p.sale ∧ (p.afterRemoval j).scale = p.scale ∧
    (p.afterRemoval j).store = p.store ∧ (p.afterRemoval j).swipe = p.swipe ∧
    (p.afterRemoval j).cards = p.cards ∧ (p.afterRemoval j).till = p.till := by
  unfold Lane.afterRemoval; try simp only [checked]
  all_goals ((repeat' split) <;> first | (simp; done) | simp_all)

@[simp] theorem Lane.abortSlip_frame (p : Lane) :
    (p.abortSlip).1.now = p.now ∧ (p.abortSlip).1.scale = p.scale ∧ (p.abortSlip).1.store = p.store ∧
    (p.abortSlip).1.swipe = p.swipe ∧ (p.abortSlip).1.cards = p.cards ∧ (p.abortSlip).1.till = p.till := by
  unfold Lane.abortSlip; try simp only [checked]
  all_goals ((repeat' split) <;> first | (simp; done) | simp_all)

@[simp] theorem doPrintAbort_frame (p : Lane) :
    (doPrintAbort p).1.now = p.now ∧ (doPrintAbort p).1.scale = p.scale ∧ (doPrintAbort p).1.store = p.store ∧
    (doPrintAbort p).1.swipe = p.swipe ∧ (doPrintAbort p).1.cards = p.cards ∧ (doPrintAbort p).1.till = p.till := by
  unfold doPrintAbort; try simp only [checked]
  all_goals ((repeat' split) <;> first | (simp; done) | simp_all)

@[simp] theorem doFeed_frame (rows : Nat) (p : Lane) :
    (doFeed rows p).1.now = p.now ∧ (doFeed rows p).1.link = p.link ∧ (doFeed rows p).1.sale = p.sale ∧
    (doFeed rows p).1.scale = p.scale ∧ (doFeed rows p).1.store = p.store ∧ (doFeed rows p).1.swipe = p.swipe ∧
    (doFeed rows p).1.cards = p.cards ∧ (doFeed rows p).1.till = p.till ∧
    (doFeed rows p).1.composer = p.composer := by
  unfold doFeed; try simp only [checked]
  all_goals ((repeat' split) <;> first | (simp; done) | simp_all)

@[simp] theorem doPrintStatus_frame (p : Lane) :
    (doPrintStatus p).1.now = p.now ∧ (doPrintStatus p).1.link = p.link ∧ (doPrintStatus p).1.sale = p.sale ∧
    (doPrintStatus p).1.scale = p.scale ∧ (doPrintStatus p).1.store = p.store ∧
    (doPrintStatus p).1.swipe = p.swipe ∧ (doPrintStatus p).1.cards = p.cards ∧
    (doPrintStatus p).1.till = p.till ∧ (doPrintStatus p).1.composer = p.composer ∧
    (doPrintStatus p).1.printer = p.printer := by
  unfold doPrintStatus; try simp only [checked]
  all_goals ((repeat' split) <;> first | (simp; done) | simp_all)

@[simp] theorem Lane.reprint_frame (p : Lane) :
    (p.reprint).1.now = p.now ∧ (p.reprint).1.scale = p.scale ∧ (p.reprint).1.store = p.store ∧
    (p.reprint).1.swipe = p.swipe ∧ (p.reprint).1.cards = p.cards ∧ (p.reprint).1.till = p.till := by
  unfold Lane.reprint; try simp only [checked]
  all_goals ((repeat' split) <;> first | (simp; done) | simp_all)

@[simp] theorem doReprint_frame (p : Lane) :
    (doReprint p).1.now = p.now ∧ (doReprint p).1.scale = p.scale ∧ (doReprint p).1.store = p.store ∧
    (doReprint p).1.swipe = p.swipe ∧ (doReprint p).1.cards = p.cards ∧ (doReprint p).1.till = p.till := by
  unfold doReprint; try simp only [checked]
  all_goals ((repeat' split) <;> first | (simp; done) | simp_all)

@[simp] theorem doSlip_frame (lines : List Text) (p : Lane) :
    (doSlip lines p).1.now = p.now ∧ (doSlip lines p).1.sale = p.sale ∧ (doSlip lines p).1.scale = p.scale ∧
    (doSlip lines p).1.store = p.store ∧ (doSlip lines p).1.swipe = p.swipe ∧
    (doSlip lines p).1.cards = p.cards ∧ (doSlip lines p).1.till = p.till := by
  unfold doSlip; try simp only [checked]
  all_goals ((repeat' split) <;> first | (simp; done) | simp_all)

/-! ## The till controller -/

@[simp] theorem Lane.enterOpen_frame (d : Drawer) (p : Lane) :
    (p.enterOpen d).now = p.now ∧ (p.enterOpen d).link = p.link ∧ (p.enterOpen d).sale = p.sale ∧
    (p.enterOpen d).scale = p.scale ∧ (p.enterOpen d).store = p.store ∧ (p.enterOpen d).swipe = p.swipe ∧
    (p.enterOpen d).cards = p.cards ∧ (p.enterOpen d).composer = p.composer ∧
    (p.enterOpen d).printer = p.printer := by
  unfold Lane.enterOpen; try simp only [checked]
  all_goals ((repeat' split) <;> first | (simp; done) | simp_all)

@[simp] theorem Lane.settleDrawer_frame (d : Drawer) (p : Lane) :
    (p.settleDrawer d).now = p.now ∧ (p.settleDrawer d).link = p.link ∧ (p.settleDrawer d).sale = p.sale ∧
    (p.settleDrawer d).scale = p.scale ∧ (p.settleDrawer d).store = p.store ∧
    (p.settleDrawer d).swipe = p.swipe ∧ (p.settleDrawer d).cards = p.cards ∧
    (p.settleDrawer d).composer = p.composer ∧ (p.settleDrawer d).printer = p.printer := by
  unfold Lane.settleDrawer; try simp only [checked]
  all_goals ((repeat' split) <;> first | (simp; done) | simp_all)

@[simp] theorem Lane.presenceEvent_frame (d : Drawer) (l : TrayLevel) (p : Lane) :
    (p.presenceEvent d l).now = p.now ∧ (p.presenceEvent d l).sale = p.sale ∧
    (p.presenceEvent d l).scale = p.scale ∧ (p.presenceEvent d l).store = p.store ∧
    (p.presenceEvent d l).swipe = p.swipe ∧ (p.presenceEvent d l).cards = p.cards ∧
    (p.presenceEvent d l).till = p.till ∧ (p.presenceEvent d l).composer = p.composer ∧
    (p.presenceEvent d l).printer = p.printer := by
  unfold Lane.presenceEvent; try simp only [checked]
  all_goals ((repeat' split) <;> first | (simp; done) | simp_all)

@[simp] theorem Lane.forcedEvent_frame (d : Drawer) (p : Lane) :
    (p.forcedEvent d).now = p.now ∧ (p.forcedEvent d).sale = p.sale ∧ (p.forcedEvent d).scale = p.scale ∧
    (p.forcedEvent d).store = p.store ∧ (p.forcedEvent d).swipe = p.swipe ∧ (p.forcedEvent d).cards = p.cards ∧
    (p.forcedEvent d).till = p.till ∧ (p.forcedEvent d).composer = p.composer ∧
    (p.forcedEvent d).printer = p.printer := by
  unfold Lane.forcedEvent; try simp only [checked]
  all_goals ((repeat' split) <;> first | (simp; done) | simp_all)

@[simp] theorem Lane.closeDrawer_frame (d : Drawer) (p : Lane) :
    (p.closeDrawer d).now = p.now ∧ (p.closeDrawer d).sale = p.sale ∧ (p.closeDrawer d).scale = p.scale ∧
    (p.closeDrawer d).store = p.store ∧ (p.closeDrawer d).swipe = p.swipe ∧ (p.closeDrawer d).cards = p.cards ∧
    (p.closeDrawer d).composer = p.composer ∧ (p.closeDrawer d).printer = p.printer := by
  unfold Lane.closeDrawer; try simp only [checked]
  all_goals ((repeat' split) <;> first | (simp; done) | simp_all)

@[simp] theorem Lane.openTooLong_frame (d : Drawer) (p : Lane) :
    (p.openTooLong d).now = p.now ∧ (p.openTooLong d).sale = p.sale ∧ (p.openTooLong d).scale = p.scale ∧
    (p.openTooLong d).store = p.store ∧ (p.openTooLong d).swipe = p.swipe ∧ (p.openTooLong d).cards = p.cards ∧
    (p.openTooLong d).composer = p.composer ∧ (p.openTooLong d).printer = p.printer := by
  unfold Lane.openTooLong; try simp only [checked]
  all_goals ((repeat' split) <;> first | (simp; done) | simp_all)

@[simp] theorem Lane.startPulse_frame (d : Drawer) (p : Lane) :
    (p.startPulse d).now = p.now ∧ (p.startPulse d).link = p.link ∧ (p.startPulse d).sale = p.sale ∧
    (p.startPulse d).scale = p.scale ∧ (p.startPulse d).store = p.store ∧ (p.startPulse d).swipe = p.swipe ∧
    (p.startPulse d).cards = p.cards ∧ (p.startPulse d).composer = p.composer ∧
    (p.startPulse d).printer = p.printer := by
  unfold Lane.startPulse; try simp only [checked]
  all_goals ((repeat' split) <;> first | (simp; done) | simp_all)

@[simp] theorem Lane.acceptKick_frame (basis : KickBasis) (requester : Requester) (d : Drawer) (p : Lane) :
    (p.acceptKick basis requester d).now = p.now ∧ (p.acceptKick basis requester d).link = p.link ∧
    (p.acceptKick basis requester d).sale = p.sale ∧ (p.acceptKick basis requester d).scale = p.scale ∧
    (p.acceptKick basis requester d).store = p.store ∧ (p.acceptKick basis requester d).swipe = p.swipe ∧
    (p.acceptKick basis requester d).cards = p.cards ∧ (p.acceptKick basis requester d).composer = p.composer ∧
    (p.acceptKick basis requester d).printer = p.printer := by
  unfold Lane.acceptKick; try simp only [checked]
  all_goals ((repeat' split) <;> first | (simp; done) | simp_all)

@[simp] theorem Lane.releaseSolenoid_frame (p : Lane) :
    p.releaseSolenoid.now = p.now ∧ p.releaseSolenoid.link = p.link ∧ p.releaseSolenoid.sale = p.sale ∧
    p.releaseSolenoid.store = p.store ∧ p.releaseSolenoid.swipe = p.swipe ∧ p.releaseSolenoid.cards = p.cards ∧
    p.releaseSolenoid.composer = p.composer ∧ p.releaseSolenoid.printer = p.printer := by
  unfold Lane.releaseSolenoid; try simp only [checked]
  all_goals ((repeat' split) <;> first | (simp; done) | simp_all)

@[simp] theorem Lane.writeDrive_frame (g : Driving) (c : DriveCurrent) (p : Lane) :
    (p.writeDrive g c).now = p.now ∧ (p.writeDrive g c).link = p.link ∧ (p.writeDrive g c).sale = p.sale ∧
    (p.writeDrive g c).scale = p.scale ∧ (p.writeDrive g c).store = p.store ∧
    (p.writeDrive g c).swipe = p.swipe ∧ (p.writeDrive g c).cards = p.cards ∧
    (p.writeDrive g c).composer = p.composer ∧ (p.writeDrive g c).printer = p.printer := by
  unfold Lane.writeDrive; try simp only [checked]
  all_goals ((repeat' split) <;> first | (simp; done) | simp_all)

@[simp] theorem Lane.drawerDone_frame (d : Drawer) (k : Kick) (o : KickOutcome) (pulsed : Bool) (p : Lane) :
    (p.drawerDone d k o pulsed).now = p.now ∧ (p.drawerDone d k o pulsed).sale = p.sale ∧
    (p.drawerDone d k o pulsed).scale = p.scale ∧ (p.drawerDone d k o pulsed).store = p.store ∧
    (p.drawerDone d k o pulsed).swipe = p.swipe ∧ (p.drawerDone d k o pulsed).cards = p.cards ∧
    (p.drawerDone d k o pulsed).till = p.till ∧ (p.drawerDone d k o pulsed).composer = p.composer ∧
    (p.drawerDone d k o pulsed).printer = p.printer := by
  unfold Lane.drawerDone; try simp only [checked]
  all_goals ((repeat' split) <;> first | (simp; done) | simp_all)

@[simp] theorem Lane.reportKick_frame (d : Drawer) (k : Option Kick) (o : KickOutcome) (pulsed : Bool) (p : Lane) :
    (p.reportKick d k o pulsed).now = p.now ∧ (p.reportKick d k o pulsed).sale = p.sale ∧
    (p.reportKick d k o pulsed).scale = p.scale ∧ (p.reportKick d k o pulsed).store = p.store ∧
    (p.reportKick d k o pulsed).swipe = p.swipe ∧ (p.reportKick d k o pulsed).cards = p.cards ∧
    (p.reportKick d k o pulsed).till = p.till ∧ (p.reportKick d k o pulsed).composer = p.composer ∧
    (p.reportKick d k o pulsed).printer = p.printer := by
  unfold Lane.reportKick; try simp only [checked]
  all_goals ((repeat' split) <;> first | (simp; done) | simp_all)

@[simp] theorem Lane.kickOpened_frame (d : Drawer) (p : Lane) :
    (p.kickOpened d).now = p.now ∧ (p.kickOpened d).sale = p.sale ∧ (p.kickOpened d).scale = p.scale ∧
    (p.kickOpened d).store = p.store ∧ (p.kickOpened d).swipe = p.swipe ∧ (p.kickOpened d).cards = p.cards ∧
    (p.kickOpened d).composer = p.composer ∧ (p.kickOpened d).printer = p.printer := by
  unfold Lane.kickOpened; try simp only [checked]
  all_goals ((repeat' split) <;> first | (simp; done) | simp_all)

@[simp] theorem Lane.pulseEnd_frame (p : Lane) :
    p.pulseEnd.sale = p.sale ∧ p.pulseEnd.store = p.store ∧ p.pulseEnd.swipe = p.swipe ∧
    p.pulseEnd.cards = p.cards ∧ p.pulseEnd.composer = p.composer ∧ p.pulseEnd.printer = p.printer := by
  unfold Lane.pulseEnd; try simp only [checked]
  all_goals ((repeat' split) <;> first | (simp; done) | simp_all)

@[simp] theorem Lane.currentFault_frame (f : CurrentFault) (p : Lane) :
    (p.currentFault f).sale = p.sale ∧ (p.currentFault f).store = p.store ∧
    (p.currentFault f).swipe = p.swipe ∧ (p.currentFault f).cards = p.cards ∧
    (p.currentFault f).composer = p.composer ∧ (p.currentFault f).printer = p.printer := by
  unfold Lane.currentFault; try simp only [checked]
  all_goals ((repeat' split) <;> first | (simp; done) | simp_all)

@[simp] theorem Lane.confirmExpire_frame (d : Drawer) (p : Lane) :
    (p.confirmExpire d).sale = p.sale ∧ (p.confirmExpire d).scale = p.scale ∧
    (p.confirmExpire d).store = p.store ∧ (p.confirmExpire d).swipe = p.swipe ∧
    (p.confirmExpire d).cards = p.cards ∧ (p.confirmExpire d).composer = p.composer ∧
    (p.confirmExpire d).printer = p.printer := by
  unfold Lane.confirmExpire; try simp only [checked]
  all_goals ((repeat' split) <;> first | (simp; done) | simp_all)

@[simp] theorem Lane.alarmExpire_frame (d : Drawer) (p : Lane) :
    (p.alarmExpire d).sale = p.sale ∧ (p.alarmExpire d).scale = p.scale ∧ (p.alarmExpire d).store = p.store ∧
    (p.alarmExpire d).swipe = p.swipe ∧ (p.alarmExpire d).cards = p.cards ∧
    (p.alarmExpire d).composer = p.composer ∧ (p.alarmExpire d).printer = p.printer := by
  unfold Lane.alarmExpire; try simp only [checked]
  all_goals ((repeat' split) <;> first | (simp; done) | simp_all)

@[simp] theorem Lane.setTray_frame (d : Drawer) (l : TrayLevel) (p : Lane) :
    (p.setTray d l).now = p.now ∧ (p.setTray d l).link = p.link ∧ (p.setTray d l).sale = p.sale ∧
    (p.setTray d l).scale = p.scale ∧ (p.setTray d l).store = p.store ∧ (p.setTray d l).swipe = p.swipe ∧
    (p.setTray d l).cards = p.cards ∧ (p.setTray d l).composer = p.composer ∧
    (p.setTray d l).printer = p.printer := by
  unfold Lane.setTray; try simp only [checked]
  all_goals ((repeat' split) <;> first | (simp; done) | simp_all)

@[simp] theorem Lane.setClosed_frame (d : Drawer) (l : ClosedLevel) (p : Lane) :
    (p.setClosed d l).now = p.now ∧ (p.setClosed d l).link = p.link ∧ (p.setClosed d l).sale = p.sale ∧
    (p.setClosed d l).scale = p.scale ∧ (p.setClosed d l).store = p.store ∧ (p.setClosed d l).swipe = p.swipe ∧
    (p.setClosed d l).cards = p.cards ∧ (p.setClosed d l).composer = p.composer ∧
    (p.setClosed d l).printer = p.printer := by
  unfold Lane.setClosed; try simp only [checked]
  all_goals ((repeat' split) <;> first | (simp; done) | simp_all)

@[simp] theorem Lane.becomeAbsent_frame (d : Drawer) (pulsed : Bool) (p : Lane) :
    (p.becomeAbsent d pulsed).now = p.now ∧ (p.becomeAbsent d pulsed).sale = p.sale ∧
    (p.becomeAbsent d pulsed).scale = p.scale ∧ (p.becomeAbsent d pulsed).store = p.store ∧
    (p.becomeAbsent d pulsed).swipe = p.swipe ∧ (p.becomeAbsent d pulsed).cards = p.cards ∧
    (p.becomeAbsent d pulsed).composer = p.composer ∧ (p.becomeAbsent d pulsed).printer = p.printer := by
  unfold Lane.becomeAbsent; try simp only [checked]
  all_goals ((repeat' split) <;> first | (simp; done) | simp_all)

@[simp] theorem Lane.cutPulse_frame (p : Lane) :
    p.cutPulse.now = p.now ∧ p.cutPulse.link = p.link ∧ p.cutPulse.sale = p.sale ∧ p.cutPulse.store = p.store ∧
    p.cutPulse.swipe = p.swipe ∧ p.cutPulse.cards = p.cards ∧ p.cutPulse.composer = p.composer ∧
    p.cutPulse.printer = p.printer := by
  unfold Lane.cutPulse; try simp only [checked]
  all_goals ((repeat' split) <;> first | (simp; done) | simp_all)

@[simp] theorem Lane.trayRemoved_frame (d : Drawer) (p : Lane) :
    (p.trayRemoved d).now = p.now ∧ (p.trayRemoved d).sale = p.sale ∧ (p.trayRemoved d).store = p.store ∧
    (p.trayRemoved d).swipe = p.swipe ∧ (p.trayRemoved d).cards = p.cards ∧
    (p.trayRemoved d).composer = p.composer ∧ (p.trayRemoved d).printer = p.printer := by
  unfold Lane.trayRemoved; try simp only [checked]
  all_goals ((repeat' split) <;> first | (simp; done) | simp_all)

@[simp] theorem Lane.trayInserted_frame (d : Drawer) (p : Lane) :
    (p.trayInserted d).now = p.now ∧ (p.trayInserted d).sale = p.sale ∧ (p.trayInserted d).scale = p.scale ∧
    (p.trayInserted d).store = p.store ∧ (p.trayInserted d).swipe = p.swipe ∧
    (p.trayInserted d).cards = p.cards ∧ (p.trayInserted d).composer = p.composer ∧
    (p.trayInserted d).printer = p.printer := by
  unfold Lane.trayInserted; try simp only [checked]
  all_goals ((repeat' split) <;> first | (simp; done) | simp_all)

@[simp] theorem Lane.closedOpens_frame (d : Drawer) (p : Lane) :
    (p.closedOpens d).now = p.now ∧ (p.closedOpens d).sale = p.sale ∧ (p.closedOpens d).scale = p.scale ∧
    (p.closedOpens d).store = p.store ∧ (p.closedOpens d).swipe = p.swipe ∧ (p.closedOpens d).cards = p.cards ∧
    (p.closedOpens d).composer = p.composer ∧ (p.closedOpens d).printer = p.printer := by
  unfold Lane.closedOpens; try simp only [checked]
  all_goals ((repeat' split) <;> first | (simp; done) | simp_all)

@[simp] theorem Lane.closedCloses_frame (d : Drawer) (p : Lane) :
    (p.closedCloses d).now = p.now ∧ (p.closedCloses d).sale = p.sale ∧ (p.closedCloses d).scale = p.scale ∧
    (p.closedCloses d).store = p.store ∧ (p.closedCloses d).swipe = p.swipe ∧
    (p.closedCloses d).cards = p.cards ∧ (p.closedCloses d).composer = p.composer ∧
    (p.closedCloses d).printer = p.printer := by
  unfold Lane.closedCloses; try simp only [checked]
  all_goals ((repeat' split) <;> first | (simp; done) | simp_all)

@[simp] theorem Lane.keyChange_frame (k : KeyPosition) (p : Lane) :
    (p.keyChange k).now = p.now ∧ (p.keyChange k).sale = p.sale ∧ (p.keyChange k).scale = p.scale ∧
    (p.keyChange k).store = p.store ∧ (p.keyChange k).swipe = p.swipe ∧ (p.keyChange k).cards = p.cards ∧
    (p.keyChange k).composer = p.composer ∧ (p.keyChange k).printer = p.printer := by
  unfold Lane.keyChange; try simp only [checked]
  all_goals ((repeat' split) <;> first | (simp; done) | simp_all)

@[simp] theorem Lane.assistPress_frame (p : Lane) :
    p.assistPress.now = p.now ∧ p.assistPress.sale = p.sale ∧ p.assistPress.scale = p.scale ∧
    p.assistPress.store = p.store ∧ p.assistPress.swipe = p.swipe ∧ p.assistPress.cards = p.cards ∧
    p.assistPress.composer = p.composer ∧ p.assistPress.printer = p.printer := by
  unfold Lane.assistPress; try simp only [checked]
  all_goals ((repeat' split) <;> first | (simp; done) | simp_all)

@[simp] theorem doAssistClear_frame (p : Lane) :
    (doAssistClear p).1.now = p.now ∧ (doAssistClear p).1.link = p.link ∧ (doAssistClear p).1.sale = p.sale ∧
    (doAssistClear p).1.scale = p.scale ∧ (doAssistClear p).1.store = p.store ∧
    (doAssistClear p).1.swipe = p.swipe ∧ (doAssistClear p).1.cards = p.cards ∧
    (doAssistClear p).1.composer = p.composer ∧ (doAssistClear p).1.printer = p.printer := by
  unfold doAssistClear; try simp only [checked]
  all_goals ((repeat' split) <;> first | (simp; done) | simp_all)

@[simp] theorem doLight_frame (mode : Byte) (p : Lane) :
    (doLight mode p).1.now = p.now ∧ (doLight mode p).1.link = p.link ∧ (doLight mode p).1.sale = p.sale ∧
    (doLight mode p).1.scale = p.scale ∧ (doLight mode p).1.store = p.store ∧
    (doLight mode p).1.swipe = p.swipe ∧ (doLight mode p).1.cards = p.cards ∧
    (doLight mode p).1.composer = p.composer ∧ (doLight mode p).1.printer = p.printer := by
  unfold doLight; try simp only [checked]
  all_goals ((repeat' split) <;> first | (simp; done) | simp_all)

@[simp] theorem doDrawerOpen_frame (drawer : Byte) (p : Lane) :
    (doDrawerOpen drawer p).1.now = p.now ∧ (doDrawerOpen drawer p).1.link = p.link ∧
    (doDrawerOpen drawer p).1.sale = p.sale ∧ (doDrawerOpen drawer p).1.scale = p.scale ∧
    (doDrawerOpen drawer p).1.store = p.store ∧ (doDrawerOpen drawer p).1.swipe = p.swipe ∧
    (doDrawerOpen drawer p).1.cards = p.cards ∧ (doDrawerOpen drawer p).1.composer = p.composer ∧
    (doDrawerOpen drawer p).1.printer = p.printer := by
  unfold doDrawerOpen; try simp only [checked]
  all_goals ((repeat' split) <;> first | (simp; done) | simp_all)

@[simp] theorem doNoSale_frame (drawer : Byte) (p : Lane) :
    (doNoSale drawer p).1.now = p.now ∧ (doNoSale drawer p).1.link = p.link ∧
    (doNoSale drawer p).1.sale = p.sale ∧ (doNoSale drawer p).1.scale = p.scale ∧
    (doNoSale drawer p).1.store = p.store ∧ (doNoSale drawer p).1.swipe = p.swipe ∧
    (doNoSale drawer p).1.cards = p.cards ∧ (doNoSale drawer p).1.composer = p.composer ∧
    (doNoSale drawer p).1.printer = p.printer := by
  unfold doNoSale; try simp only [checked]
  all_goals ((repeat' split) <;> first | (simp; done) | simp_all)

@[simp] theorem doDrawerClearFault_frame (drawer : Byte) (p : Lane) :
    (doDrawerClearFault drawer p).1.now = p.now ∧ (doDrawerClearFault drawer p).1.link = p.link ∧
    (doDrawerClearFault drawer p).1.sale = p.sale ∧ (doDrawerClearFault drawer p).1.scale = p.scale ∧
    (doDrawerClearFault drawer p).1.store = p.store ∧ (doDrawerClearFault drawer p).1.swipe = p.swipe ∧
    (doDrawerClearFault drawer p).1.cards = p.cards ∧ (doDrawerClearFault drawer p).1.composer = p.composer ∧
    (doDrawerClearFault drawer p).1.printer = p.printer := by
  unfold doDrawerClearFault; try simp only [checked]
  all_goals ((repeat' split) <;> first | (simp; done) | simp_all)

@[simp] theorem Lane.retime_frame (d : Drawer) (p : Lane) :
    (p.retime d).now = p.now ∧ (p.retime d).sale = p.sale ∧ (p.retime d).scale = p.scale ∧
    (p.retime d).store = p.store ∧ (p.retime d).swipe = p.swipe ∧ (p.retime d).cards = p.cards ∧
    (p.retime d).composer = p.composer ∧ (p.retime d).printer = p.printer := by
  unfold Lane.retime; try simp only [checked]
  all_goals ((repeat' split) <;> first | (simp; done) | simp_all)

@[simp] theorem doDrawerSetup_frame (pulseMs alarmSeconds : Nat) (interlock : Byte) (p : Lane) :
    (doDrawerSetup pulseMs alarmSeconds interlock p).1.now = p.now ∧
    (doDrawerSetup pulseMs alarmSeconds interlock p).1.sale = p.sale ∧
    (doDrawerSetup pulseMs alarmSeconds interlock p).1.scale = p.scale ∧
    (doDrawerSetup pulseMs alarmSeconds interlock p).1.store = p.store ∧
    (doDrawerSetup pulseMs alarmSeconds interlock p).1.swipe = p.swipe ∧
    (doDrawerSetup pulseMs alarmSeconds interlock p).1.cards = p.cards ∧
    (doDrawerSetup pulseMs alarmSeconds interlock p).1.composer = p.composer ∧
    (doDrawerSetup pulseMs alarmSeconds interlock p).1.printer = p.printer := by
  unfold doDrawerSetup; try simp only [checked]
  all_goals ((repeat' split) <;> first | (simp; done) | simp_all)

@[simp] theorem doDrawerSelect_frame (drawer : Byte) (p : Lane) :
    (doDrawerSelect drawer p).1.now = p.now ∧ (doDrawerSelect drawer p).1.link = p.link ∧
    (doDrawerSelect drawer p).1.sale = p.sale ∧ (doDrawerSelect drawer p).1.scale = p.scale ∧
    (doDrawerSelect drawer p).1.store = p.store ∧ (doDrawerSelect drawer p).1.swipe = p.swipe ∧
    (doDrawerSelect drawer p).1.cards = p.cards ∧ (doDrawerSelect drawer p).1.composer = p.composer ∧
    (doDrawerSelect drawer p).1.printer = p.printer := by
  unfold doDrawerSelect; try simp only [checked]
  all_goals ((repeat' split) <;> first | (simp; done) | simp_all)

@[simp] theorem doDrawerStatus_frame (p : Lane) :
    (doDrawerStatus p).1.now = p.now ∧ (doDrawerStatus p).1.link = p.link ∧
    (doDrawerStatus p).1.sale = p.sale ∧ (doDrawerStatus p).1.scale = p.scale ∧
    (doDrawerStatus p).1.store = p.store ∧ (doDrawerStatus p).1.swipe = p.swipe ∧
    (doDrawerStatus p).1.cards = p.cards ∧ (doDrawerStatus p).1.till = p.till ∧
    (doDrawerStatus p).1.composer = p.composer ∧ (doDrawerStatus p).1.printer = p.printer := by
  unfold doDrawerStatus; try simp only [checked]
  all_goals ((repeat' split) <;> first | (simp; done) | simp_all)

@[simp] theorem Lane.setGrant_frame (d : Drawer) (p : Lane) :
    (p.setGrant d).now = p.now ∧ (p.setGrant d).link = p.link ∧ (p.setGrant d).sale = p.sale ∧
    (p.setGrant d).scale = p.scale ∧ (p.setGrant d).store = p.store ∧ (p.setGrant d).swipe = p.swipe ∧
    (p.setGrant d).cards = p.cards ∧ (p.setGrant d).composer = p.composer ∧ (p.setGrant d).printer = p.printer := by
  unfold Lane.setGrant; try simp only [checked]
  all_goals ((repeat' split) <;> first | (simp; done) | simp_all)

@[simp] theorem Lane.autoKick_frame (d : Drawer) (p : Lane) :
    (p.autoKick d).1.now = p.now ∧ (p.autoKick d).1.link = p.link ∧ (p.autoKick d).1.sale = p.sale ∧
    (p.autoKick d).1.scale = p.scale ∧ (p.autoKick d).1.store = p.store ∧ (p.autoKick d).1.swipe = p.swipe ∧
    (p.autoKick d).1.cards = p.cards ∧ (p.autoKick d).1.composer = p.composer ∧
    (p.autoKick d).1.printer = p.printer := by
  unfold Lane.autoKick; try simp only [checked]
  all_goals ((repeat' split) <;> first | (simp; done) | simp_all)

/-! ## Calibration -/

@[simp] theorem Lane.calStateEvent_frame (left : Bool) (cause : CalCause) (p : Lane) :
    (p.calStateEvent left cause).now = p.now ∧ (p.calStateEvent left cause).sale = p.sale ∧
    (p.calStateEvent left cause).scale = p.scale ∧ (p.calStateEvent left cause).store = p.store ∧
    (p.calStateEvent left cause).swipe = p.swipe ∧ (p.calStateEvent left cause).cards = p.cards ∧
    (p.calStateEvent left cause).till = p.till ∧ (p.calStateEvent left cause).composer = p.composer ∧
    (p.calStateEvent left cause).printer = p.printer := by
  unfold Lane.calStateEvent; try simp only [checked]
  all_goals ((repeat' split) <;> first | (simp; done) | simp_all)

@[simp] theorem Lane.leaveCal_frame (cause : CalCause) (p : Lane) :
    (p.leaveCal cause).now = p.now ∧ (p.leaveCal cause).sale = p.sale ∧ (p.leaveCal cause).swipe = p.swipe ∧
    (p.leaveCal cause).cards = p.cards ∧ (p.leaveCal cause).till = p.till ∧
    (p.leaveCal cause).composer = p.composer ∧ (p.leaveCal cause).printer = p.printer := by
  unfold Lane.leaveCal; try simp only [checked]
  all_goals ((repeat' split) <;> first | (simp; done) | simp_all)

@[simp] theorem Lane.enterCal_frame (p : Lane) :
    (p.enterCal).1.now = p.now ∧ (p.enterCal).1.sale = p.sale ∧ (p.enterCal).1.swipe = p.swipe ∧
    (p.enterCal).1.cards = p.cards ∧ (p.enterCal).1.till = p.till ∧ (p.enterCal).1.composer = p.composer ∧
    (p.enterCal).1.printer = p.printer := by
  unfold Lane.enterCal; try simp only [checked]
  all_goals ((repeat' split) <;> first | (simp; done) | simp_all)

@[simp] theorem doCalEnter_frame (p : Lane) :
    (doCalEnter p).1.now = p.now ∧ (doCalEnter p).1.sale = p.sale ∧ (doCalEnter p).1.swipe = p.swipe ∧
    (doCalEnter p).1.cards = p.cards ∧ (doCalEnter p).1.till = p.till ∧
    (doCalEnter p).1.composer = p.composer ∧ (doCalEnter p).1.printer = p.printer := by
  unfold doCalEnter; try simp only [checked]
  all_goals ((repeat' split) <;> first | (simp; done) | simp_all)

@[simp] theorem Lane.leaveAfterWrite_frame (cause : CalCause) (p : Lane) :
    (p.leaveAfterWrite cause).now = p.now ∧ (p.leaveAfterWrite cause).link = p.link ∧
    (p.leaveAfterWrite cause).sale = p.sale ∧ (p.leaveAfterWrite cause).scale = p.scale ∧
    (p.leaveAfterWrite cause).swipe = p.swipe ∧ (p.leaveAfterWrite cause).cards = p.cards ∧
    (p.leaveAfterWrite cause).till = p.till ∧ (p.leaveAfterWrite cause).composer = p.composer ∧
    (p.leaveAfterWrite cause).printer = p.printer := by
  unfold Lane.leaveAfterWrite; try simp only [checked]
  all_goals ((repeat' split) <;> first | (simp; done) | simp_all)

@[simp] theorem doCalExit_frame (p : Lane) :
    (doCalExit p).1.now = p.now ∧ (doCalExit p).1.sale = p.sale ∧ (doCalExit p).1.swipe = p.swipe ∧
    (doCalExit p).1.cards = p.cards ∧ (doCalExit p).1.till = p.till ∧ (doCalExit p).1.composer = p.composer ∧
    (doCalExit p).1.printer = p.printer := by
  unfold doCalExit; try simp only [checked]
  all_goals ((repeat' split) <;> first | (simp; done) | simp_all)

@[simp] theorem Lane.switchOpens_frame (p : Lane) :
    p.switchOpens.now = p.now ∧ p.switchOpens.sale = p.sale ∧ p.switchOpens.swipe = p.swipe ∧
    p.switchOpens.cards = p.cards ∧ p.switchOpens.till = p.till ∧ p.switchOpens.composer = p.composer ∧
    p.switchOpens.printer = p.printer := by
  unfold Lane.switchOpens; try simp only [checked]
  all_goals ((repeat' split) <;> first | (simp; done) | simp_all)

@[simp] theorem Lane.switchCloses_frame (p : Lane) :
    p.switchCloses.now = p.now ∧ p.switchCloses.link = p.link ∧ p.switchCloses.sale = p.sale ∧
    p.switchCloses.scale = p.scale ∧ p.switchCloses.swipe = p.swipe ∧ p.switchCloses.cards = p.cards ∧
    p.switchCloses.till = p.till ∧ p.switchCloses.composer = p.composer ∧ p.switchCloses.printer = p.printer := by
  unfold Lane.switchCloses; try simp only [checked]
  all_goals ((repeat' split) <;> first | (simp; done) | simp_all)

@[simp] theorem Lane.calibrateZero_frame (p : Lane) :
    (p.calibrateZero).1.now = p.now ∧ (p.calibrateZero).1.link = p.link ∧ (p.calibrateZero).1.sale = p.sale ∧
    (p.calibrateZero).1.swipe = p.swipe ∧ (p.calibrateZero).1.cards = p.cards ∧
    (p.calibrateZero).1.till = p.till ∧ (p.calibrateZero).1.composer = p.composer ∧
    (p.calibrateZero).1.printer = p.printer := by
  unfold Lane.calibrateZero; try simp only [checked]
  all_goals ((repeat' split) <;> first | (simp; done) | simp_all)

@[simp] theorem doCalZero_frame (p : Lane) :
    (doCalZero p).1.now = p.now ∧ (doCalZero p).1.link = p.link ∧ (doCalZero p).1.sale = p.sale ∧
    (doCalZero p).1.swipe = p.swipe ∧ (doCalZero p).1.cards = p.cards ∧ (doCalZero p).1.till = p.till ∧
    (doCalZero p).1.composer = p.composer ∧ (doCalZero p).1.printer = p.printer := by
  unfold doCalZero; try simp only [checked]
  all_goals ((repeat' split) <;> first | (simp; done) | simp_all)

@[simp] theorem Lane.calibrateSpan_frame (mass : Int) (p : Lane) :
    (p.calibrateSpan mass).1.now = p.now ∧ (p.calibrateSpan mass).1.link = p.link ∧
    (p.calibrateSpan mass).1.sale = p.sale ∧ (p.calibrateSpan mass).1.scale = p.scale ∧
    (p.calibrateSpan mass).1.swipe = p.swipe ∧ (p.calibrateSpan mass).1.cards = p.cards ∧
    (p.calibrateSpan mass).1.till = p.till ∧ (p.calibrateSpan mass).1.composer = p.composer ∧
    (p.calibrateSpan mass).1.printer = p.printer := by
  unfold Lane.calibrateSpan; try simp only [checked]
  all_goals ((repeat' split) <;> first | (simp; done) | simp_all)

@[simp] theorem doCalSpan_frame (mass : Int) (p : Lane) :
    (doCalSpan mass p).1.now = p.now ∧ (doCalSpan mass p).1.link = p.link ∧
    (doCalSpan mass p).1.sale = p.sale ∧ (doCalSpan mass p).1.scale = p.scale ∧
    (doCalSpan mass p).1.swipe = p.swipe ∧ (doCalSpan mass p).1.cards = p.cards ∧
    (doCalSpan mass p).1.till = p.till ∧ (doCalSpan mass p).1.composer = p.composer ∧
    (doCalSpan mass p).1.printer = p.printer := by
  unfold doCalSpan; try simp only [checked]
  all_goals ((repeat' split) <;> first | (simp; done) | simp_all)

@[simp] theorem doCalSet_frame (n w : Nat) (tracking : Byte) (p : Lane) :
    (doCalSet n w tracking p).1.now = p.now ∧ (doCalSet n w tracking p).1.link = p.link ∧
    (doCalSet n w tracking p).1.sale = p.sale ∧ (doCalSet n w tracking p).1.scale = p.scale ∧
    (doCalSet n w tracking p).1.swipe = p.swipe ∧ (doCalSet n w tracking p).1.cards = p.cards ∧
    (doCalSet n w tracking p).1.till = p.till ∧ (doCalSet n w tracking p).1.composer = p.composer ∧
    (doCalSet n w tracking p).1.printer = p.printer := by
  unfold doCalSet; try simp only [checked]
  all_goals ((repeat' split) <;> first | (simp; done) | simp_all)

@[simp] theorem Lane.startCommit_frame (p : Lane) :
    (p.startCommit).1.now = p.now ∧ (p.startCommit).1.link = p.link ∧ (p.startCommit).1.sale = p.sale ∧
    (p.startCommit).1.scale = p.scale ∧ (p.startCommit).1.swipe = p.swipe ∧ (p.startCommit).1.cards = p.cards ∧
    (p.startCommit).1.till = p.till ∧ (p.startCommit).1.composer = p.composer ∧
    (p.startCommit).1.printer = p.printer := by
  unfold Lane.startCommit; try simp only [checked]
  all_goals ((repeat' split) <;> first | (simp; done) | simp_all)

@[simp] theorem doCalCommit_frame (p : Lane) :
    (doCalCommit p).1.now = p.now ∧ (doCalCommit p).1.link = p.link ∧ (doCalCommit p).1.sale = p.sale ∧
    (doCalCommit p).1.scale = p.scale ∧ (doCalCommit p).1.swipe = p.swipe ∧ (doCalCommit p).1.cards = p.cards ∧
    (doCalCommit p).1.till = p.till ∧ (doCalCommit p).1.composer = p.composer ∧
    (doCalCommit p).1.printer = p.printer := by
  unfold doCalCommit; try simp only [checked]
  all_goals ((repeat' split) <;> first | (simp; done) | simp_all)

@[simp] theorem Lane.endCommit_frame (outcome : List Field) (p : Lane) :
    (p.endCommit outcome).now = p.now ∧ (p.endCommit outcome).sale = p.sale ∧
    (p.endCommit outcome).swipe = p.swipe ∧ (p.endCommit outcome).cards = p.cards ∧
    (p.endCommit outcome).till = p.till ∧ (p.endCommit outcome).composer = p.composer ∧
    (p.endCommit outcome).printer = p.printer := by
  unfold Lane.endCommit; try simp only [checked]
  all_goals ((repeat' split) <;> first | (simp; done) | simp_all)

@[simp] theorem Lane.counterWriteEnd_frame (result : WriteEnd) (p : Lane) :
    (p.counterWriteEnd result).now = p.now ∧ (p.counterWriteEnd result).sale = p.sale ∧
    (p.counterWriteEnd result).swipe = p.swipe ∧ (p.counterWriteEnd result).cards = p.cards ∧
    (p.counterWriteEnd result).till = p.till ∧ (p.counterWriteEnd result).composer = p.composer ∧
    (p.counterWriteEnd result).printer = p.printer := by
  unfold Lane.counterWriteEnd; try simp only [checked]
  all_goals ((repeat' split) <;> first | (simp; done) | simp_all)

@[simp] theorem Lane.recordWriteEnd_frame (result : WriteEnd) (p : Lane) :
    (p.recordWriteEnd result).now = p.now ∧ (p.recordWriteEnd result).sale = p.sale ∧
    (p.recordWriteEnd result).swipe = p.swipe ∧ (p.recordWriteEnd result).cards = p.cards ∧
    (p.recordWriteEnd result).till = p.till ∧ (p.recordWriteEnd result).composer = p.composer ∧
    (p.recordWriteEnd result).printer = p.printer := by
  unfold Lane.recordWriteEnd; try simp only [checked]
  all_goals ((repeat' split) <;> first | (simp; done) | simp_all)

@[simp] theorem doIdentify_frame (p : Lane) :
    (doIdentify p).1.now = p.now ∧ (doIdentify p).1.link = p.link ∧ (doIdentify p).1.sale = p.sale ∧
    (doIdentify p).1.scale = p.scale ∧ (doIdentify p).1.store = p.store ∧ (doIdentify p).1.swipe = p.swipe ∧
    (doIdentify p).1.cards = p.cards ∧ (doIdentify p).1.till = p.till ∧
    (doIdentify p).1.composer = p.composer ∧ (doIdentify p).1.printer = p.printer := by
  unfold doIdentify; try simp only [checked]
  all_goals ((repeat' split) <;> first | (simp; done) | simp_all)

/-! ## The swipe decoder -/

@[simp] theorem Lane.flux_frame (h : Head) (track : Track) (t : Nat) (p : Lane) :
    (p.flux h track t).link = p.link ∧ (p.flux h track t).sale = p.sale ∧ (p.flux h track t).scale = p.scale ∧
    (p.flux h track t).store = p.store ∧ (p.flux h track t).cards = p.cards ∧
    (p.flux h track t).till = p.till ∧ (p.flux h track t).composer = p.composer ∧
    (p.flux h track t).printer = p.printer := by
  unfold Lane.flux; try simp only [checked]
  all_goals ((repeat' split) <;> first | (simp; done) | simp_all)

@[simp] theorem Lane.cardErrorEvent_frame (h : Head) (a b : TrackReading) (p : Lane) :
    (p.cardErrorEvent h a b).now = p.now ∧ (p.cardErrorEvent h a b).sale = p.sale ∧
    (p.cardErrorEvent h a b).scale = p.scale ∧ (p.cardErrorEvent h a b).store = p.store ∧
    (p.cardErrorEvent h a b).swipe = p.swipe ∧ (p.cardErrorEvent h a b).cards = p.cards ∧
    (p.cardErrorEvent h a b).till = p.till ∧ (p.cardErrorEvent h a b).composer = p.composer ∧
    (p.cardErrorEvent h a b).printer = p.printer := by
  unfold Lane.cardErrorEvent; try simp only [checked]
  all_goals ((repeat' split) <;> first | (simp; done) | simp_all)

@[simp] theorem Lane.handOver_frame (h : Head) (a b : TrackReading) (p : Lane) :
    (p.handOver h a b).now = p.now ∧ (p.handOver h a b).scale = p.scale ∧ (p.handOver h a b).store = p.store ∧
    (p.handOver h a b).swipe = p.swipe ∧ (p.handOver h a b).till = p.till ∧
    (p.handOver h a b).composer = p.composer ∧ (p.handOver h a b).printer = p.printer := by
  unfold Lane.handOver; try simp only [checked]
  all_goals ((repeat' split) <;> first | (simp; done) | simp_all)

@[simp] theorem Lane.swipeEnd_frame (p : Lane) :
    p.swipeEnd.scale = p.scale ∧ p.swipeEnd.store = p.store ∧ p.swipeEnd.till = p.till ∧
    p.swipeEnd.composer = p.composer ∧ p.swipeEnd.printer = p.printer := by
  unfold Lane.swipeEnd; try simp only [checked]
  all_goals ((repeat' split) <;> first | (simp; done) | simp_all)

@[simp] theorem doReaderEnable_frame (head setting : Byte) (p : Lane) :
    (doReaderEnable head setting p).1.now = p.now ∧ (doReaderEnable head setting p).1.link = p.link ∧
    (doReaderEnable head setting p).1.sale = p.sale ∧ (doReaderEnable head setting p).1.scale = p.scale ∧
    (doReaderEnable head setting p).1.store = p.store ∧ (doReaderEnable head setting p).1.cards = p.cards ∧
    (doReaderEnable head setting p).1.till = p.till ∧ (doReaderEnable head setting p).1.composer = p.composer ∧
    (doReaderEnable head setting p).1.printer = p.printer := by
  unfold doReaderEnable; try simp only [checked]
  all_goals ((repeat' split) <;> first | (simp; done) | simp_all)

/-! ## Settlement and tenders -/

@[simp] theorem Lane.grantAndOpen_frame (c : Context) (p : Lane) :
    (p.grantAndOpen c).1.now = p.now ∧ (p.grantAndOpen c).1.link = p.link ∧
    (p.grantAndOpen c).1.sale = p.sale ∧ (p.grantAndOpen c).1.scale = p.scale ∧
    (p.grantAndOpen c).1.store = p.store ∧ (p.grantAndOpen c).1.swipe = p.swipe ∧
    (p.grantAndOpen c).1.cards = p.cards ∧ (p.grantAndOpen c).1.composer = p.composer ∧
    (p.grantAndOpen c).1.printer = p.printer := by
  unfold Lane.grantAndOpen; try simp only [checked]
  all_goals ((repeat' split) <;> first | (simp; done) | simp_all)

@[simp] theorem Lane.settledEvent_frame (i : Fin 6) (by_ : SettledBy) (auto : AutoOpen) (backlog : Bool) (p : Lane) :
    (p.settledEvent i by_ auto backlog).now = p.now ∧ (p.settledEvent i by_ auto backlog).sale = p.sale ∧
    (p.settledEvent i by_ auto backlog).scale = p.scale ∧ (p.settledEvent i by_ auto backlog).store = p.store ∧
    (p.settledEvent i by_ auto backlog).swipe = p.swipe ∧ (p.settledEvent i by_ auto backlog).cards = p.cards ∧
    (p.settledEvent i by_ auto backlog).till = p.till ∧
    (p.settledEvent i by_ auto backlog).composer = p.composer ∧
    (p.settledEvent i by_ auto backlog).printer = p.printer := by
  unfold Lane.settledEvent; try simp only [checked]
  all_goals ((repeat' split) <;> first | (simp; done) | simp_all)

@[simp] theorem Lane.settle_frame (i : Fin 6) (by_ : SettledBy) (p : Lane) :
    (p.settle i by_).now = p.now ∧ (p.settle i by_).scale = p.scale ∧ (p.settle i by_).store = p.store ∧
    (p.settle i by_).swipe = p.swipe := by
  unfold Lane.settle; try simp only [checked]
  all_goals ((repeat' split) <;> first | (simp; done) | simp_all)

@[simp] theorem Lane.takeTender_frame (t : Tender) (by_ : SettledBy) (stay : Lane → Lane) (p : Lane) (hs : ∀ q, (stay q).now = q.now ∧ (stay q).scale = q.scale ∧ (stay q).store = q.store ∧ (stay q).swipe = q.swipe) :
    (p.takeTender t by_ stay).1.now = p.now ∧ (p.takeTender t by_ stay).1.scale = p.scale ∧
    (p.takeTender t by_ stay).1.store = p.store ∧ (p.takeTender t by_ stay).1.swipe = p.swipe := by
  unfold Lane.takeTender
  split
  · simp
  · dsimp only; split <;> simp [hs]

@[simp] theorem Lane.cashTender_frame (amount : Int) (p : Lane) :
    (p.cashTender amount).1.now = p.now ∧ (p.cashTender amount).1.scale = p.scale ∧
    (p.cashTender amount).1.store = p.store ∧ (p.cashTender amount).1.swipe = p.swipe := by
  unfold Lane.cashTender; simp only [checked]
  (repeat' split) <;> first
    | (simp; done)
    | (obtain ⟨h1, h2, h3, h4⟩ := Lane.takeTender_frame _ _ _ (by simp) _; simp_all)

@[simp] theorem doTenderCash_frame (amount : Int) (p : Lane) :
    (doTenderCash amount p).1.now = p.now ∧ (doTenderCash amount p).1.scale = p.scale ∧
    (doTenderCash amount p).1.store = p.store ∧ (doTenderCash amount p).1.swipe = p.swipe := by
  unfold doTenderCash withTenderReply; dsimp only; split <;> simp

@[simp] theorem Lane.tenderEntry_frame (e : CardEntry) (amount cashback : Int) (approval : Text) (p : Lane) :
    (p.tenderEntry e amount cashback approval).1.now = p.now ∧
    (p.tenderEntry e amount cashback approval).1.scale = p.scale ∧
    (p.tenderEntry e amount cashback approval).1.store = p.store ∧
    (p.tenderEntry e amount cashback approval).1.swipe = p.swipe := by
  unfold Lane.tenderEntry; simp only [checked]
  (repeat' split) <;> first
    | (simp; done)
    | (obtain ⟨h1, h2, h3, h4⟩ := Lane.takeTender_frame _ _ _ (by simp) _; simp_all)

@[simp] theorem Lane.cardTender_frame (handle : Nat) (amount cashback : Int) (approval : Text) (p : Lane) :
    (p.cardTender handle amount cashback approval).1.now = p.now ∧
    (p.cardTender handle amount cashback approval).1.scale = p.scale ∧
    (p.cardTender handle amount cashback approval).1.store = p.store ∧
    (p.cardTender handle amount cashback approval).1.swipe = p.swipe := by
  unfold Lane.cardTender; try simp only [checked]
  all_goals ((repeat' split) <;> first | (simp; done) | simp_all)

@[simp] theorem doTenderCard_frame (handle : Nat) (amount cashback : Int) (approval : Text) (p : Lane) :
    (doTenderCard handle amount cashback approval p).1.now = p.now ∧
    (doTenderCard handle amount cashback approval p).1.scale = p.scale ∧
    (doTenderCard handle amount cashback approval p).1.store = p.store ∧
    (doTenderCard handle amount cashback approval p).1.swipe = p.swipe := by
  unfold doTenderCard withTenderReply; dsimp only; split <;> simp

@[simp] theorem doSettleSetup_frame (autoOpen : Byte) (p : Lane) :
    (doSettleSetup autoOpen p).1.now = p.now ∧ (doSettleSetup autoOpen p).1.link = p.link ∧
    (doSettleSetup autoOpen p).1.scale = p.scale ∧ (doSettleSetup autoOpen p).1.store = p.store ∧
    (doSettleSetup autoOpen p).1.swipe = p.swipe ∧ (doSettleSetup autoOpen p).1.cards = p.cards ∧
    (doSettleSetup autoOpen p).1.till = p.till ∧ (doSettleSetup autoOpen p).1.composer = p.composer ∧
    (doSettleSetup autoOpen p).1.printer = p.printer := by
  unfold doSettleSetup; try simp only [checked]
  all_goals ((repeat' split) <;> first | (simp; done) | simp_all)

@[simp] theorem doSaleTenders_frame (txn : Nat) (p : Lane) :
    (doSaleTenders txn p).1.now = p.now ∧ (doSaleTenders txn p).1.link = p.link ∧
    (doSaleTenders txn p).1.sale = p.sale ∧ (doSaleTenders txn p).1.scale = p.scale ∧
    (doSaleTenders txn p).1.store = p.store ∧ (doSaleTenders txn p).1.swipe = p.swipe ∧
    (doSaleTenders txn p).1.cards = p.cards ∧ (doSaleTenders txn p).1.till = p.till ∧
    (doSaleTenders txn p).1.composer = p.composer ∧ (doSaleTenders txn p).1.printer = p.printer := by
  unfold doSaleTenders; try simp only [checked]
  all_goals ((repeat' split) <;> first | (simp; done) | simp_all)

/-! ## The sale engine -/

@[simp] theorem Lane.serveBegin_frame (p : Lane) :
    p.serveBegin.now = p.now ∧ p.serveBegin.sale = p.sale ∧ p.serveBegin.scale = p.scale ∧
    p.serveBegin.swipe = p.swipe ∧ p.serveBegin.cards = p.cards ∧ p.serveBegin.till = p.till ∧
    p.serveBegin.composer = p.composer ∧ p.serveBegin.printer = p.printer := by
  unfold Lane.serveBegin; try simp only [checked]
  all_goals ((repeat' split) <;> first | (simp; done) | simp_all)

@[simp] theorem Lane.obtain_frame (p : Lane) :
    p.obtain.now = p.now ∧ p.obtain.link = p.link ∧ p.obtain.scale = p.scale ∧ p.obtain.store = p.store ∧
    p.obtain.swipe = p.swipe ∧ p.obtain.cards = p.cards ∧ p.obtain.till = p.till ∧
    p.obtain.composer = p.composer ∧ p.obtain.printer = p.printer := by
  unfold Lane.obtain; try simp only [checked]
  all_goals ((repeat' split) <;> first | (simp; done) | simp_all)

@[simp] theorem Lane.openSale_frame (txn : Nat) (p : Lane) :
    (p.openSale txn).now = p.now ∧ (p.openSale txn).scale = p.scale ∧ (p.openSale txn).store = p.store ∧
    (p.openSale txn).swipe = p.swipe ∧ (p.openSale txn).till = p.till ∧
    (p.openSale txn).composer = p.composer ∧ (p.openSale txn).printer = p.printer := by
  unfold Lane.openSale; try simp only [checked]
  all_goals ((repeat' split) <;> first | (simp; done) | simp_all)

@[simp] theorem Lane.txnWriteEnd_frame (result : WriteEnd) (p : Lane) :
    (p.txnWriteEnd result).now = p.now ∧ (p.txnWriteEnd result).scale = p.scale ∧
    (p.txnWriteEnd result).swipe = p.swipe ∧ (p.txnWriteEnd result).till = p.till ∧
    (p.txnWriteEnd result).composer = p.composer ∧ (p.txnWriteEnd result).printer = p.printer := by
  unfold Lane.txnWriteEnd; try simp only [checked]
  all_goals ((repeat' split) <;> first | (simp; done) | simp_all)

@[simp] theorem Lane.appendItem_frame (f : List ItemRecord → List ItemRecord) (r : ItemRecord) (p : Lane) :
    (p.appendItem f r).1.now = p.now ∧ (p.appendItem f r).1.link = p.link ∧
    (p.appendItem f r).1.scale = p.scale ∧ (p.appendItem f r).1.store = p.store ∧
    (p.appendItem f r).1.swipe = p.swipe ∧ (p.appendItem f r).1.cards = p.cards ∧
    (p.appendItem f r).1.till = p.till ∧ (p.appendItem f r).1.composer = p.composer ∧
    (p.appendItem f r).1.printer = p.printer := by
  unfold Lane.appendItem; try simp only [checked]
  all_goals ((repeat' split) <;> first | (simp; done) | simp_all)

@[simp] theorem Lane.item_frame (description : Text) (quantity : Nat) (unitAmount : Int) (p : Lane) :
    (p.item description quantity unitAmount).1.now = p.now ∧
    (p.item description quantity unitAmount).1.link = p.link ∧
    (p.item description quantity unitAmount).1.scale = p.scale ∧
    (p.item description quantity unitAmount).1.store = p.store ∧
    (p.item description quantity unitAmount).1.swipe = p.swipe ∧
    (p.item description quantity unitAmount).1.cards = p.cards ∧
    (p.item description quantity unitAmount).1.till = p.till ∧
    (p.item description quantity unitAmount).1.composer = p.composer ∧
    (p.item description quantity unitAmount).1.printer = p.printer := by
  unfold Lane.item; try simp only [checked]
  all_goals ((repeat' split) <;> first | (simp; done) | simp_all)

@[simp] theorem doItem_frame (description : Text) (quantity : Nat) (unitAmount : Int) (p : Lane) :
    (doItem description quantity unitAmount p).1.now = p.now ∧
    (doItem description quantity unitAmount p).1.link = p.link ∧
    (doItem description quantity unitAmount p).1.scale = p.scale ∧
    (doItem description quantity unitAmount p).1.store = p.store ∧
    (doItem description quantity unitAmount p).1.swipe = p.swipe ∧
    (doItem description quantity unitAmount p).1.cards = p.cards ∧
    (doItem description quantity unitAmount p).1.till = p.till ∧
    (doItem description quantity unitAmount p).1.composer = p.composer ∧
    (doItem description quantity unitAmount p).1.printer = p.printer := by
  unfold doItem withItemReply; simp

@[simp] theorem Lane.voidRecordOf_frame (number : Nat) (r : ItemRecord) (p : Lane) :
    (p.voidRecordOf number r).1.now = p.now ∧ (p.voidRecordOf number r).1.link = p.link ∧
    (p.voidRecordOf number r).1.scale = p.scale ∧ (p.voidRecordOf number r).1.store = p.store ∧
    (p.voidRecordOf number r).1.swipe = p.swipe ∧ (p.voidRecordOf number r).1.cards = p.cards ∧
    (p.voidRecordOf number r).1.till = p.till ∧ (p.voidRecordOf number r).1.composer = p.composer ∧
    (p.voidRecordOf number r).1.printer = p.printer := by
  unfold Lane.voidRecordOf; try simp only [checked]
  all_goals ((repeat' split) <;> first | (simp; done) | simp_all)

@[simp] theorem Lane.voidItem_frame (number : Nat) (p : Lane) :
    (p.voidItem number).1.now = p.now ∧ (p.voidItem number).1.link = p.link ∧
    (p.voidItem number).1.scale = p.scale ∧ (p.voidItem number).1.store = p.store ∧
    (p.voidItem number).1.swipe = p.swipe ∧ (p.voidItem number).1.cards = p.cards ∧
    (p.voidItem number).1.till = p.till ∧ (p.voidItem number).1.composer = p.composer ∧
    (p.voidItem number).1.printer = p.printer := by
  unfold Lane.voidItem; try simp only [checked]
  all_goals ((repeat' split) <;> first | (simp; done) | simp_all)

@[simp] theorem doVoidItem_frame (index : Nat) (p : Lane) :
    (doVoidItem index p).1.now = p.now ∧ (doVoidItem index p).1.link = p.link ∧
    (doVoidItem index p).1.scale = p.scale ∧ (doVoidItem index p).1.store = p.store ∧
    (doVoidItem index p).1.swipe = p.swipe ∧ (doVoidItem index p).1.cards = p.cards ∧
    (doVoidItem index p).1.till = p.till ∧ (doVoidItem index p).1.composer = p.composer ∧
    (doVoidItem index p).1.printer = p.printer := by
  unfold doVoidItem withItemReply; simp

@[simp] theorem Lane.totalSale_frame (p : Lane) :
    (p.totalSale).1.now = p.now ∧ (p.totalSale).1.scale = p.scale ∧ (p.totalSale).1.store = p.store ∧
    (p.totalSale).1.swipe = p.swipe := by
  unfold Lane.totalSale; try simp only [checked]
  all_goals ((repeat' split) <;> first | (simp; done) | simp_all)

@[simp] theorem Lane.total_frame (p : Lane) :
    (p.total).1.now = p.now ∧ (p.total).1.scale = p.scale ∧ (p.total).1.store = p.store ∧
    (p.total).1.swipe = p.swipe := by
  unfold Lane.total; try simp only [checked]
  all_goals ((repeat' split) <;> first | (simp; done) | simp_all)

@[simp] theorem doTotal_frame (p : Lane) :
    (doTotal p).1.now = p.now ∧ (doTotal p).1.scale = p.scale ∧ (doTotal p).1.store = p.store ∧
    (doTotal p).1.swipe = p.swipe := by
  unfold doTotal; try simp only [checked]
  all_goals ((repeat' split) <;> first | (simp; done) | simp_all)

@[simp] theorem Lane.backToItems_frame (p : Lane) :
    (p.backToItems).1.now = p.now ∧ (p.backToItems).1.scale = p.scale ∧ (p.backToItems).1.store = p.store ∧
    (p.backToItems).1.swipe = p.swipe ∧ (p.backToItems).1.till = p.till ∧
    (p.backToItems).1.composer = p.composer ∧ (p.backToItems).1.printer = p.printer := by
  unfold Lane.backToItems; try simp only [checked]
  all_goals ((repeat' split) <;> first | (simp; done) | simp_all)

@[simp] theorem doBackToItems_frame (p : Lane) :
    (doBackToItems p).1.now = p.now ∧ (doBackToItems p).1.scale = p.scale ∧
    (doBackToItems p).1.store = p.store ∧ (doBackToItems p).1.swipe = p.swipe ∧
    (doBackToItems p).1.till = p.till ∧ (doBackToItems p).1.composer = p.composer ∧
    (doBackToItems p).1.printer = p.printer := by
  unfold doBackToItems; try simp only [checked]
  all_goals ((repeat' split) <;> first | (simp; done) | simp_all)

@[simp] theorem Lane.cancelSale_frame (p : Lane) :
    (p.cancelSale).1.now = p.now ∧ (p.cancelSale).1.store = p.store ∧ (p.cancelSale).1.swipe = p.swipe ∧
    (p.cancelSale).1.till = p.till := by
  unfold Lane.cancelSale; try simp only [checked]
  all_goals ((repeat' split) <;> first | (simp; done) | simp_all)

@[simp] theorem doCancelSale_frame (p : Lane) :
    (doCancelSale p).1.now = p.now ∧ (doCancelSale p).1.store = p.store ∧ (doCancelSale p).1.swipe = p.swipe ∧
    (doCancelSale p).1.till = p.till := by
  unfold doCancelSale; try simp only [checked]
  all_goals ((repeat' split) <;> first | (simp; done) | simp_all)

@[simp] theorem Lane.suspendSale_frame (p : Lane) :
    (p.suspendSale).1.now = p.now ∧ (p.suspendSale).1.store = p.store ∧ (p.suspendSale).1.swipe = p.swipe ∧
    (p.suspendSale).1.cards = p.cards ∧ (p.suspendSale).1.till = p.till ∧
    (p.suspendSale).1.composer = p.composer ∧ (p.suspendSale).1.printer = p.printer := by
  unfold Lane.suspendSale; try simp only [checked]
  all_goals ((repeat' split) <;> first | (simp; done) | simp_all)

@[simp] theorem doSuspend_frame (p : Lane) :
    (doSuspend p).1.now = p.now ∧ (doSuspend p).1.store = p.store ∧ (doSuspend p).1.swipe = p.swipe ∧
    (doSuspend p).1.cards = p.cards ∧ (doSuspend p).1.till = p.till ∧ (doSuspend p).1.composer = p.composer ∧
    (doSuspend p).1.printer = p.printer := by
  unfold doSuspend; try simp only [checked]
  all_goals ((repeat' split) <;> first | (simp; done) | simp_all)

@[simp] theorem Lane.resumeSale_frame (p : Lane) :
    (p.resumeSale).1.now = p.now ∧ (p.resumeSale).1.link = p.link ∧ (p.resumeSale).1.scale = p.scale ∧
    (p.resumeSale).1.store = p.store ∧ (p.resumeSale).1.swipe = p.swipe ∧ (p.resumeSale).1.cards = p.cards ∧
    (p.resumeSale).1.till = p.till ∧ (p.resumeSale).1.composer = p.composer ∧
    (p.resumeSale).1.printer = p.printer := by
  unfold Lane.resumeSale; try simp only [checked]
  all_goals ((repeat' split) <;> first | (simp; done) | simp_all)

@[simp] theorem doResume_frame (p : Lane) :
    (doResume p).1.now = p.now ∧ (doResume p).1.link = p.link ∧ (doResume p).1.scale = p.scale ∧
    (doResume p).1.store = p.store ∧ (doResume p).1.swipe = p.swipe ∧ (doResume p).1.cards = p.cards ∧
    (doResume p).1.till = p.till ∧ (doResume p).1.composer = p.composer ∧ (doResume p).1.printer = p.printer := by
  unfold doResume; try simp only [checked]
  all_goals ((repeat' split) <;> first | (simp; done) | simp_all)

@[simp] theorem doDropSuspended_frame (p : Lane) :
    (doDropSuspended p).1.now = p.now ∧ (doDropSuspended p).1.link = p.link ∧
    (doDropSuspended p).1.scale = p.scale ∧ (doDropSuspended p).1.store = p.store ∧
    (doDropSuspended p).1.swipe = p.swipe ∧ (doDropSuspended p).1.cards = p.cards ∧
    (doDropSuspended p).1.till = p.till ∧ (doDropSuspended p).1.composer = p.composer ∧
    (doDropSuspended p).1.printer = p.printer := by
  unfold doDropSuspended; try simp only [checked]
  all_goals ((repeat' split) <;> first | (simp; done) | simp_all)

@[simp] theorem doSaleStatus_frame (p : Lane) :
    (doSaleStatus p).1.now = p.now ∧ (doSaleStatus p).1.link = p.link ∧ (doSaleStatus p).1.sale = p.sale ∧
    (doSaleStatus p).1.scale = p.scale ∧ (doSaleStatus p).1.store = p.store ∧
    (doSaleStatus p).1.swipe = p.swipe ∧ (doSaleStatus p).1.cards = p.cards ∧
    (doSaleStatus p).1.till = p.till ∧ (doSaleStatus p).1.composer = p.composer ∧
    (doSaleStatus p).1.printer = p.printer := by
  unfold doSaleStatus; try simp only [checked]
  all_goals ((repeat' split) <;> first | (simp; done) | simp_all)

@[simp] theorem doSaleItems_frame (first count : Nat) (p : Lane) :
    (doSaleItems first count p).1.now = p.now ∧ (doSaleItems first count p).1.link = p.link ∧
    (doSaleItems first count p).1.sale = p.sale ∧ (doSaleItems first count p).1.scale = p.scale ∧
    (doSaleItems first count p).1.store = p.store ∧ (doSaleItems first count p).1.swipe = p.swipe ∧
    (doSaleItems first count p).1.cards = p.cards ∧ (doSaleItems first count p).1.till = p.till ∧
    (doSaleItems first count p).1.composer = p.composer ∧ (doSaleItems first count p).1.printer = p.printer := by
  unfold doSaleItems; try simp only [checked]
  all_goals ((repeat' split) <;> first | (simp; done) | simp_all)

/-! ## Resets -/

@[simp] theorem Lane.resetInput_frame (i : ResetInputs) (torn : TornRecord) (p : Lane) :
    (p.resetInput i torn).now = p.now := by
  simp [Lane.resetInput, Lane.startUp]

@[simp] theorem Lane.cutForReset_frame (p : Lane) :
    p.cutForReset.now = p.now ∧ p.cutForReset.link = p.link ∧ p.cutForReset.sale = p.sale ∧
    p.cutForReset.store = p.store ∧ p.cutForReset.swipe = p.swipe ∧ p.cutForReset.cards = p.cards ∧
    p.cutForReset.composer = p.composer ∧ p.cutForReset.printer = p.printer := by
  unfold Lane.cutForReset; try simp only [checked]
  all_goals ((repeat' split) <;> first | (simp; done) | simp_all)

@[simp] theorem Lane.laneReset_frame (p : Lane) :
    p.laneReset.now = p.now ∧ p.laneReset.store = p.store := by
  unfold Lane.laneReset; try simp only [checked]
  all_goals ((repeat' split) <;> first | (simp; done) | simp_all)

/-! ## The lane link -/

@[simp] theorem doStatus_frame (p : Lane) :
    (doStatus p).1.now = p.now ∧ (doStatus p).1.link = p.link ∧ (doStatus p).1.sale = p.sale ∧
    (doStatus p).1.scale = p.scale ∧ (doStatus p).1.store = p.store ∧ (doStatus p).1.swipe = p.swipe ∧
    (doStatus p).1.cards = p.cards ∧ (doStatus p).1.till = p.till ∧ (doStatus p).1.composer = p.composer ∧
    (doStatus p).1.printer = p.printer := by
  unfold doStatus; try simp only [checked]
  all_goals ((repeat' split) <;> first | (simp; done) | simp_all)

@[simp] theorem doFlagsClear_frame (set : BitVec 16) (p : Lane) :
    (doFlagsClear set p).1.now = p.now ∧ (doFlagsClear set p).1.sale = p.sale ∧
    (doFlagsClear set p).1.scale = p.scale ∧ (doFlagsClear set p).1.store = p.store ∧
    (doFlagsClear set p).1.swipe = p.swipe ∧ (doFlagsClear set p).1.cards = p.cards ∧
    (doFlagsClear set p).1.till = p.till ∧ (doFlagsClear set p).1.composer = p.composer ∧
    (doFlagsClear set p).1.printer = p.printer := by
  unfold doFlagsClear; try simp only [checked]
  all_goals ((repeat' split) <;> first | (simp; done) | simp_all)

@[simp] theorem doEventMask_frame (set : BitVec 32) (p : Lane) :
    (doEventMask set p).1.now = p.now ∧ (doEventMask set p).1.sale = p.sale ∧
    (doEventMask set p).1.scale = p.scale ∧ (doEventMask set p).1.store = p.store ∧
    (doEventMask set p).1.swipe = p.swipe ∧ (doEventMask set p).1.cards = p.cards ∧
    (doEventMask set p).1.till = p.till ∧ (doEventMask set p).1.composer = p.composer ∧
    (doEventMask set p).1.printer = p.printer := by
  unfold doEventMask; try simp only [checked]
  all_goals ((repeat' split) <;> first | (simp; done) | simp_all)

@[simp] theorem doClockSet_frame (t : DateTime) (p : Lane) :
    (doClockSet t p).1.now = p.now ∧ (doClockSet t p).1.sale = p.sale ∧ (doClockSet t p).1.scale = p.scale ∧
    (doClockSet t p).1.store = p.store ∧ (doClockSet t p).1.swipe = p.swipe ∧
    (doClockSet t p).1.cards = p.cards ∧ (doClockSet t p).1.till = p.till ∧
    (doClockSet t p).1.composer = p.composer ∧ (doClockSet t p).1.printer = p.printer := by
  unfold doClockSet; try simp only [checked]
  all_goals ((repeat' split) <;> first | (simp; done) | simp_all)

@[simp] theorem Lane.clockTick_frame (p : Lane) :
    p.clockTick.sale = p.sale ∧ p.clockTick.scale = p.scale ∧ p.clockTick.store = p.store ∧
    p.clockTick.swipe = p.swipe ∧ p.clockTick.cards = p.cards ∧ p.clockTick.till = p.till ∧
    p.clockTick.composer = p.composer ∧ p.clockTick.printer = p.printer := by
  unfold Lane.clockTick; try simp only [checked]
  all_goals ((repeat' split) <;> first | (simp; done) | simp_all)

@[simp] theorem doLinkRate_frame (rate : Byte) (p : Lane) :
    (doLinkRate rate p).1.now = p.now ∧ (doLinkRate rate p).1.sale = p.sale ∧
    (doLinkRate rate p).1.scale = p.scale ∧ (doLinkRate rate p).1.store = p.store ∧
    (doLinkRate rate p).1.swipe = p.swipe ∧ (doLinkRate rate p).1.cards = p.cards ∧
    (doLinkRate rate p).1.till = p.till ∧ (doLinkRate rate p).1.composer = p.composer ∧
    (doLinkRate rate p).1.printer = p.printer := by
  unfold doLinkRate; try simp only [checked]
  all_goals ((repeat' split) <;> first | (simp; done) | simp_all)

@[simp] theorem doResetLane_frame (p : Lane) :
    (doResetLane p).1.now = p.now ∧ (doResetLane p).1.link = p.link ∧ (doResetLane p).1.sale = p.sale ∧
    (doResetLane p).1.scale = p.scale ∧ (doResetLane p).1.store = p.store ∧ (doResetLane p).1.swipe = p.swipe ∧
    (doResetLane p).1.cards = p.cards ∧ (doResetLane p).1.till = p.till ∧
    (doResetLane p).1.composer = p.composer ∧ (doResetLane p).1.printer = p.printer := by
  unfold doResetLane; try simp only [checked]
  all_goals ((repeat' split) <;> first | (simp; done) | simp_all)

@[simp] theorem doUnknownRequest_frame (p : Lane) :
    (doUnknownRequest p).1.now = p.now ∧ (doUnknownRequest p).1.link = p.link ∧
    (doUnknownRequest p).1.sale = p.sale ∧ (doUnknownRequest p).1.scale = p.scale ∧
    (doUnknownRequest p).1.store = p.store ∧ (doUnknownRequest p).1.swipe = p.swipe ∧
    (doUnknownRequest p).1.cards = p.cards ∧ (doUnknownRequest p).1.till = p.till ∧
    (doUnknownRequest p).1.composer = p.composer ∧ (doUnknownRequest p).1.printer = p.printer := by
  unfold doUnknownRequest; try simp only [checked]
  all_goals ((repeat' split) <;> first | (simp; done) | simp_all)

@[simp] theorem Lane.badCrc_frame (code tag : Byte) (p : Lane) :
    (p.badCrc code tag).now = p.now ∧ (p.badCrc code tag).sale = p.sale ∧ (p.badCrc code tag).scale = p.scale ∧
    (p.badCrc code tag).store = p.store ∧ (p.badCrc code tag).swipe = p.swipe ∧
    (p.badCrc code tag).cards = p.cards ∧ (p.badCrc code tag).till = p.till ∧
    (p.badCrc code tag).composer = p.composer ∧ (p.badCrc code tag).printer = p.printer := by
  unfold Lane.badCrc; try simp only [checked]
  all_goals ((repeat' split) <;> first | (simp; done) | simp_all)

@[simp] theorem Lane.frameBadCrc_frame (code tag : Byte) (p : Lane) :
    (p.frameBadCrc code tag).now = p.now ∧ (p.frameBadCrc code tag).sale = p.sale ∧
    (p.frameBadCrc code tag).scale = p.scale ∧ (p.frameBadCrc code tag).store = p.store ∧
    (p.frameBadCrc code tag).swipe = p.swipe ∧ (p.frameBadCrc code tag).cards = p.cards ∧
    (p.frameBadCrc code tag).till = p.till ∧ (p.frameBadCrc code tag).composer = p.composer ∧
    (p.frameBadCrc code tag).printer = p.printer := by
  unfold Lane.frameBadCrc; try simp only [checked]
  all_goals ((repeat' split) <;> first | (simp; done) | simp_all)

@[simp] theorem Lane.abandonFrame_frame (p : Lane) :
    p.abandonFrame.now = p.now ∧ p.abandonFrame.sale = p.sale ∧ p.abandonFrame.scale = p.scale ∧
    p.abandonFrame.store = p.store ∧ p.abandonFrame.swipe = p.swipe ∧ p.abandonFrame.cards = p.cards ∧
    p.abandonFrame.till = p.till ∧ p.abandonFrame.composer = p.composer ∧ p.abandonFrame.printer = p.printer := by
  unfold Lane.abandonFrame; try simp only [checked]
  all_goals ((repeat' split) <;> first | (simp; done) | simp_all)

@[simp] theorem Lane.abandonByte_frame (p : Lane) :
    p.abandonByte.now = p.now ∧ p.abandonByte.sale = p.sale ∧ p.abandonByte.scale = p.scale ∧
    p.abandonByte.store = p.store ∧ p.abandonByte.swipe = p.swipe ∧ p.abandonByte.cards = p.cards ∧
    p.abandonByte.till = p.till ∧ p.abandonByte.composer = p.composer ∧ p.abandonByte.printer = p.printer := by
  unfold Lane.abandonByte; try simp only [checked]
  all_goals ((repeat' split) <;> first | (simp; done) | simp_all)

@[simp] theorem Lane.changeRate_frame (p : Lane) :
    p.changeRate.now = p.now ∧ p.changeRate.sale = p.sale ∧ p.changeRate.scale = p.scale ∧
    p.changeRate.store = p.store ∧ p.changeRate.swipe = p.swipe ∧ p.changeRate.cards = p.cards ∧
    p.changeRate.till = p.till ∧ p.changeRate.composer = p.composer ∧ p.changeRate.printer = p.printer := by
  unfold Lane.changeRate; try simp only [checked]
  all_goals ((repeat' split) <;> first | (simp; done) | simp_all)

@[simp] theorem Lane.lineFree_frame (p : Lane) :
    p.lineFree.now = p.now ∧ p.lineFree.sale = p.sale ∧ p.lineFree.scale = p.scale ∧
    p.lineFree.store = p.store ∧ p.lineFree.swipe = p.swipe ∧ p.lineFree.cards = p.cards ∧
    p.lineFree.till = p.till ∧ p.lineFree.composer = p.composer ∧ p.lineFree.printer = p.printer := by
  unfold Lane.lineFree; try simp only [checked]
  all_goals ((repeat' split) <;> first | (simp; done) | simp_all)

end Sys2Proof.Machine
end

