-- ==== Sys2Proof/Laws/Requests.lean ====
section
/-! SUPPORT. Laws/Requests.lean: what a request command does by its frame, the checks of a request as
propositions, and what handing events and replies keeps of the lane link. -/

namespace Sys2Proof.Machine

/-! ## A request command and its frame (R182, R184) -/

/-- A request command is the arrival of its frame, served by its owner. -/
theorem exec_request {c : Instr} {f : Frame} (hf : requestFrame c = some f) (s : State) :
    exec c s = s.advance (Lane.arrive f (serveRequest c)) := by
  have ff : frameFor c = f := by simp [frameFor, hf]
  subst ff
  cases c <;> first | (simp [requestFrame] at hf; done) | rfl

/-- A payload is read whole when nothing is left over. -/
theorem readWhole_eq {o : Option (Instr × Text)} {c : Instr} : readWhole o = .request c ↔ o = some (c, []) := by
  unfold readWhole; split
  · simp
  · rename_i h
    constructor
    · intro h'; simp at h'
    · intro h'; exact absurd h' (h c)

/-- Whatever request a reader yields, its frame has that code and that tag. -/
def Yields (code tag : Byte) (o : Option (Instr × Text)) : Prop :=
  ∀ x ∈ o, ∃ g, requestFrame x.1 = some g ∧ g.code = code ∧ g.tag = tag

theorem Yields.here {c : Instr} {r payload : Text} {code tag : Byte} (h : requestFrame c = some ⟨code, tag, payload⟩) :
    Yields code tag (some (c, r)) := by
  rintro x hx; cases hx; exact ⟨_, h, rfl, rfl⟩

theorem Yields.next {α : Type} {code tag : Byte} {o : Option α} {k : α → Option (Instr × Text)}
    (h : ∀ a, Yields code tag (k a)) : Yields code tag (o >>= k) := by
  cases o with
  | none => rintro x hx; cases hx
  | some a => exact h a

/-- Each reader of parseRequest yields a request with the code it stands under. -/
theorem parseRequest_yields (f : Frame) (c : Instr) (h : parseRequest f = .request c) :
    ∃ o, o = some (c, []) ∧ Yields f.code f.tag o := by
  have code : ∀ n : Nat, f.code.toNat = n → f.code = BitVec.ofNat 8 n := fun n hn => by simp [← hn]
  unfold parseRequest at h
  dsimp only at h
  split at h <;> first
    | (cases h; done)
    | (refine ⟨_, readWhole_eq.mp h, ?_⟩
       rw [code _ ‹_›]
       repeat' refine Yields.next fun _ => ?_
       exact Yields.here rfl)

/-- A frame that is read as a request has that request's code and tag. -/
theorem parseRequest_frame {f : Frame} {c : Instr} (h : parseRequest f = .request c) :
    ∃ g, requestFrame c = some g ∧ g.code = f.code ∧ g.tag = f.tag := by
  obtain ⟨_, rfl, y⟩ := parseRequest_yields f c h
  exact y _ rfl

/-- Serving a frame is the command that the frame carries. -/
theorem take_serveFrame (f : Frame) (s : State) (hp : s.link.inProgress = none) (hr : s.link.receiver = .hunt) :
    s.advance (Lane.take f (serveFrame f)) =
      match parseRequest f with
      | .request c => exec c s
      | .unknown => exec (.unknownRequest f.code f.tag f.payload) s
      | .unreadable => s.says f.code f.tag [.status .badValue] := by
  rcases h : parseRequest f with _ | _ | c
  · rw [exec_request (f := f) rfl]; simp [serveFrame, h, State.advance, Lane.arrive, hp, hr, serveRequest]
  · simp [serveFrame, h, State.advance, Lane.take, Lane.serve, Lane.respond, State.says, alone, Answer.allFields,
      Link.answered, Link.handEvents, Link.taking]
  · obtain ⟨g, hg, h1, h2⟩ := parseRequest_frame h
    show _ = exec c s
    rw [exec_request hg]; simp [serveFrame, h, State.advance, Lane.arrive, hp, hr, Lane.take, h1, h2]

/-! ## Checks as propositions -/

theorem Lane.noSaleOpen_iff (p : Lane) : p.noSaleOpen = true ↔ p.current = none := by
  simp [Lane.noSaleOpen]

theorem Store.inCal_iff (s : Store) : s.inCal = true ↔ s.calState ≠ .out := by
  simp [Store.inCal]

theorem Till.locked_iff (t : Till) : t.locked = true ↔ t.key = .locked := by
  simp [Till.locked]

theorem Till.manager_iff (t : Till) : t.manager = true ↔ t.key = .manager := by
  simp [Till.manager]

theorem Lane.backlogged_iff (p : Lane) : p.backlogged = true ↔ p.sale.backlog ≠ none := by
  simp [Lane.backlogged, Option.isSome_iff_ne_none]

/-! ## What handing events and replies keeps of the link (R186, R187) -/

/-- The transmitter of a free line takes what R186 says. -/
theorem Link.pump_free (l : Link) : ({ l with sending := none } : Link).pump = l.nextFrame := by
  unfold Link.pump Link.nextFrame
  rcases l.reply with _ | ⟨m, _ | n⟩ <;> rcases l.events with _ | _ <;> rfl

/-- A busy transmitter takes nothing. -/
theorem Link.pump_busy {l : Link} (h : l.sending ≠ none) : l.pump = l := by
  unfold Link.pump
  rcases hs : l.sending with _ | m
  · exact absurd hs h
  · rfl

/-- A pump of a link whose waiting reply counts no more events than there are leaves a sound link. -/
theorem Link.sound_pump {l : Link} (h1 : l.events.length ≤ 16) (h2 : ∀ r ∈ l.reply, r.ahead ≤ l.events.length)
    (h4 : l.flags &&& 0xF800#16 = 0#16) (h5 : l.enabled.getLsbD 31 = false) (h6 : ∀ t ∈ l.clock, t.valid = true) :
    l.pump.sound := by
  rcases hs : l.sending with _ | m
  · rw [show l.pump = l.nextFrame by rw [← Link.pump_free, ← hs]]
    unfold Link.nextFrame
    rcases hr : l.reply with _ | ⟨m, _ | n⟩ <;> rcases he : l.events with _ | ⟨e, rest⟩ <;> dsimp only <;>
      simp_all [Link.sound] <;> omega
  · rw [Link.pump_busy (by simp [hs])]
    exact ⟨h1, h2, by simp [hs], h4, h5, h6⟩

/-- Handing over an event keeps a link sound. -/
theorem Link.sound_handEvent {l : Link} (h : l.sound) (m : Message) : (l.handEvent m).sound := by
  obtain ⟨h1, h2, h3, h4, h5, h6⟩ := h
  unfold Link.handEvent
  split
  · split
    · refine Link.sound_pump (by simp; omega) (fun r hr => ?_) h4 h5 h6
      have := h2 r hr
      simp; omega
    · refine ⟨h1, h2, h3, ?_, h5, h6⟩
      show (l.flags ||| 1#16 <<< 2) &&& 0xF800#16 = 0#16
      rw [BitVec.and_or_distrib_right, h4]; decide
  · exact ⟨h1, h2, h3, h4, h5, h6⟩

/-- Handing over a reply keeps a link sound. -/
theorem Link.sound_handReply {l : Link} (h : l.sound) (m : Message) : (l.handReply m).sound := by
  obtain ⟨h1, _, _, h4, h5, h6⟩ := h
  exact Link.sound_pump h1 (by simp) h4 h5 h6

/-- Latching a flag keeps a link sound. -/
theorem Link.sound_latch {l : Link} (h : l.sound) (f : Latched) : (l.latch f).sound := by
  obtain ⟨h1, h2, h3, h4, h5, h6⟩ := h
  refine ⟨h1, h2, h3, ?_, h5, h6⟩
  show (l.flags ||| 1#16 <<< f.bit) &&& 0xF800#16 = 0#16
  rw [BitVec.and_or_distrib_right, h4]
  cases f <;> (try rename_i d; cases d) <;> decide

end Sys2Proof.Machine
end

