-- ==== Sys2Proof/Laws/Blocks.lean ====
section
/-! SUPPORT. Laws/Blocks.lean: facts about single blocks that the statements about them rest on: drawers, cards,
settlement, weighing, recorded tracks, printed lines. -/

namespace Sys2Proof.Machine

/-- Two lanes with the same contexts have the same context at each number. -/
theorem Lane.ctx_congr {p q : Lane} (h : p.sale.contexts = q.sale.contexts) (i : Fin 6) : p.ctx i = q.ctx i := by
  unfold Lane.ctx; rw [h]

/-- When a list of lines is not all printable and at most 32 characters long. -/
theorem linesOk_eq_false (lines : List Text) : lines.all lineOk = false ↔ ¬∀ l ∈ lines, l.length ≤ 32 ∧ ∀ c ∈ l, 0x20 ≤ c.toNat ∧ c.toNat ≤ 0x7E := by
  rw [← Bool.not_eq_true, not_iff_not, List.all_eq_true]
  constructor <;> intro h l hl <;> have := h l hl <;> simp_all [lineOk, printable, BitVec.le_def]

/-- When a description is not 1 to 20 printable characters. -/
theorem descriptionOk_eq_false (d : Text) : descriptionOk d = false ↔ d.length < 1 ∨ 20 < d.length ∨ d.all printable = false := by
  unfold descriptionOk
  by_cases h1 : d.length < 1 <;> by_cases h2 : 20 < d.length <;> rcases h3 : d.all printable <;> simp_all <;> omega

/-- A bound test as a bound on the magnitude. -/
theorem within_eq_true (l : Nat) (x : Int) : within l x = true ↔ x.natAbs ≤ l := by
  simp [within]; omega

/-- When a bound test fails. -/
theorem within_eq_false (l x : Int) : within l x = false ↔ x < -l ∨ l < x := by
  by_cases h1 : x < -l <;> by_cases h2 : l < x <;> simp [within] <;> omega

/-- The gross value is the rounded product clamped to its range. -/
theorem grossOf_eq (c z : Int) (g : Nat) : grossOf c z g = max (-8388607) (min 8388607 (roundHalfAway ((c - z) * g) 65536)) := by
  unfold grossOf; dsimp only; generalize roundHalfAway ((c - z) * g) 65536 = q
  split
  · omega
  · split <;> omega

/-- A window is stable when it is full and each gross value lies within 10 of the last one. -/
theorem stableAt_eq_true (w : List Int) (n : Nat) (z : Int) (g : Nat) : stableAt w n z g = true ↔ w.length = n ∧ ∃ last, w.getLast? = some last ∧ ∀ c ∈ w, (grossOf c z g - grossOf last z g).natAbs ≤ 10 := by
  unfold stableAt
  rcases h : w.getLast? with _ | l
  · simp
  · have : ∀ x : Int, within 10 x = true ↔ x.natAbs ≤ 10 := fun x => within_eq_true 10 x
    simp [this]

/-- Judging the lane light leaves the drawers. -/
theorem Till.drawer_judgeLight (t : Till) (n : Nat) (d : Drawer) : (t.judgeLight n).drawer d = t.drawer d := by
  unfold Till.judgeLight; split <;> cases d <;> rfl

/-- Judging the lane light leaves the driver, the waiting place and the settings. -/
theorem Till.judgeLight_keeps (t : Till) (n : Nat) : (t.judgeLight n).driver = t.driver ∧ (t.judgeLight n).waiting = t.waiting ∧ (t.judgeLight n).alarmSeconds = t.alarmSeconds ∧ (t.judgeLight n).pulseMs = t.pulseMs := by
  unfold Till.judgeLight; split <;> exact ⟨rfl, rfl, rfl, rfl⟩

/-- A drawer written is read back. -/
theorem Lane.drawer_setDrawer (d : Drawer) (r : DrawerRecord) (p : Lane) : (p.setDrawer d r).drawer d = r := by
  unfold Lane.setDrawer Lane.withTill Lane.drawer; dsimp only
  have : ∀ (t : Till) n, (t.judgeLight n).drawer d = t.drawer d := by
    intro t n; unfold Till.judgeLight; split <;> cases d <;> rfl
  rw [this]; cases d <;> rfl

/-- Writing one drawer leaves the other. -/
theorem Lane.drawer_setDrawer_ne (d w : Drawer) (r : DrawerRecord) (p : Lane) (h : d ≠ w) : (p.setDrawer w r).drawer d = p.drawer d := by
  unfold Lane.setDrawer Lane.withTill Lane.drawer; dsimp only; rw [Till.drawer_judgeLight]; cases d <;> cases w <;> first | exact absurd rfl h | rfl

/-- Writing a drawer leaves the driver, the waiting place and the settings. -/
theorem Lane.setDrawer_keeps (d : Drawer) (r : DrawerRecord) (p : Lane) : (p.setDrawer d r).till.driver = p.till.driver ∧ (p.setDrawer d r).till.waiting = p.till.waiting ∧ (p.setDrawer d r).till.alarmSeconds = p.till.alarmSeconds ∧ (p.setDrawer d r).till.pulseMs = p.till.pulseMs := by
  have := Till.judgeLight_keeps (p.till.setDrawer d r) p.now
  unfold Lane.setDrawer Lane.withTill; dsimp only
  refine ⟨?_, ?_, ?_, ?_⟩ <;> simp only [this] <;> cases d <;> rfl

/-- Releasing the driver leaves a drawer that does not wait. -/
theorem Lane.drawer_releaseSolenoid (q : Lane) (d : Drawer) (hq : q.till.waiting ≠ some d) : q.releaseSolenoid.drawer d = q.drawer d := by
  unfold Lane.releaseSolenoid
  have : q.joltHold.till.waiting = q.till.waiting := rfl
  simp only [this]
  rcases hw : q.till.waiting with _ | w
  · rfl
  · have hne : d ≠ w := by rintro rfl; exact hq hw
    unfold Lane.startPulse Lane.onDrawer
    dsimp only
    rw [Lane.drawer_setDrawer_ne _ _ _ _ hne]; rfl

/-- Releasing the driver leaves the elapsed time and the alarm setting. -/
theorem Lane.releaseSolenoid_keeps (q : Lane) : q.releaseSolenoid.now = q.now ∧ q.releaseSolenoid.till.alarmSeconds = q.till.alarmSeconds := by
  unfold Lane.releaseSolenoid
  have : q.joltHold.till.waiting = q.till.waiting := rfl
  simp only [this]
  rcases hw : q.till.waiting with _ | w
  · exact ⟨rfl, rfl⟩
  · unfold Lane.startPulse Lane.onDrawer
    dsimp only
    refine ⟨rfl, ?_⟩
    rw [(Lane.setDrawer_keeps _ _ _).2.2.1]; rfl

/-- A kick that ends without a fault is reported with its drive when the coil was driven. -/
theorem Lane.drawerDone_eq (d : Drawer) (k : Kick) (o : KickOutcome) (pulsed : Bool) (p : Lane) (hr : o ≠ .fault) :
    p.drawerDone d k o pulsed = p.event 0x92#8 (kickReport d k o (p.drawer d).grant (if pulsed then (p.drawer d).drive else none) []) := by
  unfold Lane.drawerDone kickReport
  cases o
  case fault => exact absurd rfl hr
  all_goals (dsimp only; generalize (if pulsed = true then (p.drawer d).drive else none) = x; rcases x with _ | x <;> simp [Sys2Proof.Machine.optional, DriveReport.fields, grantField])

/-- A kick that ends in a fault is reported with its reason. -/
theorem Lane.drawerDone_fault (d : Drawer) (k : Kick) (pulsed : Bool) (p : Lane) (f : DrawerFault) (hf : (p.drawer d).faultReason = some f) :
    p.drawerDone d k .fault pulsed = p.event 0x92#8 (kickReport d k .fault (p.drawer d).grant (if pulsed then (p.drawer d).drive else none) [.name f.code]) := by
  unfold Lane.drawerDone kickReport
  dsimp only; rw [hf]; dsimp only
  generalize (if pulsed = true then (p.drawer d).drive else none) = x; rcases x with _ | x <;> simp [Sys2Proof.Machine.optional, DriveReport.fields, grantField]

/-- Accepting a kick leaves a drawer's grant. -/
theorem Lane.grant_acceptKick (b : KickBasis) (r : Requester) (d : Drawer) (p : Lane) : ((p.acceptKick b r d).drawer d).grant = (p.drawer d).grant := by
  unfold Lane.acceptKick Lane.startPulse Lane.onDrawer
  have hs : ∀ (q : Lane) g w, (q.setDriver g w).drawer d = q.drawer d := fun _ _ _ => rfl
  dsimp only
  split <;> simp only [Lane.drawer_setDrawer, hs]

/-- An automatic kick leaves a drawer's grant. -/
theorem Lane.grant_autoKick (d : Drawer) (p : Lane) : ((p.autoKick d).1.drawer d).grant = (p.drawer d).grant := by
  unfold Lane.autoKick
  split
  · rfl
  · split
    · rfl
    · rfl
    all_goals first | rfl | skip
    split
    · exact Lane.grant_acceptKick _ _ _ _
    · rfl

/-- Asked of a drawer whose grant has just been set, auto-open is refused by the key or the drawer's state, or starts a
kick. -/
theorem Lane.autoKick_setGrant (d : Drawer) (p : Lane) :
    (p.setGrant d).autoKick d =
      if p.till.key = .locked then (p.setGrant d, .refused .keyPosition)
      else
        match (p.drawer d).state with
        | .absent => (p.setGrant d, .refused .absent)
        | .fault => (p.setGrant d, .refused .fault)
        | .closed => ((p.setGrant d).acceptKick .grant .settlement d, .kickStarted)
        | _ => (p.setGrant d, .refused .busy) := by
  have key : (p.setGrant d).till.key = p.till.key := by
    have judged : ∀ (t : Till) n, (t.judgeLight n).key = t.key := by
      intro t n; unfold Till.judgeLight; split <;> rfl
    unfold Lane.setGrant Lane.onDrawer Lane.setDrawer Lane.withTill
    simp only [judged]; cases d <;> rfl
  have drawer : (p.setGrant d).drawer d = { p.drawer d with grant := true } := by
    unfold Lane.setGrant Lane.onDrawer; rw [Lane.drawer_setDrawer]
  unfold Lane.autoKick
  rw [drawer, if_congr (by rw [Till.locked_iff, key]) rfl rfl]
  refine ite_agree (fun _ => rfl) (fun _ => ?_)
  cases (p.drawer d).state <;> rfl

/-! ## What handing events over and starting a job can change -/

/-- A link that differs from another at most in the frames it is to send and in its flags. -/
def Link.sends (l m : Link) : Prop :=
  m = { l with events := m.events, sending := m.sending, reply := m.reply, flags := m.flags }

theorem Link.sends_refl (l : Link) : l.sends l := rfl

theorem Link.sends_trans {l m n : Link} (h : l.sends m) (h' : m.sends n) : l.sends n := by
  unfold Link.sends at *; rw [h', h]

/-- Handing an event over changes only the frames to send and the flags. -/
theorem Link.sends_handEvent (l : Link) (m : Message) : l.sends (l.handEvent m) := by
  unfold Link.handEvent
  split
  · split
    · rcases Link.pump_cases { l with events := l.events ++ [m] } with h | h | h | h
      · rw [h]; rfl
      · obtain ⟨_, _, _, h⟩ := h; rw [h]; rfl
      · obtain ⟨_, _, _, _, _, _, _, h⟩ := h; rw [h]; rfl
      · obtain ⟨_, _, _, _, _, h⟩ := h; rw [h]; rfl
    · rfl
  · rfl

theorem Lane.sends_event (code : Byte) (fields : List Field) (p : Lane) : p.link.sends (p.event code fields).link :=
  Link.sends_handEvent _ _

theorem Lane.sends_leaveTender (p : Lane) : p.link.sends p.leaveTender.link := by
  unfold Lane.leaveTender; dsimp only; split
  · exact Lane.sends_event _ _ _
  · rfl

/-- What a job keeps through its states. -/
def Job.named (j : Job) : JobKind × Option (Fin 6) × Option Nat :=
  (j.kind, j.context, j.txn)

/-- A lane that differs from another at most by what starting a job does: frames to send, flags, the composer's
position, the state of a job and the engine's registers. -/
structure Lane.startsTo (p q : Lane) : Prop where
  link : p.link.sends q.link
  composer : q.composer = { p.composer with position := q.composer.position }
  jobs : q.printer.queue.map Job.named = p.printer.queue.map Job.named
  sale : q.sale = p.sale

theorem Lane.startsTo.trans {p q r : Lane} (h : p.startsTo q) (h' : q.startsTo r) : p.startsTo r :=
  ⟨Link.sends_trans h.link h'.link, by rw [h'.composer, h.composer], h'.jobs.trans h.jobs, h'.sale.trans h.sale⟩

theorem Printer.jobs_setHead (s : JobState) (e : Printer) :
    (e.setHead s).queue.map Job.named = e.queue.map Job.named := by
  unfold Printer.setHead; split <;> simp_all [Job.named]

theorem Lane.startsTo_startRow (p : Lane) : p.startsTo p.startRow := by
  unfold Lane.startRow Lane.pauseHead
  split
  · split
    · exact ⟨rfl, rfl, rfl, rfl⟩
    · exact ⟨Lane.sends_event _ _ _, rfl, Printer.jobs_setHead _ _, rfl⟩
  · exact ⟨rfl, rfl, rfl, rfl⟩

theorem Lane.startsTo_askLine (j : Job) (p : Lane) : p.startsTo (p.askLine j).1 := by
  unfold Lane.askLine; dsimp only; split <;> exact ⟨rfl, rfl, rfl, rfl⟩

theorem Lane.startsTo_nextLine (j : Job) (p : Lane) : p.startsTo (p.nextLine j) := by
  have asked := Lane.startsTo_askLine j p
  unfold Lane.nextLine
  split
  · rename_i h
    rw [h] at asked
    refine asked.trans (Lane.startsTo.trans ?_ (Lane.startsTo_startRow _))
    exact ⟨rfl, rfl, rfl, rfl⟩
  · rename_i h
    rw [h] at asked
    refine asked.trans (Lane.startsTo.trans ?_ (Lane.startsTo_startRow _))
    exact ⟨rfl, rfl, rfl, rfl⟩

theorem Lane.startsTo_startHead (p : Lane) : p.startsTo p.startHead := by
  unfold Lane.startHead
  split
  · exact ⟨rfl, rfl, rfl, rfl⟩
  · refine Lane.startsTo.trans ?_ (Lane.startsTo_nextLine _ _)
    exact ⟨rfl, rfl, Printer.jobs_setHead _ _, rfl⟩

/-- Placing a job appends it, or with four jobs backlogs it; what else can change is what starting it changes. -/
theorem Lane.placeJob_cases (k : JobKind) (i : Fin 6) (p : Lane) :
    p.link.sends (p.placeJob k i).link ∧
    (p.placeJob k i).composer = { p.composer with position := (p.placeJob k i).composer.position } ∧
    (p.placeJob k i).sale = { p.sale with backlog := (p.placeJob k i).sale.backlog } ∧
    (4 ≤ p.printer.queue.length → p.placeJob k i = { p with sale := { p.sale with backlog := some ⟨k, i⟩ } }) ∧
    (p.printer.queue.length < 4 →
      (p.placeJob k i).printer.queue.map Job.named =
        p.printer.queue.map Job.named ++ [(k, some i, (p.ctx i).txn)] ∧
      (p.placeJob k i).sale = p.sale ∧
      (p.printer.engine ≠ .idle →
        p.placeJob k i =
          { p with printer := { p.printer with
              queue := p.printer.queue ++ [⟨k, some i, (p.ctx i).txn, .queued⟩] } })) := by
  have named : (p.enqueue (p.jobFor k i)).printer.queue.map Job.named =
      p.printer.queue.map Job.named ++ [(k, some i, (p.ctx i).txn)] := by
    simp [Lane.enqueue, Lane.withPrinter, Lane.jobFor, Job.named]
  unfold Lane.placeJob Lane.queueFull
  by_cases h : 4 ≤ p.printer.queue.length
  · rw [if_pos (by simpa using h)]
    exact ⟨rfl, rfl, rfl, fun _ => rfl, fun x => absurd h (by omega)⟩
  · rw [if_neg (by simpa using h)]
    unfold Lane.appendJob
    split
    · rename_i idle
      have r := Lane.startsTo_startHead (p.enqueue (p.jobFor k i))
      exact ⟨r.link, r.composer, by rw [r.sale]; rfl, fun x => absurd x h, fun _ =>
        ⟨r.jobs.trans named, r.sale, fun x => absurd idle x⟩⟩
    · exact ⟨rfl, rfl, rfl, fun x => absurd x h, fun _ => ⟨named, rfl, fun _ => rfl⟩⟩

/-- Placing a job leaves the contexts. -/
theorem Lane.ctx_placeJob (k : JobKind) (i j : Fin 6) (p : Lane) : (p.placeJob k i).ctx j = p.ctx j :=
  Lane.ctx_congr (by rw [(Lane.placeJob_cases k i p).2.2.1]) j

/-- Settling a context marks it settled and PRINT_HELD and leaves the other contexts. -/
theorem Lane.ctx_settle (i j : Fin 6) (by_ : SettledBy) (p : Lane) :
    (p.settle i by_).ctx j = if j = i then { p.ctx i with
      saleState := some .settled, closeTime := p.link.clock, changeDue := (p.ctx i).tenderSum - (p.ctx i).subtotal, role := .printHeld } else p.ctx j := by
  unfold Lane.settle
  dsimp only
  have hse : ∀ (q : Lane) a b c d, (q.settledEvent a b c d).ctx j = q.ctx j := fun _ _ _ _ _ => rfl
  rw [hse, Lane.ctx_placeJob]
  unfold Lane.setRole
  have hg : ∀ (q : Lane) c k, (q.grantAndOpen c).1.ctx k = q.ctx k := by
    intro q c k
    exact Lane.ctx_congr (by simp) k
  have hl : ∀ q : Lane, ∀ k, (if by_ = .total then q else q.leaveTender).ctx k = q.ctx k := by
    intro q k; split
    · rfl
    · exact Lane.ctx_congr (by simp) k
  simp only [Lane.ctx_setCtx, hg, hl]
  by_cases h : j = i
  · subst h; simp [Context.settled, Lane.clock]
  · have : ¬ i = j := fun x => h x.symm
    simp [h, this]

/-- Settling, in one expression: the figures, the notice, the grant and auto-open, the role, the job, SETTLED. -/
theorem Lane.settle_eq (i : Fin 6) (by_ : SettledBy) (p : Lane) :
    let c := (p.ctx i).settled p.clock
    let left := if by_ = .total then p.setCtx i c else (p.setCtx i c).leaveTender
    let opened := left.grantAndOpen c
    p.settle i by_ =
      ((opened.1.setCtx i { c with role := .printHeld }).placeJob .receipt i).event 0x91#8
        ([.u8 i, .u16 (c.txn.getD 0), .name by_.code, .money c.subtotal, .money c.tenderSum, .money c.changeDue,
          .money c.cashback, .u8 c.tenders.length, .name (drawerCode c.drawer), .flag c.grantDue] ++
          opened.2.fields ++ [.name (if 4 ≤ p.printer.queue.length then 1 else 0)] ++ stampField p.clock) := by
  intro c left opened
  have ctx : opened.1.ctx i = c := by
    rw [Lane.ctx_congr (show opened.1.sale.contexts = left.sale.contexts by simp [opened])]
    simp only [left]; split
    · simp
    · rw [Lane.ctx_congr (q := p.setCtx i c) (by simp)]; simp
  have printer : opened.1.printer = p.printer := by
    have : left.printer = p.printer := by simp only [left]; split <;> simp
    simp [opened, this]
  have from_ : ∀ r : Lane × AutoOpen, r.1.ctx i = c → r.1.printer = p.printer →
      ((r.1.setRole i .printHeld).placeJob .receipt i).settledEvent i by_ r.2 (r.1.setRole i .printHeld).queueFull =
        ((r.1.setCtx i { c with role := .printHeld }).placeJob .receipt i).event 0x91#8
        ([.u8 i, .u16 (c.txn.getD 0), .name by_.code, .money c.subtotal, .money c.tenderSum, .money c.changeDue,
          .money c.cashback, .u8 c.tenders.length, .name (drawerCode c.drawer), .flag c.grantDue] ++
          r.2.fields ++ [.name (if 4 ≤ p.printer.queue.length then 1 else 0)] ++ stampField p.clock) := by
    intro r hc hr
    unfold Lane.setRole
    rw [hc]
    have full : (r.1.setCtx i { c with role := .printHeld }).queueFull = decide (4 ≤ p.printer.queue.length) := by
      rw [← hr]; rfl
    rw [full]
    unfold Lane.settledEvent
    rw [Lane.ctx_placeJob, Lane.ctx_setCtx, if_pos rfl]
    simp only [decide_eq_true_eq]
    rfl
  exact from_ _ ctx printer

/-- A recorded character has its track's number of bits. -/
theorem length_recordedCharacter (k : Track) (v : Nat) : (recordedCharacter k v).length = characterBits k := by
  cases k <;> simp [recordedCharacter, characterBits]

/-- The first bits of a record are its first character. -/
theorem take_recordedCharacter (k : Track) (v : Nat) (rest : List Bool) : (recordedCharacter k v ++ rest).take (characterBits k) = recordedCharacter k v := by
  rw [List.take_append_of_le_length (by rw [length_recordedCharacter]), List.take_of_length_le (by rw [length_recordedCharacter])]

/-- What follows the first character. -/
theorem drop_recordedCharacter (k : Track) (v : Nat) (rest : List Bool) : (recordedCharacter k v ++ rest).drop (characterBits k) = rest := by
  rw [List.drop_append_of_le_length (by rw [length_recordedCharacter]), List.drop_of_length_le (by rw [length_recordedCharacter]), List.nil_append]

/-- The first character of a record is read as its value. -/
theorem characterValue_take (k : Track) (v : Nat) (h : v < 2 ^ (characterBits k - 1)) (rest : List Bool) : characterValue k (recordedCharacter k v ++ rest |>.take (characterBits k)) = v := by
  have : (recordedCharacter k v ++ rest |>.take (characterBits k)) = recordedCharacter k v := by
    rw [List.take_append_of_le_length (by rw [length_recordedCharacter]), List.take_of_length_le (by rw [length_recordedCharacter])]
  rw [this]
  cases k
  · simp only [characterBits] at h
    have : ∀ v : Fin 64, characterValue .a (recordedCharacter .a v) = v := by decide
    exact this ⟨v, h⟩
  · simp only [characterBits] at h
    have : ∀ v : Fin 16, characterValue .b (recordedCharacter .b v) = v := by decide
    exact this ⟨v, h⟩

/-- A recorded character is read as its value. -/
theorem characterValue_recordedCharacter (k : Track) (v : Nat) (h : v < 2 ^ (characterBits k - 1)) : characterValue k (recordedCharacter k v) = v := by
  have := characterValue_take k v h []
  rw [take_recordedCharacter] at this; exact this

/-- A recorded character has odd parity. -/
theorem oddParity_recordedCharacter (k : Track) (v : Nat) (h : v < 2 ^ (characterBits k - 1)) : oddParity (recordedCharacter k v) = true := by
  cases k
  · simp only [characterBits] at h
    have : ∀ v : Fin 64, oddParity (recordedCharacter .a v) = true := by decide
    exact this ⟨v, h⟩
  · simp only [characterBits] at h
    have : ∀ v : Fin 16, oddParity (recordedCharacter .b v) = true := by decide
    exact this ⟨v, h⟩

/-- The LRC stays a character value. -/
theorem xor_lt (k : Track) (a b : Nat) (h : a < 2 ^ (characterBits k - 1)) (h' : b < 2 ^ (characterBits k - 1)) : a ^^^ b < 2 ^ (characterBits k - 1) := Nat.xor_lt_two_pow h h'

/-- The end sentinel is a character value. -/
theorem endSentinel_lt (k : Track) : endSentinel k < 2 ^ (characterBits k - 1) := by cases k <;> decide

/-- The start sentinel is a character value. -/
theorem startSentinel_lt (k : Track) : startSentinel k < 2 ^ (characterBits k - 1) := by cases k <;> decide

/-- The sentinels differ. -/
theorem startSentinel_ne (k : Track) : startSentinel k ≠ endSentinel k := by cases k <;> decide

/-- Recorded characters with their end sentinel and LRC are read back. -/
theorem readCharacters_recorded (k : Track) (trail : List Bool) : ∀ (vs : List Nat) (room lrc : Nat) (image : Text),
    (∀ v ∈ vs, v < 2 ^ (characterBits k - 1) ∧ v ≠ endSentinel k) → vs.length + 1 ≤ room → lrc < 2 ^ (characterBits k - 1) →
    readCharacters k room ((vs ++ [endSentinel k] ++ [(vs ++ [endSentinel k]).foldl (fun x y => x ^^^ y) lrc]).flatMap (recordedCharacter k) ++ trail) lrc image
      = (.ok, image ++ (vs ++ [endSentinel k]).map (characterOf k)) := by
  intro vs
  induction vs with
  | nil =>
    intro room lrc image _ hr hl
    obtain ⟨room, rfl⟩ : ∃ r, room = r + 1 := ⟨room - 1, by simp at hr; omega⟩
    simp only [List.nil_append, List.foldl_cons, List.foldl_nil, List.singleton_append, List.flatMap_cons, List.flatMap_nil, List.append_nil, List.append_assoc]
    simp only [readCharacters, take_recordedCharacter, drop_recordedCharacter, characterValue_recordedCharacter k _ (endSentinel_lt k), oddParity_recordedCharacter k _ (endSentinel_lt k), length_recordedCharacter]
    simp only [lt_irrefl, if_false, Bool.not_true, Bool.false_eq_true, if_true]
    have hx := xor_lt k _ _ hl (endSentinel_lt k)
    simp [checkLrc, take_recordedCharacter, length_recordedCharacter, characterValue_recordedCharacter k _ hx, oddParity_recordedCharacter k _ hx]
  | cons v vs ih =>
    intro room lrc image hv hr hl
    obtain ⟨room, rfl⟩ : ∃ r, room = r + 1 := ⟨room - 1, by simp at hr; omega⟩
    have h1 := hv v (by simp)
    simp only [List.cons_append, List.foldl_cons, List.flatMap_cons, List.append_assoc]
    simp only [readCharacters, take_recordedCharacter, drop_recordedCharacter, characterValue_recordedCharacter k _ h1.1, oddParity_recordedCharacter k _ h1.1, length_recordedCharacter]
    simp only [lt_irrefl, if_false, Bool.not_true, Bool.false_eq_true, h1.2]
    have := ih room (lrc ^^^ v) (image ++ [characterOf k v]) (fun x hx => hv x (by simp [hx])) (by simp at hr; omega) (xor_lt k _ _ hl h1.1)
    simp only [List.append_assoc, List.cons_append] at this ⊢
    simpa using this

/-- A numbered list at a place. -/
theorem getElem_numbered {α} (n : Nat) (xs : List α) (k : Nat) : (numbered n xs)[k]? = xs[k]?.map (fun x => (n+k, x)) := by
  induction xs generalizing n k with
  | nil => simp [numbered]
  | cons x xs ih => cases k with
    | zero => simp [numbered]
    | succ k => simp [numbered, ih]; congr; funext; simp; omega

/-- A numbered list without its numbers. -/
theorem map_numbered {α β} (n : Nat) (xs : List α) (f : α → β) : (numbered n xs).map (fun p => f p.2) = xs.map f := by
  induction xs generalizing n with
  | nil => simp [numbered]
  | cons x xs ih => simp [numbered, ih]

/-- A receipt line of two parts that fit is 32 characters. -/
theorem length_textLine (l r : Text) (h : l.length + r.length ≤ 32) : (textLine l r).length = 32 := by
  simp [textLine, blanks]; omega

/-- The strobe groups are the least number that covers the dots. -/
theorem strobeGroups_bounds (b l : Nat) (hl : 0 < l) : b ≤ strobeGroups b l * l ∧ strobeGroups b l * l < b + l := by
  unfold strobeGroups
  have := Nat.div_add_mod (b + l - 1) l
  have h2 := Nat.mod_lt (b + l - 1) hl
  rw [Nat.mul_comm] at this
  omega

/-- The digits of a prefix match at every place that is no wildcard position. -/
theorem prefixMatches_iff (mask : BitVec 8) (digits : Text) : ∀ (n : Nat) (account : Text),
    prefixMatches mask n digits account = true ↔
      ∀ p d, n ≤ p → digits[p - n]? = some d → mask.getLsbD (p - 1) = true ∨ account[p - n]? = some d := by
  induction digits with
  | nil => intro n account; simp [prefixMatches]
  | cons x xs ih =>
    intro n account
    simp only [prefixMatches, Bool.and_eq_true, Bool.or_eq_true, wildcard, beq_iff_eq, ih]
    constructor
    · rintro ⟨h, hs⟩ p d hp hd
      rcases Nat.eq_or_lt_of_le hp with rfl | hlt
      · simp only [Nat.sub_self, List.getElem?_cons_zero, Option.some.injEq] at hd; subst hd
        rw [Nat.sub_self, ← List.head?_eq_getElem?]; exact h
      · have e : p - n = (p - (n + 1)) + 1 := by omega
        rw [e] at hd ⊢
        have := hs p d hlt (by simpa using hd)
        rwa [List.getElem?_tail] at this
    · intro h
      refine ⟨?_, fun p d hp hd => ?_⟩
      · have := h n x (Nat.le_refl n) (by simp)
        rwa [Nat.sub_self, ← List.head?_eq_getElem?] at this
      · have e : p - n = (p - (n + 1)) + 1 := by omega
        have := h p d (by omega) (by rw [e]; simpa using hd)
        rw [e] at this; rwa [List.getElem?_tail]

/-- An entry matches an account by its valid flag, its lengths and its digits under its mask (R96). -/
theorem Cards.matchesAt_iff (c : Cards) (account : Text) (i : Fin 24) :
    c.matchesAt account i = true ↔
      c.table[i].valid = true ∧ ∃ lo hi digits, c.table[i].lengthMin = some lo ∧ c.table[i].lengthMax = some hi ∧
        c.table[i].digits = some digits ∧ lo ≤ account.length ∧ account.length ≤ hi ∧
        ∀ p d, 1 ≤ p → digits[p - 1]? = some d →
          (if i.val < 22 then c.sharedMask else c.table[i].ownMask).getLsbD (p - 1) = true ∨ account[p - 1]? = some d := by
  have hm : c.maskFor i = if i.val < 22 then c.sharedMask else c.table[i].ownMask := by
    have h : ownsMask i = true ↔ ¬ i.val < 22 := by simp [ownsMask]
    unfold Cards.maskFor
    by_cases hi : i.val < 22
    · rw [if_pos hi, if_neg (by rw [h]; exact not_not.2 hi)]
    · rw [if_neg hi, if_pos (h.2 hi)]
  unfold Cards.matchesAt RangeEntry.accepts
  rw [← hm]
  rcases c.table[i].lengthMin with _ | lo <;> rcases c.table[i].lengthMax with _ | hi <;>
    rcases c.table[i].digits with _ | ds <;> simp [prefixMatches_iff, and_assoc]

/-- Without the separator nothing stands after it. -/
theorem afterSeparator_absent (x : Byte) (a : Text) (h : x ∉ a) : afterSeparator x a = none := by
  unfold afterSeparator
  rw [List.dropWhile_eq_nil_iff.2]
  intro y hy; simp; rintro rfl; exact h hy

/-- What stands after the first separator. -/
theorem afterSeparator_append (x : Byte) (a r : Text) (h : x ∉ a) : afterSeparator x (a ++ x :: r) = some r := by
  unfold afterSeparator
  rw [List.dropWhile_append_of_pos]
  · simp
  · intro y hy; simp; rintro rfl; exact h hy

/-- Without the separator everything stands before it. -/
theorem beforeSeparator_absent (x : Byte) (a : Text) (h : x ∉ a) : beforeSeparator x a = a := by
  unfold beforeSeparator
  rw [List.takeWhile_eq_self_iff]
  intro y hy; simp; rintro rfl; exact h hy

/-- What stands before the first separator. -/
theorem beforeSeparator_append (x : Byte) (a r : Text) (h : x ∉ a) : beforeSeparator x (a ++ x :: r) = a := by
  unfold beforeSeparator
  rw [List.takeWhile_append_of_pos]
  · simp
  · intro y hy; simp; rintro rfl; exact h hy

/-- An account field is one or more digits. -/
theorem accountFieldOk_iff (t : Text) : accountFieldOk t = true ↔ t ≠ [] ∧ ∀ c ∈ t, 0x30 ≤ c.toNat ∧ c.toNat ≤ 0x39 := by
  simp [accountFieldOk, isDigit, BitVec.le_def]

/-- The characters between two sentinels. -/
theorem innerText_sentinels (x y : Byte) (t : Text) : innerText (x :: (t ++ [y])) = t := by simp [innerText]

/-- A blinking lamp is lit in the first half of every period. -/
theorem litHalf_after (half periods into : Nat) (h : into < 2 * half) :
    litHalf half (periods * (2 * half) + into) = decide (into < half) := by
  unfold litHalf
  rw [Nat.mul_comm, Nat.mul_add_mod, Nat.mod_eq_of_lt h]

/-- A dot of a line's row is black where a character that is no space stands and the font is black. -/
theorem mem_rowDots (text : Text) (row place : Nat) :
    place ∈ rowDots text row ↔
      row < 24 ∧ ∃ c, text[place / 14]? = some c ∧ c ≠ 0x20#8 ∧ (Config.fontRow c row).getLsbD (place % 14) = true := by
  unfold rowDots
  by_cases hr : row < 24
  · rw [if_pos hr, List.mem_filter, List.mem_range]
    simp only [dotBlack, hr, true_and]
    constructor
    · rintro ⟨_, h⟩
      split at h
      · rename_i c hc; exact ⟨c, hc, by simpa using h⟩
      · exact absurd h (by simp)
    · rintro ⟨c, hc, h⟩
      have := (List.getElem?_eq_some_iff.1 hc).1
      exact ⟨by omega, by rw [hc]; simpa using h⟩
  · simp [hr]

/-- The black dots of a row stand from the left. -/
theorem rowDots_sorted (text : Text) (row : Nat) : (rowDots text row).Pairwise (· < ·) := by
  unfold rowDots; split
  · exact List.pairwise_lt_range.filter _
  · exact List.Pairwise.nil

/-- Rows 24 to 29, and a line of spaces, have no black dots. -/
theorem rowDots_blank (text : Text) (row : Nat) (h : 24 ≤ row ∨ ∀ c ∈ text, c = 0x20#8) : rowDots text row = [] := by
  rw [List.eq_nil_iff_forall_not_mem]
  intro place hp
  obtain ⟨hr, c, hc, hn, _⟩ := (mem_rowDots text row place).1 hp
  rcases h with h | h
  · omega
  · exact hn (h c (List.mem_of_getElem? hc))

/-- The first n groups hold the first n times the limit of the dots. -/
theorem flatten_groups (limit : Nat) : ∀ (n : Nat) (dots : List Nat),
    ((List.range n).map fun k => (dots.drop (k * limit)).take limit).flatten = dots.take (n * limit) := by
  intro n
  induction n with
  | zero => simp
  | succ n ih =>
    intro dots
    rw [List.range_succ, List.map_append, List.flatten_append, ih, Nat.add_mul, Nat.one_mul, List.take_add]
    simp

/-- The strobe groups hold every black dot, in order. -/
theorem groupDots_flatten (dots : List Nat) (limit : Nat) (h : 0 < limit) : (groupDots dots limit).flatten = dots := by
  rw [groupDots, flatten_groups, List.take_of_length_le (strobeGroups_bounds _ _ h).1]

/-- There are as many groups as the count of groups says. -/
theorem length_groupDots (dots : List Nat) (limit : Nat) : (groupDots dots limit).length = strobeGroups dots.length limit := by
  simp [groupDots]

/-- A group is the next dots, as many as the limit or the rest. -/
theorem getElem_groupDots (dots : List Nat) (limit k : Nat) (h : k < strobeGroups dots.length limit) :
    (groupDots dots limit)[k]? = some ((dots.drop (k * limit)).take limit) := by
  simp [groupDots, h]

/-- Each group is fired in its turn for the strobe time. -/
theorem firing_group (f : RowFigures) (start k into : Nat) (he : f.ends = start + f.period) (h : into < f.strobe) :
    f.firing (start + k * f.strobe + into) = f.fires.getD k [] := by
  have e : (start + k * f.strobe + into + f.period - f.ends) / f.strobe = k := by
    rw [he, show start + k * f.strobe + into + f.period - (start + f.period) = into + f.strobe * k by
      rw [Nat.mul_comm]; omega, Nat.add_mul_div_left _ _ (by omega), Nat.div_eq_of_lt h, Nat.zero_add]
  rw [RowFigures.firing, e]

/-- The end of RESET_LANE's reply is the lane reset (R191). -/
theorem Lane.replySent_resetsLane (p : Lane) (m : Message) (h : m.resetsLane = true) : p.replySent m = p.laneReset := by
  unfold Lane.replySent
  simp only [h, if_true]
  unfold Lane.laneReset Lane.cutForReset Lane.lineFree Lane.withLink
  dsimp only
  cases p.till.driver <;> rfl

/-- Outside CAL the values of the last restart are in force, or the defaults when the record is not VALID (R69). -/
theorem Lane.inForceOutsideCal_eq (p : Lane) :
    p.inForceOutsideCal =
      match p.store.calRecord with
      | .valid _ => p.scale.atRestart
      | .erased | .corrupt => CalValues.defaults := by
  unfold Lane.inForceOutsideCal Store.recordValid
  cases p.store.calRecord <;> simp

/-- A setting's byte names nothing when it is neither 0 nor 1. -/
theorem settingOf_isNone (b : Byte) : (settingOf b).isNone = true ↔ b ≠ 0#8 ∧ b ≠ 1#8 := by
  unfold settingOf
  by_cases h0 : b = 0#8
  · simp [h0]
  · by_cases h1 : b = 1#8 <;> simp [h0, h1]

end Sys2Proof.Machine
end

