-- ==== Sys2Proof/Laws/Values.lean ====
section
/-! SUPPORT. Laws/Values.lean: what the roundings, the CRC, the Luhn sum, the masked number, the printed numbers and
the setting bytes compute. -/

namespace Sys2Proof.Machine

/-! ## Rounding (00, Rounding) -/

/-- A natural quotient rounded half up lies within half a unit of the exact one, above it at a tie. -/
theorem roundHalfUp_bounds (n d : Nat) (h : 0 < d) :
    2 * (d * roundHalfUp n d) ≤ 2 * n + d ∧ 2 * n < 2 * (d * roundHalfUp n d) + d := by
  have low := Nat.mul_div_le (2 * n + d) (2 * d)
  have high := Nat.lt_mul_div_succ (2 * n + d) (show 0 < 2 * d by omega)
  simp only [Nat.mul_add, Nat.mul_assoc] at low high
  unfold roundHalfUp
  omega

/-- Rounding half away from zero rounds the magnitude half up and keeps the sign. -/
theorem roundHalfAway_ofNat (n d : Nat) : roundHalfAway n d = roundHalfUp n d := by
  unfold roundHalfAway roundHalfUp
  rw [if_neg (by omega)]
  push_cast; rfl

/-- Rounding half away from zero treats the two signs alike. -/
theorem roundHalfAway_neg (n d : Nat) (h : 0 < d) : roundHalfAway (-n) d = -roundHalfUp n d := by
  unfold roundHalfAway roundHalfUp
  split
  · push_cast; simp
  · have zero : n = 0 := by omega
    subst zero
    have none : (0 + d) / (2 * d) = 0 := Nat.div_eq_of_lt (by omega)
    have same : (2 * -((0 : Nat) : Int) + (d : Int)) / (2 * (d : Int)) = (((0 + d) / (2 * d) : Nat) : Int) := by
      push_cast; simp
    rw [same, none]; simp

/-- Rounding half away from zero gives the nearest whole number, at a tie the one farther from zero. -/
theorem roundHalfAway_nearest (num : Int) (den : Nat) (h : 0 < den) :
    2 * (num - roundHalfAway num den * den).natAbs ≤ den ∧
    (2 * (num - roundHalfAway num den * den).natAbs = den → num.natAbs < (roundHalfAway num den * den).natAbs) := by
  obtain ⟨n, rfl | rfl⟩ := num.eq_nat_or_neg
  · have b := roundHalfUp_bounds n den h
    rw [roundHalfAway_ofNat]
    rw [show ((roundHalfUp n den : Nat) : Int) * (den : Int) = ((den * roundHalfUp n den : Nat) : Int) by
      push_cast; exact mul_comm _ _]
    generalize den * roundHalfUp n den = w at *
    omega
  · have b := roundHalfUp_bounds n den h
    rw [roundHalfAway_neg n den h]
    rw [show -((roundHalfUp n den : Nat) : Int) * (den : Int) = -((den * roundHalfUp n den : Nat) : Int) by
      push_cast; rw [neg_mul, mul_comm]]
    generalize den * roundHalfUp n den = w at *
    omega

/-- A count is a rail value when it is one of three. -/
theorem railCount_iff (n : Int) : railCount n = true ↔ n = 8388607 ∨ n = -8388607 ∨ n = -8388608 := by
  simp [railCount]

/-! ## The CRC (R181) -/

/-- The CRC register's step is linear. -/
theorem crcShift_xor (x y : BitVec 16) : crcShift (x ^^^ y) = crcShift x ^^^ crcShift y := by
  unfold crcShift
  rw [BitVec.msb_xor]
  cases hx : x.msb <;> cases hy : y.msb <;> simp [BitVec.shiftLeft_xor_distrib, BitVec.xor_assoc] <;> ac_rfl

/-- One bit taken into the CRC register: a shift left, with 1021h added when the bit that leaves differs from it. -/
def crcBit (c : BitVec 16) (taken : Bool) : BitVec 16 :=
  if c.getLsbD 15 = taken then c <<< 1 else (c <<< 1) ^^^ 0x1021#16

/-- A bit is taken by adding it to the top of the register and stepping. -/
theorem crcBit_eq (c : BitVec 16) (t : Bool) : crcBit c t = crcShift (c ^^^ (if t then 0x8000#16 else 0#16)) := by
  unfold crcBit crcShift
  rw [BitVec.msb_eq_getLsbD_last]
  have top : (0x8000#16 : BitVec 16).getLsbD 15 = true := by decide
  have gone : (0x8000#16 : BitVec 16) <<< 1 = 0#16 := by decide
  show _ = if (c ^^^ (if t = true then 0x8000#16 else 0#16)).getLsbD 15 = true then _ else _
  cases t <;> cases h : c.getLsbD 15 <;>
    simp only [if_true, Bool.false_eq_true, reduceCtorEq, if_false, BitVec.xor_zero, BitVec.getLsbD_xor, h, top,
      Bool.xor_true, Bool.not_true, Bool.not_false, BitVec.shiftLeft_xor_distrib, gone]

/-- The eight bits of a byte, the most significant first. -/
def bitsOfByte (b : Byte) : List Bool :=
  [7, 6, 5, 4, 3, 2, 1, 0].map b.getLsbD

/-- Taking a byte's bits into a register is taking them into an empty one and adding the register stepped eight
times. -/
theorem crcBits_linear (b : Byte) (c : BitVec 16) :
    (bitsOfByte b).foldl crcBit c =
      crcShift (crcShift (crcShift (crcShift (crcShift (crcShift (crcShift (crcShift c))))))) ^^^
        (bitsOfByte b).foldl crcBit 0#16 := by
  have zero : crcShift 0#16 = 0#16 := by decide
  simp only [bitsOfByte, List.map, List.foldl, crcBit_eq, crcShift_xor, BitVec.xor_assoc]
  simp [zero]

/-- A byte added to the high half of an empty register and stepped eight times is its bits taken one by one. -/
theorem crcBits_byte :
    ∀ b : Byte, crcByte 0#16 b = (bitsOfByte b).foldl crcBit 0#16 := by decide +kernel

/-- A byte is taken into the CRC bit by bit, the most significant first. -/
theorem crcByte_bits (c : BitVec 16) (b : Byte) : crcByte c b = (bitsOfByte b).foldl crcBit c := by
  rw [crcBits_linear, ← crcBits_byte]
  simp only [crcByte, crcShift_xor, BitVec.zero_xor]

/-- The CRC of one more byte. -/
theorem crc16_append (bytes : Text) (b : Byte) : crc16 (bytes ++ [b]) = (bitsOfByte b).foldl crcBit (crc16 bytes) := by
  unfold crc16
  rw [List.foldl_append]
  exact crcByte_bits _ _

/-- A CRC on the line is its high byte and its low byte. -/
theorem put16_crc (c : BitVec 16) : put16 c.toNat = [c.extractLsb' 8 8, c.extractLsb' 0 8] := by
  have high : BitVec.ofNat 8 (c.toNat / 256) = c.extractLsb' 8 8 := by
    apply BitVec.eq_of_toNat_eq; simp [BitVec.extractLsb'_toNat, Nat.shiftRight_eq_div_pow]
  have low : BitVec.ofNat 8 c.toNat = c.extractLsb' 0 8 := by
    apply BitVec.eq_of_toNat_eq; simp [BitVec.extractLsb'_toNat]
  unfold put16; rw [high, low]

/-- The payload length of a buffer is its second and third byte. -/
theorem payloadLength_cons (start high low : Byte) (rest : Text) :
    payloadLength (start :: high :: low :: rest) = 256 * high.toNat + low.toNat := by
  simp [payloadLength]; omega

/-! ## Account numbers (R94, 6.3) -/

/-- What a digit adds to the Luhn sum at a place, counted from 1 at the right. -/
def luhnValue (d : Byte) (place : Nat) : Nat :=
  let v := d.toNat - 0x30
  if place % 2 = 1 then v else if 9 < 2 * v then 2 * v - 9 else 2 * v

/-- The Luhn sum is the sum over the places. -/
theorem luhnFrom_eq (digits : Text) : ∀ n : Nat,
    luhnFrom (n % 2 == 0) digits = ((digits.zipIdx n).map fun x => luhnValue x.1 x.2).sum := by
  induction digits with
  | nil => intro n; cases (n % 2 == 0) <;> rfl
  | cons d rest ih =>
    intro n
    have next := ih (n + 1)
    rcases Nat.mod_two_eq_zero_or_one n with h | h
    · have h' : (n + 1) % 2 = 1 := by omega
      simp only [h, h', List.zipIdx_cons, List.map_cons, List.sum_cons, luhnValue] at next ⊢
      rw [← next]; rfl
    · have h' : (n + 1) % 2 = 0 := by omega
      simp only [h, h', List.zipIdx_cons, List.map_cons, List.sum_cons, luhnValue] at next ⊢
      rw [← next]; rfl

/-- A masked number is as long as the number. -/
theorem length_maskedAccount (account : Text) (h : 10 ≤ account.length) :
    (maskedAccount account).length = account.length := by
  simp [maskedAccount, lastFour]; omega

/-- A masked number shows the first 6 and the last 4 digits. -/
theorem getElem_maskedAccount (account : Text) (h : 10 ≤ account.length) (k : Nat) (hk : k < account.length) :
    (maskedAccount account)[k]? = if k < 6 ∨ account.length ≤ k + 4 then account[k]? else some 0x2A#8 := by
  unfold maskedAccount lastFour
  by_cases h6 : k < 6
  · rw [if_pos (.inl h6), List.append_assoc, List.getElem?_append_left (by simp; omega), List.getElem?_take_of_lt h6]
  · by_cases h4 : account.length ≤ k + 4
    · rw [if_pos (.inr h4), List.getElem?_append_right (by simp; omega)]
      simp
      congr 1; omega
    · rw [if_neg (by omega), List.getElem?_append_left (by simp; omega), List.getElem?_append_right (by simp; omega)]
      simp [List.getElem?_replicate]; omega

/-! ## Printed numbers (R152) -/

/-- The number a digit stands for. -/
theorem toNat_digitByte (n : Nat) : (digitByte n).toNat = 0x30 + n % 10 := by
  unfold digitByte; simp; omega

/-- With fuel enough, decimalFrom puts digits before the tail that spell the number without a leading zero. -/
theorem decimalFrom_spec : ∀ (fuel n : Nat) (tail : Text), n < 2 ^ fuel →
    ∃ ds : Text, decimalFrom fuel n tail = ds ++ tail ∧ (∀ c ∈ ds, 0x30 ≤ c.toNat ∧ c.toNat ≤ 0x39) ∧
      (∀ v, ds.foldl (fun v (c : Byte) => 10 * v + (c.toNat - 0x30)) v = v * 10 ^ ds.length + n) ∧
      (0 < fuel → ds ≠ []) ∧ (0 < n → ds.head? ≠ some 0x30#8) := by
  intro fuel
  induction fuel with
  | zero => intro n tail h; exact ⟨[], rfl, by simp, by simp at h; simp [h], by simp, by simp⟩
  | succ fuel ih =>
    intro n tail h
    have hd : 0x30 ≤ (digitByte n).toNat ∧ (digitByte n).toNat ≤ 0x39 := by rw [toNat_digitByte]; omega
    by_cases h10 : n < 10
    · refine ⟨[digitByte n], by simp [decimalFrom, h10], by simpa using hd, ?_, by simp, ?_⟩
      · intro v; simp [toNat_digitByte]; omega
      · intro hn e
        have : (digitByte n).toNat = 0x30 := by simp at e; rw [e]; rfl
        rw [toNat_digitByte] at this; omega
    · have hf : 0 < fuel := by
        rcases fuel with _ | f
        · simp at h; omega
        · omega
      obtain ⟨ds, e1, e2, e3, e4, e5⟩ := ih (n / 10) (digitByte n :: tail) (by rw [Nat.pow_succ] at h; omega)
      refine ⟨ds ++ [digitByte n], by simp [decimalFrom, h10, e1], ?_, ?_, by simp, ?_⟩
      · intro c hc; simp at hc; rcases hc with hc | hc
        · exact e2 c hc
        · subst hc; exact hd
      · intro v; simp [List.foldl_append, e3, toNat_digitByte, Nat.pow_succ]
        rw [← Nat.mul_assoc]
        generalize v * 10 ^ ds.length = w
        omega
      · intro _
        have lead := e5 (by omega)
        cases ds with
        | nil => exact absurd rfl (e4 hf)
        | cons a b => simpa using lead

/-- What decimal writes. -/
theorem decimal_spec (n : Nat) :
    (∀ c ∈ decimal n, 0x30 ≤ c.toNat ∧ c.toNat ≤ 0x39) ∧
    (decimal n).foldl (fun v c => 10 * v + (c.toNat - 0x30)) 0 = n ∧ decimal n ≠ [] ∧
    (0 < n → (decimal n).head? ≠ some 0x30#8) := by
  obtain ⟨ds, e1, e2, e3, e4, e5⟩ := decimalFrom_spec (n.log2 + 1) n [] Nat.lt_log2_self
  have h : decimal n = ds := by unfold decimal; rw [e1]; simp
  rw [h]
  exact ⟨e2, by rw [e3]; simp, e4 (by omega), e5⟩

/-! ## Setting bytes (R193, log entry 39) -/

/-- A setting's byte is read as its being 01h, or names nothing. -/
theorem settingOf_cases (b : Byte) :
    (settingOf b = none ∧ b ≠ 0#8 ∧ b ≠ 1#8) ∨
      (settingOf b = some (decide (b = 1#8)) ∧ ¬(b ≠ 0#8 ∧ b ≠ 1#8)) := by
  revert b; decide +kernel

end Sys2Proof.Machine
end

