-- ==== Sys2Proof/Tests/Slice0.lean ====
section
/-! SUPPORT. Tests/Slice0.lean: our own checks: an ill-formed term for each check of WellFormed, the spec's worked
examples, one step or two of each command on a small state, and a state that meets the hypotheses of each statement. -/

namespace Sys2Proof.Tests

set_option Elab.async false

open Sys2Proof Sys2Proof.Machine

/-! ## Small states -/

/-- The text of a string's characters. -/
def txt (s : String) : Text :=
  s.toList.map fun c => BitVec.ofNat 8 c.toNat

/-- The state after a command. -/
def after (c : Instr) (s : State) : State :=
  match exec c s with
  | .next t => t
  | .fault _ => s
  | .refused _ => s

/-- The fields of the reply that waits or is on the line. -/
def reply (s : State) : Option (List Field) :=
  match s.link.sending, s.link.reply with
  | some (.reply m), _ => some m.fields
  | _, some r => some r.message.fields
  | _, none => none

/-- The codes of the events on the line and in the queue. -/
def told (s : State) : List Nat :=
  (match s.link.sending with
   | some (.event m) => [m.code.toNat]
   | _ => []) ++ s.link.events.map fun m => m.code.toNat

/-- After reset, with the line idle and the key at REGISTER. -/
def quiet : State :=
  { State.reset with link := { Link.reset with sending := none, flags := 0 }, till := { Till.reset with key := .register } }

/-- The same at MANAGER. -/
def boss : State :=
  { quiet with till := { quiet.till with key := .manager } }

def a1 : ItemRecord := ⟨txt "APPLES", 500, none, false, .keyed 2 250⟩

/-- A sale with one item, number 7. -/
def opened : Context :=
  { Context.freed with role := .current, txn := some 7, saleState := some .opened, items := [a1], subtotal := 500 }

def tendering : Context :=
  { opened with saleState := some .tender }

def paid : Context :=
  { opened with role := .lastPrinted, saleState := some .settled, tenders := [⟨500, none, none⟩], tenderSum := 500 }

/-- With that sale in context 0. -/
def withSale (c : Context) (s : State) : State :=
  { s with sale := { s.sale with contexts := s.sale.contexts.set 0 c } }

def shop : State := withSale opened quiet

def till : State := withSale tendering quiet

/-- The weighing unit READY with a still load of 3,000 units. -/
def loaded : Scale :=
  { Scale.reset with
    unit := .ready, history := List.replicate 8 3000, window := List.replicate 8 3000
    chain := some ⟨3000, 3000, 3000, 20, 3000, 3000, 0⟩, conditions := ⟨true, false, false, false⟩ }

def weighing (s : State) : State := { s with scale := loaded }

def asked : Capture := ⟨0, 7, txt "PLUMS", 299, 30, 3000000, .noSample⟩

/-- With a capture pending. -/
def capturing (s : State) : State := { s with scale := { loaded with capture := some asked } }

/-- In CAL mode. -/
def inCal : State :=
  { weighing quiet with store := { Store.reset with switch := .closed, calState := .entered, working := some CalValues.defaults } }

def committing : State :=
  { inCal with store := { inCal.store with calState := .writing, write := some (.calCounter 1) } }

def card (state : CardState) : CardEntry :=
  ⟨5, .front, none, .debit, 3, txt "453201......0366", 16, .b, some (txt "2912"), some (txt "201"), none, false,
    (match state with | .fetched => none | _ => some ⟨txt "4532015112830366", none, none⟩), state,
    (match state with | .fetched => none | _ => some 60000000)⟩

def holding (e : CardEntry) (tender : Bool) (s : State) : State :=
  { s with cards := { s.cards with queue := [e], tenderMark := tender, handleCounter := 5 } }

def debitRange : RangeEntry := ⟨true, some (txt "45"), some .debit, some 16, some 16, true, 5000, 0⟩

def ranged (s : State) : State := { s with cards := { s.cards with table := s.cards.table.set 3 debitRange } }

def kick (basis : KickBasis) : Kick := ⟨basis, .terminal, 100, false⟩

/-- With drawer A in that record. -/
def withDrawer (r : DrawerRecord) (s : State) : State := { s with till := { s.till with drawerA := r } }

/-- Drawer A being driven. -/
def kicked : State :=
  let s := withDrawer { DrawerRecord.reset with state := .kicking, grant := true, kick := some (kick .grant) } quiet
  { s with till := { s.till with driver := some ⟨.a, 0⟩ } }

def slipJob : Job := ⟨.slip, none, none, .printing⟩

/-- A slip of one line being printed, its row 29 in flight. -/
def printing : State :=
  { quiet with
    composer := { Composer.reset with position := some ⟨.slip, none, [], 2, .slip 1, 1⟩ }
    printer := { Printer.reset with
      queue := [slipJob], slip := some [txt "HELLO"], engine := .running, line := some (textLine (txt "HELLO") [])
      lineNumber := 1, row := 29, figures := some ⟨0, 64, 0, [], 480, 1000, 1000⟩ } }

/-- The same job paused. -/
def pausedFor (r : PauseReason) : State :=
  { printing with printer := { printing.printer with
      queue := [{ slipJob with state := .paused r }], engine := .paused, figures := none } }

/-- The same job at its cut. -/
def cutting : State :=
  { printing with printer := { printing.printer with figures := none, phase := .cut, cutUntil := some 300000 } }

/-! ## WellFormed: an ill-formed term for each check -/

def inputs (t : Int) : ResetInputs :=
  ⟨none, .present, .shut, .present, .shut, .paper, .normal, .closed, .good, true, t, 0, .opened⟩

def long : Text := List.replicate 256 0x41#8

def entry (digits : Text) (lo hi : Nat) (limit : Int) (mask : List Nat) : RangeFields :=
  ⟨1, some digits, some 0, some lo, some hi, 1, limit, some mask⟩

theorem test_wellFormed_examples :
    (Instr.powerOn (inputs (-128)) .old).wellFormed = true ∧ (Instr.item 0 (txt "A") 65535 (-2147483648)).wellFormed = true ∧
      (Instr.rangeWrite 0 255 (entry (txt "1") 255 255 2147483647 [1, 8])).wellFormed = true ∧
      (Instr.slip 0 [txt "A"]).wellFormed = true ∧ (Instr.unknownRequest 0x0F#8 0 []).wellFormed = true := by
  decide +kernel

theorem test_illFormed_temperature :
    (Instr.powerOn (inputs (-129)) .old).wellFormed = false ∧ (Instr.powerOn (inputs 128) .old).wellFormed = false ∧
      (Instr.resetInput (inputs (-129)) .old).wellFormed = false ∧ (Instr.resetInput (inputs 128) .old).wellFormed = false ∧
      (Instr.headTempReading (-129)).wellFormed = false ∧ (Instr.headTempReading 128).wellFormed = false := by
  decide +kernel

theorem test_illFormed_items :
    (Instr.item 0 long 1 1).wellFormed = false ∧ (Instr.item 0 [] 65536 1).wellFormed = false ∧
      (Instr.item 0 [] 1 2147483648).wellFormed = false ∧ (Instr.item 0 [] 1 (-2147483649)).wellFormed = false ∧
      (Instr.voidItem 0 256).wellFormed = false ∧ (Instr.saleItems 0 256 1).wellFormed = false ∧
      (Instr.saleItems 0 1 256).wellFormed = false := by
  decide +kernel

theorem test_illFormed_weights :
    (Instr.tarePreset 0 65536).wellFormed = false ∧ (Instr.scaleSetup 0 0 256).wellFormed = false ∧
      (Instr.adcSample 8388608).wellFormed = false ∧ (Instr.adcSample (-8388609)).wellFormed = false ∧
      (Instr.weigh 0 long 1).wellFormed = false ∧ (Instr.weigh 0 [] 2147483648).wellFormed = false ∧
      (Instr.calSpan 0 2147483648).wellFormed = false ∧ (Instr.calSet 0 256 8 0).wellFormed = false ∧
      (Instr.calSet 0 8 256 0).wellFormed = false := by
  decide +kernel

theorem test_illFormed_cards :
    (Instr.cardExpired 0).wellFormed = false ∧ (Instr.cardExpired 256).wellFormed = false ∧
      (Instr.rangeWrite 0 256 (entry [] 1 1 0 [])).wellFormed = false ∧
      (Instr.rangeWrite 0 0 (entry long 1 1 0 [])).wellFormed = false ∧
      (Instr.rangeWrite 0 0 (entry [] 256 1 0 [])).wellFormed = false ∧
      (Instr.rangeWrite 0 0 (entry [] 1 256 0 [])).wellFormed = false ∧
      (Instr.rangeWrite 0 0 (entry [] 1 1 2147483648 [])).wellFormed = false ∧
      (Instr.rangeWrite 0 0 (entry [] 1 1 0 [9])).wellFormed = false ∧
      (Instr.rangeMask 0 [2, 1]).wellFormed = false ∧ (Instr.rangeRead 0 256).wellFormed = false ∧
      (Instr.cardSetup 0 256).wellFormed = false ∧ (Instr.cardFetch 0 256).wellFormed = false ∧
      (Instr.cardDiscard 0 256).wellFormed = false ∧ (Instr.declineCard 0 256).wellFormed = false := by
  decide +kernel

theorem test_illFormed_tenders :
    (Instr.tenderCash 0 2147483648).wellFormed = false ∧ (Instr.tenderCard 0 256 1 0 []).wellFormed = false ∧
      (Instr.tenderCard 0 1 2147483648 0 []).wellFormed = false ∧ (Instr.tenderCard 0 1 1 2147483648 []).wellFormed = false ∧
      (Instr.tenderCard 0 1 1 0 long).wellFormed = false ∧ (Instr.saleTenders 0 65536).wellFormed = false := by
  decide +kernel

theorem test_illFormed_till_and_printer :
    (Instr.drawerSetup 0 65536 0 0).wellFormed = false ∧ (Instr.drawerSetup 0 100 256 0).wellFormed = false ∧
      (Instr.slip 0 (List.replicate 256 [])).wellFormed = false ∧ (Instr.slip 0 [long]).wellFormed = false ∧
      (Instr.slip 0 (List.replicate 6 (List.replicate 255 0x41#8))).wellFormed = false ∧
      (Instr.headerSet 0 (List.replicate 256 []) 0).wellFormed = false ∧ (Instr.headerSet 0 [long] 0).wellFormed = false ∧
      (Instr.headerSet 0 [] 256).wellFormed = false ∧
      (Instr.headerSet 0 (List.replicate 6 (List.replicate 255 0x41#8)) 0).wellFormed = false ∧
      (Instr.feed 0 256).wellFormed = false := by
  decide +kernel

theorem test_illFormed_link :
    (Instr.clockSet 0 256 1 1 0 0 0).wellFormed = false ∧ (Instr.clockSet 0 0 256 1 0 0 0).wellFormed = false ∧
      (Instr.clockSet 0 0 1 256 0 0 0).wellFormed = false ∧ (Instr.clockSet 0 0 1 1 256 0 0).wellFormed = false ∧
      (Instr.clockSet 0 0 1 1 0 256 0).wellFormed = false ∧ (Instr.clockSet 0 0 1 1 0 0 256).wellFormed = false ∧
      (Instr.unknownRequest 0x10#8 0 []).wellFormed = false ∧
      (Instr.unknownRequest 0x0F#8 0 (List.replicate 1401 0)).wellFormed = false := by
  decide +kernel

/-! ## Worked examples of the spec -/

/-- R181. -/
theorem test_crc_of_the_nine_digits : crc16 (txt "123456789") = 0x29B1#16 := by decide +kernel

/-- R30's two means, R32's table, and a gross at the end of its range (R31). -/
theorem test_roundings :
    roundHalfAway (-25) 2 = -13 ∧ roundHalfAway 25 2 = 13 ∧ grossOf 16777215 0 65536 = 8388607 ∧
      grossOf (-8388607) 0 65536 = -8388607 ∧ roundTo 20 12349 = 12340 ∧ roundTo 20 59990 = 60000 ∧ roundTo 50 60010 = 60000 ∧ roundTo 50 60025 = 60050 ∧
      roundTo 20 (-30) = -40 := by
  decide +kernel

/-- R40. -/
theorem test_tareOf : tareOf 161 = 160 ∧ tareOf 60000 = 60000 ∧ tareOf 9 = 0 := by decide +kernel

/-- R152's table. -/
theorem test_amountText :
    [amountText 0 425, amountText 1 (-699), amountText 2 5, amountText 2 0, amountText 3 99999999] =
      [txt "425", txt "-69.9", txt "0.05", txt "0.00", txt "99999.999"] ∧ weightText 1218 = txt "1.218" ∧
      weightText 40 = txt "0.040" := by
  decide +kernel

/-- A receipt of one item, paid with cash, written out from R153 to R156; it meets the composer statement's hypothesis. -/
theorem test_receipt :
    let q : Position := ⟨.receipt, some 0, [txt "SHOP"], 2, .header 0, 0⟩
    q.context = some 0 ∧ ((withSale paid quiet).toLane.jobLines q).map (fun line => line.2) =
      [txt "SHOP                            ", txt "SALE 7                     --:--", txt "APPLES                      5.00",
       txt "  2 x 2.50                      ", txt "SUBTOTAL                    5.00", txt "CASH                        5.00",
       txt "CHANGE                      0.00", txt "SCALE CAL 0000                  "] := by
  decide +kernel

/-- R154's weight line. -/
theorem test_weightLine :
    (itemLines 2 1 ⟨txt "PLUMS", 99, none, false, .weighed 15000 0 5 999999⟩).map (fun line => line.2) =
      [txt "PLUMS                       e=5g", txt "15.000 kg @ 9999.99/kg      0.99"] := by
  decide +kernel

/-- R152's times, at both ends of the day. -/
theorem test_timeText :
    timeText none = txt "--:--" ∧ timeText (some ⟨99, 12, 31, 23, 59, 59⟩) = txt "23:59" ∧
      timeText (some ⟨0, 1, 1, 0, 0, 0⟩) = txt "00:00" ∧ (23 ≤ 23 ∧ 59 ≤ 59) := by
  decide +kernel

/-- R94's check on a card's account number, its worked sum, and the masked number of 12 and of 19 digits (6.3). -/
theorem test_accounts :
    luhnSum (txt "4532015112830366") % 10 = 0 ∧ luhnSum (txt "4532015112830367") % 10 = 1 ∧
      luhnSum (txt "123456789012") = 47 ∧ maskedAccount (txt "123456789012") = txt "123456**9012" ∧
      maskedAccount (txt "1234567890123456789") = txt "123456*********6789" ∧ 10 ≤ (txt "1234567890").length := by
  decide +kernel

/-- A frame of STATUS with tag 01h, written out from R181 and R194. -/
theorem test_frame_of_status :
    frameBytes ⟨0x70#8, 0x01#8, []⟩ =
      [0x5A#8, 0x00#8, 0x00#8, 0x70#8, 0x01#8] ++
        put16 (crc16 [0x00#8, 0x00#8, 0x70#8, 0x01#8]).toNat := by
  decide +kernel

/-- A payload of ITEM, written out from R193. -/
theorem test_payload_of_item :
    requestFrame (.item 9 (txt "AB") 3 (-2)) =
      some ⟨0x11#8, 9, [2, 0x41, 0x42, 0x00, 0x03, 0xFF, 0xFF, 0xFF, 0xFE]⟩ ∧
    parseRequest ⟨0x11#8, 9, [2, 0x41, 0x42, 0x00, 0x03, 0xFF, 0xFF, 0xFF, 0xFE]⟩ =
      .request (.item 9 (txt "AB") 3 (-2)) := by
  decide +kernel

/-- Fields that end early, and a byte too many, cannot be read (R184). -/
theorem test_payload_that_cannot_be_read :
    parseRequest ⟨0x11#8, 9, [2, 0x41, 0x42, 0x00, 0x03, 0xFF, 0xFF, 0xFF]⟩ = .unreadable ∧
      parseRequest ⟨0x10#8, 9, [0]⟩ = .unreadable ∧ parseRequest ⟨0x0F#8, 9, [0]⟩ = .unknown := by
  decide +kernel

/-- The grams of a weighed record, the division among them, take two bytes each (R193). -/
theorem test_weighed_fields :
    ((ItemDetail.weighed 1218 40 5 999999).fields.flatMap Field.bytes) =
      [0x04, 0xC2, 0x00, 0x28, 0x00, 0x05, 0x00, 0x0F, 0x42, 0x3F] := by
  decide +kernel

/-! ## One step of each command, on small states -/

theorem test_powerOn_and_resetInput :
    (after (.powerOn (inputs 25) .old) shop).toLane.current = none ∧
      (after (.powerOn (inputs 121) .old) shop).printer.sensorValid = false ∧
      (after (.resetInput (inputs 25) .old) { shop with now := 5 }).now = 5 ∧
      (after (.resetInput (inputs 25) .new) committing).store.mirror = 1 := by
  decide +kernel

theorem test_laneReset : (after .laneReset shop).toLane.current = none ∧ (after .laneReset shop).sale.counter = 0 := by
  decide +kernel

theorem test_begin :
    (after (.beginSale 1) quiet).store.write = some (.txnNumber 1) ∧
      reply (after (.beginSale 1) State.reset) = some (refusal .keyPosition) ∧
      reply (after (.txnNumberWriteEnd .ok) (after (.beginSale 1) quiet)) = some [.status .ok, .u8 0, .u16 1] ∧
      reply (after (.txnNumberWriteEnd (.fail .corrupt)) (after (.beginSale 1) quiet)) = some (refusal .storeFail) := by
  decide +kernel

theorem test_item :
    reply (after (.item 1 (txt "PEARS") 999 10010) shop) =
        some [.status .ok, .u8 2, .money 9999990, .money 10000490, .flag false, .flag false, .flag false] ∧
      reply (after (.item 1 (txt "PEARS") 999 10011) shop) =
        some [.status .refused, .reason .amountLimit, .money 500, .flag false, .flag false, .flag true] := by
  decide +kernel

theorem test_voidItem :
    reply (after (.voidItem 1 1) shop) =
        some [.status .ok, .u8 2, .money (-500), .money 0, .flag false, .flag true, .flag false] ∧
      reply (after (.voidItem 1 2) shop) = some [.status .badValue, .money 500, .flag false, .flag false, .flag false] := by
  decide +kernel

theorem test_total :
    reply (after (.total 1) shop) =
        some [.status .ok, .money 500, .name 1, .money 500, .money 0, .flag false, .flag false, .flag false] ∧
      told (after (.total 1) (withSale { opened with items := [{ a1 with amount := 0 }], subtotal := 0 } quiet)) = [0x91] := by
  decide +kernel

theorem test_backToItems :
    reply (after (.backToItems 1) till) = some [.status .ok, .money 500] ∧
      reply (after (.backToItems 1) (holding (card .fetched) true till)) = some (refusal .cardFetched) := by
  decide +kernel

theorem test_cancelSale :
    reply (after (.cancelSale 1) (withSale opened boss)) = some [.status .ok, .u16 7] ∧
      reply (after (.cancelSale 1) shop) = some (refusal .keyPosition) := by
  decide +kernel

theorem test_suspend_resume_drop :
    reply (after (.suspend 1) shop) = some [.status .ok, .u16 7, .u8 1] ∧
      (let s := withSale { opened with role := .suspended } { boss with sale := { boss.sale with stack := [0] } }
       reply (after (.resume 1) s) = some [.status .ok, .u8 0, .u16 7, .money 500] ∧
         reply (after (.dropSuspended 1) s) = some [.status .ok, .u16 7, .u8 0]) ∧
      reply (after (.resume 1) quiet) = some (refusal .stackEmpty) := by
  decide +kernel

theorem test_saleReports :
    (reply (after (.saleStatus 1) shop)).map List.length = some 52 ∧
      reply (after (.saleItems 1 1 8) shop) ≠ some [.status .badValue] ∧
      reply (after (.saleItems 1 1 9) shop) = some [.status .badValue] ∧
      reply (after (.saleTenders 1 8) shop) = some (refusal .noSuchSale) := by
  decide +kernel

theorem test_zero_and_tare :
    reply (after (.zero 1) (weighing quiet)) = some [.status .ok] ∧
      reply (after (.tare 1) (weighing quiet)) = some [.status .ok, .u16 300] ∧
      reply (after (.tarePreset 1 6000) (weighing quiet)) = some [.status .ok, .u16 6000] ∧
      reply (after (.tarePreset 1 3) (weighing quiet)) = some [.status .badValue] ∧
      reply (after (.tareClear 1) quiet) = some [.status .ok] ∧
      reply (after (.zero 1) quiet) = some (refusal .scaleNotReady) := by
  decide +kernel

theorem test_scaleSettings :
    reply (after (.scaleSetup 1 1 5) quiet) = some [.status .ok, .flag true, .u8 5] ∧
      reply (after (.scaleSetup 1 1 4) quiet) = some [.status .badValue] ∧
      reply (after (.scaleSetup 1 1 5) (capturing shop)) = some (refusal .capturePending) ∧
      reply (after (.scaleSetup 1 2 5) (capturing shop)) = some (refusal .capturePending) ∧
      reply (after (.scaleSetup 1 2 5) quiet) = some [.status .badValue] ∧
      (after (.scaleFeed 1 1) quiet).scale.feed = true ∧ reply (after (.scaleFeed 1 2) quiet) = some [.status .badValue] ∧
      (reply (after (.weightRead 1) quiet)).isSome = true := by
  decide +kernel

/-- The first eight samples after a restart with a valid record make the unit READY at the eighth. -/
theorem test_adcSample :
    (let s : State := { quiet with scale := { loaded with unit := .starting, window := List.replicate 7 3000 } }
     (after (.adcSample 3000) s).scale.unit = .ready ∧ (after (.adcSample 3000) s).scale.z = 3000) ∧
      (after (.adcSample 3050) (weighing quiet)).scale.chain.map Chain.count = some 3006 ∧
      (after (.adcSample 8388607) { quiet with scale := { loaded with rail := 7 } }).scale.unit = .adcFault := by
  decide +kernel

theorem test_capture :
    (after (.adcSample 3000) (capturing shop)).scale.latch = true ∧
      told (after (.adcSample 3000) (capturing shop)) = [0x82] ∧
      ((after (.adcSample 3000) (capturing shop)).toLane.currentCtx.items.map ItemRecord.amount) = [500, 90] ∧
      (after .joltHoldExpiry { quiet with scale := { loaded with joltExpiry := some 9 } }).scale.joltExpiry = none := by
  decide +kernel

theorem test_weigh :
    reply (after (.weigh 1 (txt "PLUMS") 299) (weighing shop)) = some [.status .accepted, .u8 0, .u16 7, .u16 254, .u8 30] ∧
      reply (after (.weighCancel 1) (capturing shop)) = some [.status .ok, .u16 255] ∧
      told (after (.weighCancel 1) (capturing shop)) = [0x82] ∧
      (after .captureTimeout (capturing shop)).now = 3000000 := by
  decide +kernel

theorem test_calibration :
    (after (.calEnter 1) { quiet with store := { Store.reset with switch := .closed } }).store.calState = .entered ∧
      reply (after (.calEnter 1) quiet) = some (refusal .switchOpen) ∧
      (after (.calExit 1) inCal).store.calState = .out ∧ (after (.calExit 1) committing).store.calState = .leaving ∧
      (after .calSwitchOpening committing).store.calState = .leaving ∧
      (after .calSwitchClosing quiet).store.switch = .closed := by
  decide +kernel

/-- With the record not VALID, CAL takes the defaults and not the values of the last restart; with it VALID, those (R69). -/
theorem test_calEnter_values :
    let old : CalValues := ⟨7, 131072, 16, 4, false⟩
    let s (r : Stored CalRecord) : State :=
      { quiet with scale := { loaded with unit := .adcFault, atRestart := old }
                   store := { Store.reset with switch := .closed, calRecord := r } }
    (after (.calEnter 1) (s .corrupt)).store.working = some CalValues.defaults ∧
      (after (.calEnter 1) (s .erased)).store.working = some CalValues.defaults ∧
      (after (.calEnter 1) (s (.valid ⟨CalValues.defaults, none⟩))).store.working = some old := by
  decide +kernel

theorem test_calValues :
    (after (.calZero 1) inCal).scale.zpu = 3000 ∧
      ((after (.calSpan 1 6000) inCal).store.working.map CalValues.gain) = some 131072 ∧
      reply (after (.calSpan 1 999) inCal) = some [.status .badValue] ∧
      ((after (.calSet 1 4 32 0) inCal).store.working.map CalValues.windowLength) = some 32 ∧
      reply (after (.calSet 1 5 32 0) inCal) = some [.status .badValue] ∧
      reply (after (.calSet 1 4 32 2) inCal) = some [.status .badValue] ∧
      reply (after (.calSet 1 4 32 2) quiet) = some (refusal .notCal) ∧
      reply (after (.calSet 1 4 32 1) quiet) = some (refusal .notCal) := by
  decide +kernel

theorem test_calCommit :
    reply (after (.calCommit 1) inCal) = some [.status .accepted, .u16 1] ∧
      (after (.calCounterWriteEnd .ok) committing).store.mirror = 1 ∧
      (after (.calCounterWriteEnd (.fail .erased)) committing).store.counterValid = false ∧
      told (after (.calRecordWriteEnd .ok)
        { committing with store := { committing.store with write := some (.calRecord ⟨CalValues.defaults, none⟩) } }) = [0x84] ∧
      (reply (after (.identify 1) quiet)).isSome = true := by
  decide +kernel

theorem test_swipe :
    (after (.readerEnable 1 0 1) quiet).swipe.front = true ∧
      (let s : State := { quiet with swipe := { Swipe.reset with front := true } }
       (after (.fluxTransition .front .b 100) s).swipe.channel = some .front ∧
         (after (.fluxTransition .stand .b 100) s).swipe.channel = none ∧
         told (after .swipeEnd (after (.fluxTransition .front .b 100) s)) = [0x85]) := by
  decide +kernel

theorem test_cardQueue :
    reply (after (.cardSetup 1 30) quiet) = some [.status .ok, .u8 30] ∧
      reply (after (.cardSetup 1 31) quiet) = some [.status .badValue] ∧
      ((after (.cardFetch 1 5) (holding (card .ready) true till)).cards.queue.map CardEntry.state) = [.fetched] ∧
      reply (after (.cardFetch 1 5) (holding (card .held) true till)) = some (refusal .notReady) ∧
      reply (after (.cardDiscard 1 5) (holding (card .held) false quiet)) = some [.status .ok, .u8 0] ∧
      told (after (.cardExpired 5) (holding (card .held) false quiet)) = [0x8E] ∧
      told (after (.declineCard 1 5) (holding (card .fetched) true till)) = [0x90] ∧
      (reply (after (.cardList 1) (holding (card .held) false quiet))).isSome = true := by
  decide +kernel

theorem test_rangeTable :
    ((after (.rangeWrite 1 3 (entry (txt "45") 16 16 5000 [])) boss).cards.table[3]).valid = false ∧
      ((after (.rangeWrite 1 3 ⟨1, some (txt "45"), some 0, some 16, some 16, 1, 5000, none⟩) boss).cards.table[3]) = debitRange ∧
      (after (.rangeMask 1 [1, 8]) boss).cards.sharedMask = 0x81#8 ∧
      reply (after (.rangeRead 1 24) boss) = some [.status .badValue] ∧
      (reply (after (.rangeRead 1 23) boss)).map List.head? = some (some (.status .ok)) := by
  decide +kernel

/-- A class past BLOCKED, in an entry written with valid cleared and away from MANAGER (R184 step 2). -/
theorem test_rangeWrite_class :
    let e (b : Byte) : RangeFields := { entry (txt "45") 16 16 0 [] with valid := 0, cls := some b }
    reply (after (.rangeWrite 1 3 (e 5)) boss) = some [.status .badValue] ∧
      reply (after (.rangeWrite 1 3 (e 5)) quiet) = some [.status .badValue] ∧
      reply (after (.rangeWrite 1 3 (e 4)) quiet) = some (refusal .keyPosition) ∧
      (reply (after (.rangeWrite 1 3 (e 4)) boss)).map List.head? = some (some (.status .ok)) := by
  decide +kernel

theorem test_tenderCash :
    reply (after (.tenderCash 1 499) till) =
        some [.status .ok, .money 500, .money 499, .money 1, .money 0, .u8 1, .flag false] ∧
      told (after (.tenderCash 1 500) till) = [0x91] ∧
      (after (.tenderCash 1 500) till).till.drawerA.grant = true := by
  decide +kernel

theorem test_tenderCard :
    (let s := ranged (holding (card .fetched) true till)
     told (after (.tenderCard 1 5 500 5000 (txt "A1B2C3")) s) = [0x91] ∧
       ((after (.tenderCard 1 5 500 5000 (txt "A1B2C3")) s).toLane.ctx 0).changeDue = 5000 ∧
       reply (after (.tenderCard 1 5 500 5001 (txt "A1B2C3")) s) =
         some [.status .refused, .reason .cashbackLimit, .money 500, .money 0, .money 500, .money 0, .flag true]) := by
  decide +kernel

theorem test_settleSetup : (after (.settleSetup 1 1) quiet).sale.autoOpen = true := by decide +kernel

theorem test_drawerRequests :
    reply (after (.drawerOpen 1 0) (withDrawer { DrawerRecord.reset with grant := true } quiet)) =
        some [.status .accepted, .name 3] ∧
      reply (after (.drawerOpen 1 0) quiet) = some (refusal .noGrant) ∧
      (after (.noSale 1 1) boss).till.drawerB.state = .kicking ∧
      (after (.drawerClearFault 1 0) (withDrawer { DrawerRecord.reset with state := .fault } quiet)).till.drawerA.state = .closed ∧
      reply (after (.drawerSetup 1 200 120 1) boss) = some [.status .ok, .u16 200, .u8 120, .flag true] ∧
      reply (after (.drawerSetup 1 205 120 1) boss) = some [.status .badValue] ∧
      reply (after (.drawerSetup 1 200 120 2) boss) = some [.status .badValue] ∧
      reply (after (.drawerSetup 1 200 120 2) quiet) = some (refusal .keyPosition) ∧
      reply (after (.drawerSetup 1 205 120 1) quiet) = some (refusal .keyPosition) ∧
      (after (.drawerSelect 1 1) quiet).till.active = .b ∧ (reply (after (.drawerStatus 1) quiet)).isSome = true := by
  decide +kernel

theorem test_kick :
    (after .kickPulseEnd kicked).till.drawerA.confirmUntil = some 600000 ∧
      (after .kickPulseEnd kicked).scale.joltExpiry = some 500000 ∧
      (after (.solenoidCurrentFault .short) kicked).till.drawerA.faultReason = some .solenoidShort ∧
      told (after (.confirmWindowExpiry .a) (after .kickPulseEnd kicked)) = [0x92] ∧
      (after (.closedSensorOpens .a) (after .kickPulseEnd kicked)).till.drawerA.grant = false := by
  decide +kernel

theorem test_drawerSensors :
    (after (.trayRemoved .a) quiet).till.drawerA.state = .absent ∧
      (after (.trayInserted .a) (after (.trayRemoved .a) quiet)).till.drawerA.state = .closed ∧
      told (after (.closedSensorOpens .a) quiet) = [0x93] ∧
      (after (.alarmTimerExpiry .a) (after (.closedSensorOpens .a) quiet)).till.shown = .blink ∧
      told (after (.closedSensorCloses .a) (after (.closedSensorOpens .a) quiet)) = [0x93, 0x95] := by
  decide +kernel

theorem test_key_button_light :
    told (after (.keyPositionChange .manager) quiet) = [0x97] ∧ told (after (.keyPositionChange .register) quiet) = [] ∧
      (after .assistButtonPress quiet).till.shown = .fast ∧
      (after (.assistClear 1) (after .assistButtonPress quiet)).till.shown = .off ∧
      (after (.light 1 2) quiet).till.shown = .blink ∧ reply (after (.light 1 4) quiet) = some [.status .badValue] := by
  decide +kernel

/-- BLINK and FAST at the ends of a lit and of a dark period (R146). -/
theorem test_lamp :
    let lit (m : LightMode) (times : List Nat) := times.map ({ Till.reset with shown := m, shownSince := 1000 } : Till).lampLit
    lit .blink [1000, 500999, 501000, 1000999, 1001000] = [true, true, false, false, true] ∧
      lit .fast [1000, 125999, 126000, 250999, 251000] = [true, true, false, false, true] ∧ lit .on [7000] = [true] ∧
      lit .off [7000] = [false] := by
  decide +kernel

theorem test_printJobs :
    reply (after (.reprint 1) quiet) = some (refusal .nothingToCopy) ∧
      reply (after (.reprint 1) (withSale paid quiet)) = some [.status .accepted, .u8 0, .u16 7] ∧
      reply (after (.slip 1 [txt "HELLO"]) quiet) = some [.status .accepted, .u8 1] ∧
      reply (after (.slip 1 []) quiet) = some [.status .badValue] ∧
      reply (after (.printAbort 1) printing) = some [.status .ok, .u8 0] ∧
      ((after (.printAbort 1) printing).link.sending.map fun t => match t with | .event m => m.fields | .reply _ => []) =
        some [.name 3, .name 1, .name 1, .u16 0] ∧
      reply (after (.feed 1 255) quiet) = some [.status .accepted] ∧
      reply (after (.feed 1 0) quiet) = some [.status .badValue] := by
  decide +kernel

theorem test_header :
    reply (after (.headerSet 1 [txt "SHOP"] 3) boss) = some [.status .ok, .count 1, .text (txt "SHOP"), .u8 3] ∧
      reply (after (.headerSet 1 [txt "SHOP"] 4) boss) = some [.status .badValue] ∧
      reply (after (.headerRead 1) quiet) = some [.status .ok, .count 0, .u8 2] := by
  decide +kernel

theorem test_rows_and_cuts :
    (after .dotRowEnd printing).printer.phase = .tail ∧
      (after .dotRowEnd { printing with printer := { printing.printer with row := 28 } }).printer.row = 29 ∧
      told (after .cutEnd cutting) = [0x9B] ∧ (after .cutEnd cutting).printer.engine = .idle ∧
      told (after .cutEnd { cutting with printer := { cutting.printer with cutterHome := false } }) = [0x99] := by
  decide +kernel

/-- Twenty black dots with a solenoid energised: sixteen, then four, each group for the strobe time (R169). -/
theorem test_strobeGroups :
    let f := rowFigures 1000 25 (List.range 20) 16
    f.fires = [List.range 16, [16, 17, 18, 19]] ∧ f.groups = 2 ∧ f.strobe = 480 ∧ f.period = 1060 ∧
      [1000, 1479, 1480, 1959, 1960].map (fun now => (f.firing now).length) = [16, 16, 4, 4, 0] ∧ groupDots [] 64 = [] ∧
      groupDots (List.range 64) 64 = [List.range 64] := by
  decide +kernel

theorem test_printerInputs :
    (after (.headTempReading 121) quiet).printer.sensorValid = false ∧
      (after (.headTempReading 60) (pausedFor .headHot)).printer.engine = .running ∧
      (after (.headTempReading 61) (pausedFor .headHot)).printer.engine = .paused ∧
      told (after (.printerSensorChange (.nearEnd .nearEnd)) quiet) = [0x9D] := by
  decide +kernel

theorem test_printResume :
    (after (.printResume 1) (pausedFor .paperOut)).printer.restartDue = true ∧
      (after .printRestart (after (.printResume 1) (pausedFor .paperOut))).printer.figures.isSome = true ∧
      reply (after (.printResume 1) (pausedFor .headHot)) = some (refusal .headHot) ∧
      (reply (after (.printStatus 1) (pausedFor .headHot))).isSome = true := by
  decide +kernel

theorem test_linkRequests :
    (reply (after (.status 1) quiet)).map List.length = some 23 ∧
      reply (after (.flagsClear 1 0x0001#16) State.reset) = some [.status .ok, .flagSet 0] ∧
      reply (after (.flagsClear 1 0x0800#16) State.reset) = some [.status .badValue] ∧
      (after (.eventMask 1 0x40000000#32) quiet).link.enabled = 0x40000000#32 ∧
      reply (after (.eventMask 1 0x80000000#32) quiet) = some [.status .badValue] ∧
      reply (after (.unknownRequest 0x0F#8 1 []) quiet) = some [.status .unknownRequest] := by
  decide +kernel

theorem test_clock :
    (after (.clockSet 1 24 2 29 23 59 59) quiet).link.clock = some ⟨24, 2, 29, 23, 59, 59⟩ ∧
      reply (after (.clockSet 1 23 2 29 23 59 59) quiet) = some [.status .badValue] ∧
      (after .clockTick (after (.clockSet 1 24 2 29 23 59 59) quiet)).link.clock = some ⟨24, 3, 1, 0, 0, 0⟩ := by
  decide +kernel

theorem test_linkRate_and_resetLane :
    (after (.linkRate 1 0) quiet).link.rate = .baud115200 ∧
      (after .linkRateChange (after (.linkRate 1 0) quiet)).link.rate = .baud19200 ∧
      reply (after (.linkRate 1 4) quiet) = some [.status .badValue] ∧ reply (after (.resetLane 1) shop) = some [.status .ok] ∧
      (after .laneReset (after (.resetLane 1) shop)).toLane.current = none := by
  decide +kernel

theorem test_receiver :
    (after (.byteReceived 0x5A#8) quiet).link.receiver = .collect [0x5A#8] ∧
      (after (.byteReceived 0x00#8) quiet).link.receiver = .hunt ∧
      (let s : State := { quiet with link := { quiet.link with receiver := .collect [0x5A#8, 0x05#8] } }
       (after (.byteReceived 0x78#8) s).link.receiver = .collect [0x5A#8, 0x05#8, 0x78#8] ∧
         (after (.byteReceived 0x79#8) s).link.receiver = .hunt ∧ (after .gapLimitExpiry s).link.receiver = .hunt ∧
         (after .stopBitError s).link.receiver = .hunt ∧ (after .frameLengthAbandon s).link.receiver = .hunt ∧
         told (after (.frameBadCrc 0x70#8 1) s) = [0x9E]) := by
  decide +kernel

theorem test_held :
    (let s := after (.status 2) (after (.saleStatus 1) quiet)
     s.link.receiver = .held ⟨0x70#8, 2, []⟩ false ∧ (after .byteWhileHeld s).link.flags = 0x0010#16 ∧
       (after .byteWhileHeld (after .byteWhileHeld s)).link.events.length = 1 ∧
       (after .heldFrameTaken s).link.inProgress = some ⟨0x70#8, 2⟩ ∧
       (after .frameSent (after (.saleStatus 1) quiet)).link.inProgress = none) := by
  decide +kernel

/-- The bytes of a STATUS frame, one by one, do what its command does. -/
theorem test_bytes_of_status :
    (match quiet.receives (frameBytes ⟨0x70#8, 1, []⟩) with
     | .next t => decide (t = after (.status 1) quiet)
     | _ => false) = true := by
  decide +kernel

theorem test_step :
    step { quiet with pending := [.assistButtonPress, .captureTimeout] } =
        exec .assistButtonPress { quiet with pending := [.captureTimeout] } ∧
      step quiet = .next { quiet with now := 1 } ∧ State.reset.withFetchWord 8 0x70 = State.reset :=
  ⟨rfl, rfl, rfl⟩

/-! ## States and operands that meet the hypotheses of each statement -/

/-- The one hypothesis of most request statements. -/
theorem test_meets_takes : State.reset.takes ∧ shop.takes ∧ till.takes ∧ inCal.takes ∧ kicked.takes ∧ (pausedFor .headHot).takes := by
  unfold State.takes; decide +kernel

/-- A request in progress, with each state of the receiver. -/
theorem test_meets_RequestIsHeldWhileOneIsInProgress :
    requestFrame (.total 2) = some ⟨0x13#8, 2, []⟩ ∧
      (let s := after (.saleStatus 1) quiet
       s.link.inProgress = some ⟨0x19#8, 1⟩ ∧ s.link.receiver = .hunt ∧
         (after (.byteReceived 0x5A#8) s).link.receiver = .collect [0x5A#8] ∧
         (after (.byteReceived 0x5A#8) s).link.inProgress = some ⟨0x19#8, 1⟩ ∧
         (after (.total 2) s).link.receiver = .held ⟨0x13#8, 2, []⟩ false ∧
         (after (.total 2) (after (.total 2) s)).link.receiver = .held ⟨0x13#8, 2, []⟩ true) := by
  decide +kernel

theorem test_meets_RefusedRequestChangesOnlyTheLink :
    requestFrame (.total 2) = some ⟨0x13#8, 2, []⟩ ∧ (0x13#8 : Byte) ≠ 0x10#8 ∧ State.reset.takes := by
  unfold State.takes; decide +kernel

def busyLink (n : Nat) : Link :=
  { quiet.link with sending := some (.event ⟨0x98#8, 0, []⟩), events := List.replicate n ⟨0x98#8, 0, []⟩ }

/-- Each clause, at 15 and at 16 events queued. -/
theorem test_meets_EventsAndRepliesWaitInOrder :
    ({ quiet.link with enabled := 0 } : Link).enabled.getLsbD (0x9E - 0x80) = false ∧
      (busyLink 16).enabled.getLsbD (0x9E - 0x80) = true ∧ (busyLink 16).events.length = 16 ∧
      (busyLink 15).events.length < 16 ∧ (busyLink 15).sending ≠ none ∧ quiet.link.events = [] ∧
      quiet.link.sending = none ∧ quiet.link.reply = none := by
  decide +kernel

def answering : State := after (.saleStatus 1) quiet

def rating : State := after (.linkRate 1 3) quiet

def heldUp : State := after (.status 2) answering

def ratingHeldUp : State := after (.status 2) rating

def resetting : State := after (.resetLane 1) shop

theorem test_meets_FrameSentStartsWhatFollows :
    quiet.link.sending = none ∧ (after .assistButtonPress quiet).link.sending = some (.event ⟨0x98#8, 0, [.u8 1]⟩) ∧
      (∃ m, answering.link.sending = some (.reply m) ∧ m.resetsLane = false ∧ answering.link.newRate = none ∧
        answering.link.holding = false) ∧
      (∃ m, rating.link.sending = some (.reply m) ∧ m.resetsLane = false ∧ rating.link.newRate = some .baud230400 ∧
        rating.link.holding = false) ∧
      (∃ m, heldUp.link.sending = some (.reply m) ∧ m.resetsLane = false ∧ heldUp.link.newRate = none ∧
        heldUp.link.receiver = .held ⟨0x70#8, 2, []⟩ false) ∧
      (∃ m, ratingHeldUp.link.sending = some (.reply m) ∧ m.resetsLane = false ∧
        ratingHeldUp.link.newRate = some .baud230400 ∧ ratingHeldUp.link.receiver = .held ⟨0x70#8, 2, []⟩ false) ∧
      quiet.link.sendingReply = false := by
  refine ⟨rfl, rfl, ⟨_, rfl, ?_⟩, ⟨_, rfl, ?_⟩, ⟨_, rfl, ?_⟩, ⟨_, rfl, ?_⟩, rfl⟩ <;> decide +kernel

/-- RESET_LANE's reply being sent, with no BEGIN in progress; its end makes the lane reset. -/
theorem test_meets_LinkRequestsAreAnswered :
    resetting.link.sending = some (.reply ⟨0x74#8, 1, [.status .ok]⟩) ∧
      (∀ n : Fin 4, resetting.store.write ≠ some (.txnNumber n)) ∧
      (after .frameSent resetting).toLane.current = none ∧ resetting.toLane.current = some 0 := by
  decide +kernel

theorem test_meets_BytesOfAFrameMakeItsRequest :
    (List.replicate 1400 (0 : Byte)).length ≤ 1400 ∧ quiet.link.receiver = .hunt ∧ quiet.link.inProgress = none := by
  decide +kernel

theorem test_meets_RequestFramesReadBack :
    (Instr.slip 9 [txt "A", []]).wellFormed = true ∧
      requestFrame (.slip 9 [txt "A", []]) = some ⟨0x61#8, 9, [2, 1, 0x41, 0]⟩ ∧
      (Instr.unknownRequest 0x76#8 9 [1]).wellFormed = true ∧
      requestFrame (.unknownRequest 0x76#8 9 [1]) = some ⟨0x76#8, 9, [1]⟩ := by
  decide +kernel

theorem test_meets_ReceiverTakesAndDiscardsBytes : quiet.link.holding = false ∧ heldUp.link.holding = true := by
  decide +kernel

/-- Each clause of the calendar, at its last value. -/
theorem test_meets_ClockIsSetAndAdvances :
    let t (y mo d h mi s : Nat) : Option DateTime :=
      (after .clockTick { quiet with link := { quiet.link with clock := some ⟨y, mo, d, h, mi, s⟩ } }).link.clock
    [t 0 1 1 0 0 58, t 0 1 1 0 58 59, t 0 1 1 22 59 59, t 0 2 28 23 59 59, t 1 2 28 23 59 59, t 0 11 30 23 59 59,
        t 98 12 31 23 59 59, t 99 12 31 23 59 59] =
      [some ⟨0, 1, 1, 0, 0, 59⟩, some ⟨0, 1, 1, 0, 59, 0⟩, some ⟨0, 1, 1, 23, 0, 0⟩, some ⟨0, 2, 29, 0, 0, 0⟩,
        some ⟨1, 3, 1, 0, 0, 0⟩, some ⟨0, 12, 1, 0, 0, 0⟩, some ⟨99, 1, 1, 0, 0, 0⟩, some ⟨0, 1, 1, 0, 0, 0⟩] ∧
      (after .clockTick quiet).link.clock = none := by
  decide +kernel

def writing (s : State) : State := after (.beginSale 1) s

/-- No context FREE, context 2 LAST_PRINTED. -/
def full : State :=
  { quiet with sale := { quiet.sale with contexts :=
      (Vector.replicate 6 { paid with role := .printHeld }).set 2 { paid with role := .lastPrinted } } }

theorem test_meets_BeginOpensASaleOrIsRefused :
    (writing quiet).store.write = some (.txnNumber 1) ∧ (writing quiet).link.inProgress = some ⟨0x10#8, 1⟩ ∧
      (writing quiet).toLane.firstOf .free = some 0 ∧ (writing quiet).cards.queue.find? CardEntry.heldLoyalty = none ∧
      (writing full).store.write = some (.txnNumber 1) ∧ (writing full).link.inProgress = some ⟨0x10#8, 1⟩ ∧
      (writing full).toLane.firstOf .free = none ∧ (writing full).toLane.firstOf .lastPrinted = some 2 ∧
      ((writing full).toLane.ctx 2).pin = 0 ∧
      (let s := writing (holding { card .held with cls := .loyalty } false quiet)
       s.store.write = some (.txnNumber 1) ∧ s.link.inProgress = some ⟨0x10#8, 1⟩ ∧ s.toLane.firstOf .free = some 0 ∧
         (s.cards.queue.find? CardEntry.heldLoyalty).isSome = true ∧ s.cards.tenderMark = false) ∧
      (let s := writing (holding { card .held with cls := .loyalty } false full)
       s.store.write = some (.txnNumber 1) ∧ s.link.inProgress = some ⟨0x10#8, 1⟩ ∧ s.toLane.firstOf .free = none ∧
         s.toLane.firstOf .lastPrinted = some 2 ∧ (s.toLane.ctx 2).pin = 0 ∧ s.cards.tenderMark = false ∧
         (s.cards.queue.find? CardEntry.heldLoyalty).map CardEntry.full = some (card .held).full) ∧
      (∀ m : Fin 4, quiet.store.write ≠ some (.txnNumber m)) := by
  decide +kernel

/-- With the sale of number 7 in contexts 1 and 3. -/
def twice : State :=
  let held : Context := { paid with role := .printHeld }
  { quiet with sale := { quiet.sale with contexts := (quiet.sale.contexts.set 3 held).set 1 held } }

abbrev holdsNumber (n : Nat) (i : Fin 6) : Prop :=
  twice.sale.contexts[i].role ≠ .free ∧ twice.sale.contexts[i].txn = some n

/-- A number that no context holds, and one that two hold: the lower-numbered is reported. -/
theorem test_meets_SaleReportsChangeNothing :
    holdsNumber 7 1 ∧ holdsNumber 7 3 ∧ (∀ j, j < 1 → ¬holdsNumber 7 j) ∧ (∀ i, ¬holdsNumber 8 i) ∧
      twice.toLane.saleOf 7 = some 1 ∧ twice.toLane.saleOf 8 = none := by
  decide +kernel

/-- A paid sale to settle with auto-open ON and its drawer CLOSED. -/
def opening : State :=
  let s := withDrawer { DrawerRecord.reset with state := .closed } (withSale { paid with role := .current } quiet)
  { s with sale := { s.sale with autoOpen := true } }

/-- The settlement starts a kick of drawer A and the receipt of context 0; with the drawer ABSENT it starts none, and
behind a job in print the receipt waits. -/
theorem test_settle :
    let t := opening.toLane.settle 0 .tenderCash
    let absent := (withDrawer { DrawerRecord.reset with state := .absent } opening).toLane.settle 0 .tenderCash
    (t.drawer .a).state = .kicking ∧ (t.drawer .a).kick = some ⟨.grant, .settlement, 100, false⟩ ∧ t.till.driver = some ⟨.a, 0⟩ ∧
      t.printer.queue.map (fun j => (j.kind, j.context, j.txn)) = [(.receipt, some 0, some 7)] ∧
      (absent.drawer .a).state = .absent ∧ (absent.drawer .a).grant = true ∧
      ((withSale paid printing).toLane.settle 0 .tenderCash).printer.queue = [slipJob, ⟨.receipt, some 0, some 7, .queued⟩] := by
  decide +kernel

theorem test_meets_SettlementFixesAndReportsTheSale :
    till.printer.queue.length < 4 ∧ printing.printer.engine ≠ .idle ∧ printing.printer.queue.length < 4 ∧
      4 ≤ (List.replicate 4 ({ slipJob with state := .queued } : Job)).length ∧
      ((∃ x ∈ paid.tenders, x.card = none) ∧ till.sale.autoOpen = false) ∧
      ¬((∃ x ∈ opened.tenders, x.card = none) ∨ 0 < opened.tenderSum - opened.subtotal) := by
  decide +kernel

theorem test_meets_LeavingTenderAndPromotionMoveCards :
    (∀ e ∈ (holding (card .ready) true till).cards.queue, e.state ≠ .fetched) ∧
      (holding (card .fetched) true till).cards.queue.find? CardEntry.isFetched = some (card .fetched) ∧
      till.cards.tenderMark = false ∧ (∃ e ∈ (holding (card .ready) true till).cards.queue, e.state ≠ .held) ∧
      (∀ e ∈ (holding { card .held with cls := .loyalty } true till).cards.queue, e.state = .held → e.cls = .loyalty ∨ e.cls = .blocked) ∧
      (let s := holding (card .held) true till
       s.cards.tenderMark = true ∧ s.cards.queue = [] ++ card .held :: [] ∧ (∀ x ∈ [card .held], x.state = .held) ∧
         (card .held).cls ≠ .loyalty ∧ (card .held).cls ≠ .blocked) := by
  decide +kernel

theorem test_meets_CardsAreRemovedOnRequestAndExpiry :
    (holding (card .held) false quiet).cards.queue.find? (CardEntry.named 5) = some (card .held) ∧
      (card .held).expiresAt = some 60000000 ∧ (card .fetched).expiresAt = none := by
  decide +kernel

/-- RANGE_WRITE's fields at the ends of their ranges. -/
theorem test_meets_RangeTableIsWrittenAndRead :
    rangeReadable (entry (txt "1") 12 19 50000 [1, 8]) = true ∧ rangeFieldsOk 22 (entry (txt "1") 12 19 50000 [1, 8]) = true ∧
      rangeFieldsOk 21 (entry (txt "1") 12 19 50000 [1, 8]) = false ∧ rangeFieldsOk 22 (entry (txt "1") 11 19 0 []) = false ∧
      rangeFieldsOk 22 (entry (txt "1") 12 20 0 []) = false ∧ rangeFieldsOk 22 (entry (txt "1") 12 19 50001 []) = false ∧
      rangeFieldsOk 22 (entry (txt "12345678") 12 12 0 [0]) = false ∧ rangeFieldsOk 22 (entry [] 12 12 0 []) = false := by
  decide +kernel

theorem test_meets_LaneResetTakesItsValues :
    (∀ n : Fin 4, shop.store.write ≠ some (.txnNumber n)) ∧ shop.till.judgedLight = shop.till.shown ∧
      (writing quiet).store.write = some (.txnNumber 1) := by
  decide +kernel

/-- Both values of STABLE, and the rail counter at 6 and 7. -/
theorem test_meets_SampleRunsTheChain :
    (weighing quiet).scale.unit ≠ .adcFault ∧ railCount 3000 = false ∧ railCount (-8388607) = true ∧
      railCount (-8388608) = true ∧ railCount 8388607 = true ∧ railCount 8388606 = false ∧
      stableAt (List.replicate 8 3000) 8 0 65536 = true ∧ stableAt (3010 :: List.replicate 7 3000) 8 0 65536 = true ∧
      stableAt (3011 :: List.replicate 7 3000) 8 0 65536 = false ∧ stableAt (List.replicate 7 3000) 8 0 65536 = false ∧
      (let f (n : Nat) : State := { quiet with scale := { loaded with unit := .adcFault, rail := n } }
       (after (.adcSample 8388607) (f 5)).scale.rail = 0 ∧ (after (.adcSample 5) (f 6)).scale.rail = 7 ∧
         (after (.adcSample 5) (f 7)).scale.unit = .recordInvalid) ∧
      (after (.adcSample 8388607) { quiet with scale := { loaded with rail := 6 } }).scale.rail = 7 := by
  decide +kernel

theorem test_meets_CommitWritesTheCounterThenTheRecord :
    committing.store.write = some (.calCounter 1) ∧
      (after (.calCounterWriteEnd .ok) committing).store.write = some (.calRecord ⟨CalValues.defaults, none⟩) ∧
      (∀ n : Fin 4, quiet.store.write ≠ some (.calCounter n)) ∧ quiet.store.write ≠ some (.calRecord ⟨CalValues.defaults, none⟩) := by
  decide +kernel

/-- The most characters that fit each track, and none (log entry 37), read back in both directions. -/
theorem test_meets_RecordedTrackReadsBack :
    (List.replicate 77 3).length + 2 ≤ trackCapacity .a ∧ (List.replicate 38 3).length + 2 ≤ trackCapacity .b ∧
      (3 < 2 ^ (characterBits .a - 1) ∧ 3 ≠ endSentinel .a) ∧ (3 < 2 ^ (characterBits .b - 1) ∧ 3 ≠ endSentinel .b) ∧
      (readBits .b (recordedTrack .b (List.replicate 38 3) 20 20)).result = .ok ∧
      findStart .b (recordedTrack .b (List.replicate 38 3) 20 20).reverse = none ∧
      ([] : List Nat).length + 2 ≤ trackCapacity .a ∧ ([] : List Nat).length + 2 ≤ trackCapacity .b ∧
      (∀ k ∈ [Track.a, .b], readBits k (recordedTrack k [] 20 20) =
        ⟨.ok, [startSentinel k, endSentinel k].map (characterOf k), false⟩) ∧
      (∀ k ∈ [Track.a, .b], findStart k (recordedTrack k [] 20 20).reverse = none) ∧
      (∀ k ∈ [Track.a, .b], (readBits k (recordedTrack k [] 20 20).reverse).reversed = true) := by
  decide +kernel

def swiping : State :=
  after (.fluxTransition .front .b 100) { quiet with swipe := { Swipe.reset with front := true } }

theorem test_meets_SwipeEndClassifiesTheResult :
    swiping.swipe.channel = some .front ∧ swiping.swipe.endExpiry = some 25100 ∧ quiet.swipe.channel = none ∧
      (ranged quiet).cards.deciding (txt "4532015112830366") = some 3 ∧ quiet.cards.deciding (txt "4532015112830366") = none := by
  decide +kernel

/-- Account data written out from R89 and R90: an expiry and a service code, a month out of range, a name of two spaces at
its end, and account fields that are not usable. -/
theorem test_accountData :
    let image (t : String) : TrackReading := ⟨.ok, txt (";" ++ t ++ "?"), false⟩
    accountB (image "4532=2912201") = some ⟨txt "4532", some (txt "2912"), some (txt "201"), none⟩ ∧
      accountB (image "4532=291320") = some ⟨txt "4532", none, none, none⟩ ∧
      accountB (image "4532") = some ⟨txt "4532", none, none, none⟩ ∧ accountB (image "45:2=2912201") = none ∧
      accountB (image "=2912201") = none ∧
      accountA (image "B4532^DOE/J  ^2912201") = some ⟨txt "4532", some (txt "2912"), some (txt "201"), some (txt "DOE/J")⟩ ∧
      accountA (image "B4532^DOE") = some ⟨txt "4532", none, none, none⟩ ∧ accountA (image "B4532") = none ∧
      accountA (image "C4532^DOE^2912201") = none := by
  decide +kernel

/-- R96's matching: a wildcard position in the shared mask, one in an own mask, and the lengths. -/
theorem test_rangeMatching :
    let account := txt "4532015112830366"
    let e (digits : String) (lo hi : Nat) (own : BitVec 8) : RangeEntry :=
      ⟨true, some (txt digits), some .debit, some lo, some hi, false, 0, own⟩
    let c (i : Fin 24) (x : RangeEntry) (shared : BitVec 8) : Cards :=
      { Cards.reset with table := Cards.reset.table.set i x, sharedMask := shared }
    (c 3 (e "45" 16 16 0) 0).matchesAt account 3 = true ∧ (c 3 (e "46" 16 16 0) 0).matchesAt account 3 = false ∧
      (c 3 (e "46" 16 16 0) 0x02).matchesAt account 3 = true ∧ (c 3 (e "46" 16 16 0x02) 0).matchesAt account 3 = false ∧
      (c 22 (e "46" 16 16 0x02) 0).matchesAt account 22 = true ∧ (c 22 (e "46" 16 16 0) 0x02).matchesAt account 22 = false ∧
      (c 3 (e "45" 17 19 0) 0).matchesAt account 3 = false ∧ (c 3 (e "45" 12 15 0) 0).matchesAt account 3 = false := by
  decide +kernel

def waitingB : State :=
  { kicked with till := { kicked.till with
      waiting := some .b, drawerB := { DrawerRecord.reset with state := .pending, kick := some (kick .noSale) } } }

theorem test_meets_PulsesWindowsAndAlarmsEnd :
    kicked.till.driver = some ⟨.a, 0⟩ ∧ (kicked.toLane.drawer .a).kick = some (kick .grant) ∧ kicked.till.waiting ≠ some .a ∧
      waitingB.till.waiting = some .b ∧ waitingB.till.waiting ≠ some .a ∧
      (let s := after .kickPulseEnd kicked
       (s.toLane.drawer .a).confirmUntil = some 600000 ∧ (s.toLane.drawer .a).kick = some (kick .grant)) ∧
      ((after (.closedSensorOpens .a) quiet).toLane.drawer .a).alarmAt = some 30000000 ∧ quiet.till.driver = none ∧
      (quiet.toLane.drawer .a).confirmUntil = none ∧ (quiet.toLane.drawer .a).alarmAt = none := by
  decide +kernel

theorem test_meets_ComposerHandsOverTheNextLine :
    quiet.composer.position = none ∧ (printing.printer.slip.getD []) ≠ [] ∧
      (printing.composer.position.map Position.kind) = some .slip ∧ printing.printer.slip = some [txt "HELLO"] ∧
      (∀ l ∈ [List.replicate 32 (0x41#8 : Byte)], l.length ≤ 32) ∧
      (List.replicate 20 (0x41#8 : Byte)).length + (List.replicate 12 (0x42#8 : Byte)).length ≤ 32 := by
  decide +kernel

theorem test_meets_RowsAndCutsRunPauseAndEnd :
    rowDots (txt "A") 24 = [] ∧ (∀ c ∈ txt "  ", c = 0x20#8) ∧ (rowFigures 0 25 (List.range 65) 64).groups = 2 ∧ printing.printer.queue = slipJob :: [] ∧
      printing.printer.figures.isSome = true ∧ cutting.printer.cutUntil = some 300000 ∧ quiet.printer.figures = none ∧
      quiet.printer.cutUntil = none := by
  decide +kernel

theorem test_meets_JobIsQueuedStartedOrBacklogged :
    quiet.printer.queue = [] ∧ printing.printer.queue = slipJob :: [] := by
  decide +kernel

/-- Both key positions and both sides of HEADER_SET's and SLIP's limits. -/
theorem test_meets_AbortFeedCopySlipAndHeaderAreTaken :
    boss.till.key = .manager ∧ quiet.till.key ≠ .manager ∧ [txt "SHOP"].length ≤ 4 ∧
      4 < (List.replicate 5 (txt "SHOP")).length ∧ (List.replicate 40 (txt "SHOP")).length ≤ 40 ∧
      lineOk (List.replicate 32 0x7E#8) = true ∧ lineOk (List.replicate 33 0x7E#8) = false ∧ lineOk [0x7F#8] = false := by
  decide +kernel

/-! States, none of them that of reset, that meet what every step keeps. -/

theorem test_meets_LinkStaysSound : heldUp.link.sound ∧ heldUp.toLane.requestSound ∧ (writing quiet).toLane.requestSound := by
  decide +kernel

theorem test_meets_RolesStaySound :
    (capturing shop).toLane.rolesSound ∧ full.toLane.requestSound ∧
      (after (.reprint 1) (withSale paid quiet)).toLane.rolesSound := by
  refine ⟨?_, by decide +kernel, ?_⟩
  all_goals and_intros <;> decide +kernel

/-- The backlog EMPTY, and holding a RECEIPT for a PRINT_HELD context behind four jobs. -/
def backlogged : State :=
  let s := withSale { paid with role := .printHeld } { printing with composer := Composer.reset }
  { s with sale := { s.sale with backlog := some ⟨.receipt, 0⟩ } }

theorem test_meets_backlogSound :
    (capturing shop).sale.backlogSound ∧ full.sale.backlogSound ∧ backlogged.sale.backlogSound ∧
      backlogged.printer.sound ∧ backlogged.toLane.requestSound := by
  and_intros <;> decide +kernel

theorem test_meets_RolesStaySound_backlogged : backlogged.toLane.rolesSound := by
  and_intros <;> decide +kernel

theorem test_meets_AmountsStaySound :
    (capturing shop).toLane.amountsSound ∧ (after (.tenderCash 1 499) till).toLane.amountsSound := by
  decide +kernel

theorem test_meets_TillStaysSound : kicked.till.sound ∧ waitingB.till.sound :=
  ⟨by decide +kernel, by decide +kernel⟩

theorem test_meets_PrinterStaysSound :
    printing.printer.sound ∧ cutting.printer.sound ∧ (pausedFor .paperOut).printer.sound :=
  ⟨by decide +kernel, by decide +kernel, by decide +kernel⟩

theorem test_meets_CardsStaySound :
    (holding (card .ready) true till).cards.sound ∧ (holding (card .held) false quiet).cards.sound := by
  decide +kernel

end Sys2Proof.Tests
end

section
/-! PROOFS. The requests of chapter 1 that work on the CURRENT sale: ITEM, VOID_ITEM, BACK_TO_ITEMS and SUSPEND. -/

namespace Sys2Proof.Machine

/-! ## One check at a time (R8) -/

/-- The first check of a request: when it fails, its answer and nothing else; otherwise the rest of the request. -/
theorem answering_check {s : State} {code tag : Byte} {b : Bool} {a : Answer} {l : List (Bool × Answer)}
    {act : Lane → Lane × Answer} {c : Prop} [Decidable c] {fields : List Field}
    {rest : Host.Outcome State Fault Refusal} (hb : b = true ↔ c) (ha : a.allFields = fields)
    (hrest : ¬c → s.answering (checked l act (s.toLane.begun code tag)) = rest) :
    s.answering (checked ((b, a) :: l) act (s.toLane.begun code tag)) =
      if c then s.says code tag fields else rest := by
  rw [checked_cons, answering_ite, if_congr hb rfl rfl]
  exact ite_agree (fun _ => by rw [answering_same, ha]) hrest

/-- A first check that fails. -/
theorem answering_check_fails {s : State} {code tag : Byte} {b : Bool} {a : Answer} {l : List (Bool × Answer)}
    {act : Lane → Lane × Answer} (hb : b = true) :
    s.answering (checked ((b, a) :: l) act (s.toLane.begun code tag)) = s.says code tag a.allFields := by
  rw [checked_cons, if_pos hb, answering_same]

/-- A first check that passes. -/
theorem checked_passes {b : Bool} (hb : b = false) (a : Answer) (l : List (Bool × Answer))
    (act : Lane → Lane × Answer) (p : Lane) : checked ((b, a) :: l) act p = checked l act p := by
  rw [checked_cons, hb, if_neg Bool.false_ne_true]

/-- With a CURRENT context there is a sale open. -/
theorem Lane.noSaleOpen_eq_false {p : Lane} {i : Fin 6} (h : p.current = some i) : p.noSaleOpen = false := by
  simp [Lane.noSaleOpen, h]

/-! ## The replies with the subtotal and the result flags (R12) -/

/-- The answers of checks, each with the subtotal and the result flags. -/
def withSubtotals (subtotal : Int) (l : List (Bool × Answer)) : List (Bool × Answer) :=
  l.map fun c => (c.1, c.2.withSubtotal subtotal)

@[simp] theorem withSubtotals_nil (x : Int) : withSubtotals x [] = [] := rfl

@[simp] theorem withSubtotals_cons (x : Int) (b : Bool) (a : Answer) (l : List (Bool × Answer)) :
    withSubtotals x ((b, a) :: l) = (b, a.withSubtotal x) :: withSubtotals x l := rfl

/-- A body that makes checks first: one that fails is answered with the subtotal as it stands, since nothing was
done. -/
theorem withItemReply_checked {f act : Lane → Lane × Answer} {l : List (Bool × Answer)} {p : Lane}
    (hf : f p = checked l act p) :
    withItemReply f p = checked (withSubtotals p.currentCtx.subtotal l) (withItemReply act) p := by
  rw [withItemReply, hf]
  clear hf
  induction l with
  | nil => rfl
  | cons c l ih =>
    obtain ⟨b, a⟩ := c
    cases b
    · exact ih
    · rfl

/-- The checks that ITEM and VOID_ITEM make first, with no sale open (R11, R13). -/
theorem answering_itemChecks_none {s : State} {code tag : Byte} {f act : Lane → Lane × Answer}
    (h : s.toLane.current = none)
    (hf : f (s.toLane.begun code tag) = checked (s.toLane.begun code tag).itemChecks act (s.toLane.begun code tag)) :
    s.answering (withItemReply f (s.toLane.begun code tag)) =
      s.says code tag (refusal .noSaleOpen ++ [.flag false, .flag false, .flag false]) := by
  rw [withItemReply_checked hf]
  exact answering_check_fails ((Lane.noSaleOpen_iff _).mpr h)

/-- The checks that ITEM and VOID_ITEM make first, with a CURRENT sale (R11, R13). -/
theorem answering_itemChecks_some {s : State} {code tag : Byte} {f act : Lane → Lane × Answer} {i : Fin 6}
    {rest : Host.Outcome State Fault Refusal} (h : s.toLane.current = some i)
    (hf : f (s.toLane.begun code tag) = checked (s.toLane.begun code tag).itemChecks act (s.toLane.begun code tag))
    (hrest : s.answering (withItemReply act (s.toLane.begun code tag)) = rest) :
    s.answering (withItemReply f (s.toLane.begun code tag)) =
      if (s.toLane.ctx i).saleState ≠ some .opened then
        s.says code tag (.status .wrongState :: (s.toLane.ctx i).itemFlags false)
      else if s.till.key = .locked then
        s.says code tag (refusal .keyPosition ++ (s.toLane.ctx i).itemFlags false)
      else if s.scale.capture ≠ none then
        s.says code tag (refusal .capturePending ++ (s.toLane.ctx i).itemFlags false)
      else rest := by
  have hcur : (s.toLane.begun code tag).currentCtx = s.toLane.ctx i := Lane.currentCtx_eq h
  have hopen : (s.toLane.begun code tag).noSaleOpen = false := Lane.noSaleOpen_eq_false h
  rw [withItemReply_checked hf, Lane.itemChecks, hcur]
  simp only [withSubtotals_cons, withSubtotals_nil]
  rw [checked_passes hopen]
  refine answering_check (by simp) rfl fun _ => ?_
  refine answering_check (Till.locked_iff _) rfl fun _ => ?_
  exact answering_check (by simp [Option.isSome_iff_ne_none]) rfl fun _ => hrest

/-- Whatever the item list has become, a record appended to it is answered with its number and amount, and with the
subtotal and the flags after it (R6, R12). -/
theorem answering_appendItem {s : State} {code tag : Byte} {i : Fin 6} (h : s.toLane.current = some i)
    {act : Lane → Lane × Answer} {f : List ItemRecord → List ItemRecord} {r : ItemRecord} {c : Context} {n : Nat}
    (hact : act (s.toLane.begun code tag) = (s.toLane.begun code tag).appendItem f r)
    (hc : Context.append r { s.toLane.ctx i with items := f (s.toLane.ctx i).items } = c)
    (hn : c.items.length = n) :
    s.answering (withItemReply act (s.toLane.begun code tag)) =
      .next { s with
        sale := { s.sale with contexts := s.sale.contexts.set i c }
        link := s.link.answered code tag []
          ([.status .ok, .u8 n, .money r.amount] ++ c.itemFlags false) } := by
  have hbegun : (s.toLane.begun code tag).current = some i := h
  have happend : (s.toLane.begun code tag).appendItem f r =
      ((s.toLane.begun code tag).setCtx i c, ok [.u8 n, .money r.amount]) := by
    rw [Lane.appendItem, hbegun, ← hn, ← hc]
    rfl
  have hrole : c.role = ((s.toLane.begun code tag).ctx i).role := by
    rw [← hc]
    rfl
  have hset : ((s.toLane.begun code tag).setCtx i c).current = some i :=
    (Lane.current_setCtx _ i c hrole).trans hbegun
  have hcur : ((s.toLane.begun code tag).setCtx i c).currentCtx = c := by
    rw [Lane.currentCtx_eq hset, Lane.ctx_setCtx_same]
  rw [withItemReply, hact, happend, hcur]
  exact answering_changed rfl _

/-! ## ITEM (R11) -/

/-- ITEM's frame is taken and its action answered. -/
theorem exec_item {s : State} (h : s.takes) (tag : Byte) (d : Text) (q : Nat) (u : Int) :
    exec (.item tag d q u) s = s.answering (withItemReply (Lane.item d q u) (s.toLane.begun 0x11#8 tag)) :=
  request_answering (f := ⟨0x11#8, tag, putText d ++ put16 q ++ putI32 u⟩) h rfl (doItem d q u)

/-- When the operands of ITEM are not those of a KEYED record (R5). -/
theorem itemOperands_bad (d : Text) (q : Nat) (u : Int) :
    (!descriptionOk d || q < 1 || 999 < q || !within 9999999 u) = true ↔
      d.length < 1 ∨ 20 < d.length ∨ d.all printable = false ∨ q < 1 ∨ 999 < q ∨ u < -9999999 ∨ 9999999 < u := by
  simp [descriptionOk_eq_false, within_eq_false, or_assoc]

/-- When an amount is outside ± a limit, as a check states it. -/
theorem not_within (l x : Int) : (!within l x) = true ↔ x < -l ∨ l < x := by
  simp [within_eq_false]

/-- Settles O15: the checks one after another, then the KEYED record appended. -/
theorem itemAddsAKeyedRecord : Obligations.ItemAddsAKeyedRecord := by
  intro tag d q u s hs
  rw [exec_item hs]
  rcases hc : s.toLane.current with _ | i
  · exact answering_itemChecks_none hc rfl
  · have hcur : (s.toLane.begun 0x11#8 tag).currentCtx = s.toLane.ctx i := Lane.currentCtx_eq hc
    refine answering_itemChecks_some hc rfl ?_
    rw [withItemReply_checked rfl, hcur]
    simp only [withSubtotals_cons, withSubtotals_nil]
    refine answering_check (itemOperands_bad d q u) rfl fun _ => ?_
    refine answering_check (not_within _ _) rfl fun _ => ?_
    refine answering_check (by simp [Till.manager]) rfl fun _ => ?_
    refine answering_check (not_within _ _) rfl fun _ => ?_
    refine answering_check (by simp) rfl fun _ => ?_
    refine answering_check (by simp) rfl fun _ => ?_
    exact answering_appendItem (f := id) (r := keyedRecord d q u s.link.clock) hc rfl rfl List.length_append

/-! ## VOID_ITEM (R13) -/

/-- VOID_ITEM's frame is taken and its action answered. -/
theorem exec_voidItem {s : State} (h : s.takes) (tag : Byte) (n : Nat) :
    exec (.voidItem tag n) s = s.answering (withItemReply (Lane.voidItem n) (s.toLane.begun 0x12#8 tag)) :=
  request_answering (f := ⟨0x12#8, tag, put8 n⟩) h rfl (doVoidItem n)

/-- With no record of that number VOID_ITEM answers BAD_VALUE after the checks on the sale. -/
theorem Lane.voidItem_of_none {p : Lane} {n : Nat} (h : p.currentCtx.item n = none) :
    p.voidItem n = checked p.itemChecks (fun p => (p, alone .badValue)) p := by
  simp only [Lane.voidItem, checked, h]

/-- With a record of that number VOID_ITEM goes on to the checks on it. -/
theorem Lane.voidItem_of_some {p : Lane} {n : Nat} {r : ItemRecord} (h : p.currentCtx.item n = some r) :
    p.voidItem n = checked p.itemChecks (Lane.voidRecordOf n r) p := by
  simp only [Lane.voidItem, checked, h]

/-- An item number that names a record names the one at its place in the list (R6). -/
theorem Context.getElem?_of_item {c : Context} {n : Nat} {r : ItemRecord} (h : c.item n = some r) :
    c.items[n - 1]? = some r := by
  unfold Context.item at h
  split at h
  · cases h
  · exact h

/-- The record named is marked in its place. -/
theorem markVoided_eq_set {items : List ItemRecord} {n : Nat} {r : ItemRecord} (h : items[n - 1]? = some r) :
    markVoided n items = items.set (n - 1) { r with voided := true } := by
  rw [markVoided, List.modify_eq_set_getElem?, h]
  rfl

/-- Settles O16: the four checks on the sale, the record named, then the checks on it and the VOID record appended. -/
theorem voidItemAppendsAVoidRecord : Obligations.VoidItemAppendsAVoidRecord := by
  intro tag n s hs
  rw [exec_voidItem hs]
  rcases hc : s.toLane.current with _ | i
  · exact answering_itemChecks_none hc rfl
  have hcur : (s.toLane.begun 0x12#8 tag).currentCtx = s.toLane.ctx i := Lane.currentCtx_eq hc
  rcases hr : (s.toLane.ctx i).item n with _ | r
  · have hlook : (if n = 0 then none else (s.toLane.ctx i).items[n - 1]?) = none := hr
    refine answering_itemChecks_some hc (Lane.voidItem_of_none (hcur ▸ hr)) ?_
    rw [hlook, withItemReply, hcur]
    exact answering_same _ _ _ _
  · have hlook : (if n = 0 then none else (s.toLane.ctx i).items[n - 1]?) = some r := hr
    refine answering_itemChecks_some hc (Lane.voidItem_of_some (hcur ▸ hr)) ?_
    rw [hlook, withItemReply_checked (f := Lane.voidRecordOf n r) rfl, hcur]
    simp only [withSubtotals_cons, withSubtotals_nil]
    refine answering_check Iff.rfl rfl fun _ => ?_
    refine answering_check Iff.rfl rfl fun _ => ?_
    refine answering_check (not_within _ _) rfl fun _ => ?_
    refine answering_check (by simp) rfl fun _ => ?_
    refine answering_check (by simp) rfl fun _ => ?_
    refine answering_appendItem (f := markVoided n) (r := voidRecord n r s.link.clock) hc rfl ?_ (by simp)
    rw [markVoided_eq_set (Context.getElem?_of_item hr)]
    rfl

/-! ## BACK_TO_ITEMS (R15) -/

/-- BACK_TO_ITEMS's frame is taken and its action answered. -/
theorem exec_backToItems {s : State} (h : s.takes) (tag : Byte) :
    exec (.backToItems tag) s = s.answering (doBackToItems (s.toLane.begun 0x14#8 tag)) :=
  request_answering (f := ⟨0x14#8, tag, []⟩) h rfl doBackToItems

@[simp] theorem Lane.setTenderMark_queue (p : Lane) (b : Bool) : (p.setTenderMark b).cards.queue = p.cards.queue :=
  rfl

/-- With no FETCHED entry, leaving TENDER clears the mark and returns READY entries to HELD, with no event (R105). -/
theorem Lane.leaveTender_of_not_fetched {p : Lane} (h : ¬∃ e ∈ p.cards.queue, e.state = .fetched) :
    p.leaveTender = (p.setTenderMark false).setQueue (p.cards.queue.map CardEntry.withdrawn) := by
  have hnone : (p.cards.queue.map CardEntry.withdrawn).find? CardEntry.isFetched = none := by
    simp only [List.find?_eq_none, List.mem_map, forall_exists_index, and_imp, forall_apply_eq_imp_iff₂]
    intro e he
    have hne : e.state ≠ .fetched := fun hf => h ⟨e, he, hf⟩
    unfold CardEntry.withdrawn CardEntry.isFetched
    split <;> simp_all
  simp only [Lane.leaveTender, Lane.setTenderMark_queue, hnone]

/-- Settles O18: the checks one after another, then the sale returned to OPEN. -/
theorem backToItemsReturnsToOpen : Obligations.BackToItemsReturnsToOpen := by
  intro tag s hs
  rw [exec_backToItems hs]
  rcases hc : s.toLane.current with _ | i
  · exact answering_check_fails ((Lane.noSaleOpen_iff _).mpr hc)
  have hbegun : (s.toLane.begun 0x14#8 tag).current = some i := hc
  have hcur : (s.toLane.begun 0x14#8 tag).currentCtx = s.toLane.ctx i := Lane.currentCtx_eq hc
  have hopen : (s.toLane.begun 0x14#8 tag).noSaleOpen = false := Lane.noSaleOpen_eq_false hc
  rw [doBackToItems, checked_passes hopen, hcur]
  refine answering_check (by simp) rfl fun _ => ?_
  refine answering_check (Till.locked_iff _) rfl fun _ => ?_
  refine answering_check (by simp) rfl fun _ => ?_
  refine answering_check (by simp [CardEntry.isFetched]) rfl fun hfetched => ?_
  rw [checked_nil, Lane.backToItems, hbegun]
  dsimp only
  have hnot : ¬∃ e ∈ ((s.toLane.begun 0x14#8 tag).setSaleState i .opened).cards.queue, e.state = .fetched := hfetched
  rw [Lane.leaveTender_of_not_fetched hnot]
  exact answering_changed rfl _

/-! ## SUSPEND (R18) -/

/-- SUSPEND's frame is taken and its action answered. -/
theorem exec_suspend {s : State} (h : s.takes) (tag : Byte) :
    exec (.suspend tag) s = s.answering (doSuspend (s.toLane.begun 0x16#8 tag)) :=
  request_answering (f := ⟨0x16#8, tag, []⟩) h rfl doSuspend

theorem Link.handEvents_inProgress (l : Link) (events : List Message) :
    (l.handEvents events).inProgress = l.inProgress := by
  induction events generalizing l with
  | nil => rfl
  | cons m events ih => exact (ih (l.handEvent m)).trans (Link.handEvent_inProgress l m)

/-- A request answered after a change of the part that handed events over. -/
theorem answering_after_events {s : State} {code tag : Byte} {p : Lane} {events : List Message}
    (h : p.link = (s.link.taking code tag).handEvents events) (a : Answer) :
    s.answering (p, a) = s.becomes { p with link := s.link.answered code tag events a.allFields } := by
  have hticket : p.link.inProgress = some ⟨code, tag⟩ := by
    rw [h, Link.handEvents_inProgress, Link.taking_inProgress]
  rw [State.answering, Lane.respond_eq hticket, h]
  rfl

theorem Lane.endCapture_of_none {p : Lane} (h : p.scale.capture = none) (o : CaptureOutcome) (more : List Field) :
    p.endCapture o more = p := by
  rw [Lane.endCapture, h]

/-- The reserved record is free once the capture is dropped (R61). -/
theorem Lane.poolFree_dropCapture (p : Lane) : p.dropCapture.poolFree = 256 - p.held := rfl

/-- A pending capture is dropped, and then WEIGH_DONE handed over (R61, R62). -/
theorem Lane.endCapture_of_some {p : Lane} {k : Capture} (h : p.scale.capture = some k) (o : CaptureOutcome)
    (more : List Field) :
    p.endCapture o more = p.dropCapture.event 0x82#8 ([.name o.code, .u8 k.context, .u16 k.txn, .text k.description,
      .money k.unitPrice, .u16 (256 - p.held)] ++ more) := by
  rw [Lane.endCapture, h]
  dsimp only
  rw [Lane.weighDone, Lane.poolFree_dropCapture]

/-- The CURRENT sale parked: ending the capture leaves the contexts and the stack. -/
theorem Lane.suspendSale_eq {p : Lane} {i : Fin 6} (h : p.current = some i) :
    p.suspendSale =
      (((p.endCapture .cancelled []).setCtx i { p.ctx i with role := .suspended }).setStack (p.sale.stack ++ [i]),
        ok [.u16 ((p.ctx i).txn.getD 0), .u8 (p.sale.stack.length + 1)]) := by
  obtain ⟨-, hsale, -⟩ := Lane.endCapture_frame .cancelled [] p
  have hread : ∀ x, (((p.endCapture .cancelled []).setCtx i { p.ctx i with role := .suspended }).setStack x).ctx i =
      { p.ctx i with role := .suspended } := fun x => Lane.ctx_setCtx_same (p.endCapture .cancelled []) i _
  rw [Lane.suspendSale, h]
  simp only [Lane.setRole, Lane.ctx_of_sale hsale, hsale, hread]
  simp [Lane.setStack]

/-- Settles O19: the checks one after another, then the capture ended and the context parked. -/
theorem suspendParksTheSale : Obligations.SuspendParksTheSale := by
  intro tag s hs
  rw [exec_suspend hs]
  rcases hc : s.toLane.current with _ | i
  · exact answering_check_fails ((Lane.noSaleOpen_iff _).mpr hc)
  have hbegun : (s.toLane.begun 0x16#8 tag).current = some i := hc
  have hcur : (s.toLane.begun 0x16#8 tag).currentCtx = s.toLane.ctx i := Lane.currentCtx_eq hc
  have hopen : (s.toLane.begun 0x16#8 tag).noSaleOpen = false := Lane.noSaleOpen_eq_false hc
  rw [doSuspend, checked_passes hopen, hcur]
  refine answering_check (by simp) rfl fun _ => ?_
  refine answering_check (by simp) rfl fun _ => ?_
  rw [checked_nil, Lane.suspendSale_eq hbegun]
  rcases hk : s.scale.capture with _ | k
  · have hnone : (s.toLane.begun 0x16#8 tag).scale.capture = none := hk
    have hscale : { s.scale with capture := none } = s.scale := by rw [← hk]
    rw [Lane.endCapture_of_none hnone, hscale]
    exact answering_changed rfl _
  · have hsome : (s.toLane.begun 0x16#8 tag).scale.capture = some k := hk
    rw [Lane.endCapture_of_some hsome]
    exact answering_after_events rfl _

end Sys2Proof.Machine
end

section
/-! PROOFS. What a command does to the part, apart from the queue of waiting commands; and how an invariant of the part is
carried through every step. -/

namespace Sys2Proof.Machine

/-! ## A command's effect -/

/-- What an event of a block other than the lane link does to the part. -/
def blockEvent : Instr → Lane → Lane
  | .powerOn inputs torn => Lane.powerOn inputs torn
  | .resetInput inputs torn => Lane.resetInput inputs torn
  | .txnNumberWriteEnd result => Lane.txnWriteEnd result
  | .adcSample count => Lane.sample count
  | .joltHoldExpiry => Lane.joltExpire
  | .captureTimeout => Lane.captureExpire
  | .calCounterWriteEnd result => Lane.counterWriteEnd result
  | .calRecordWriteEnd result => Lane.recordWriteEnd result
  | .calSwitchOpening => Lane.switchOpens
  | .calSwitchClosing => Lane.switchCloses
  | .swipeEnd => Lane.swipeEnd
  | .cardExpired handle => Lane.expireCard handle
  | .kickPulseEnd => Lane.pulseEnd
  | .solenoidCurrentFault fault => Lane.currentFault fault
  | .confirmWindowExpiry drawer => Lane.confirmExpire drawer
  | .alarmTimerExpiry drawer => Lane.alarmExpire drawer
  | .trayRemoved drawer => Lane.trayRemoved drawer
  | .trayInserted drawer => Lane.trayInserted drawer
  | .closedSensorOpens drawer => Lane.closedOpens drawer
  | .closedSensorCloses drawer => Lane.closedCloses drawer
  | .keyPositionChange position => Lane.keyChange position
  | .assistButtonPress => Lane.assistPress
  | .dotRowEnd => Lane.rowEnd
  | .cutEnd => Lane.cutEnd
  | .headTempReading reading => Lane.temperatureReading reading
  | .printerSensorChange input => Lane.printerInput input
  | .printRestart => Lane.printRestart
  | .clockTick => Lane.clockTick
  | .fluxTransition head track time => Lane.flux head track time
  | _ => id

/-- What a byte or a frame on the serial line does to the part. -/
def lineEvent : Instr → Lane → Lane
  | .laneReset => fun p => if p.beginWriting then p else p.laneReset
  | .linkRateChange => fun p => if p.link.sendingReply ∧ p.link.newRate.isSome then p.frameSent else p
  | .frameBadCrc code tag => Lane.frameBadCrc code tag
  | .frameLengthAbandon => Lane.abandonByte
  | .gapLimitExpiry => Lane.abandonFrame
  | .stopBitError => Lane.abandonByte
  | .byteWhileHeld => fun p => p.withLink Link.byteWhileHeld
  | .heldFrameTaken => fun p => if p.link.sendingReply ∧ p.link.holding then p.frameSent else p
  | .frameSent => Lane.frameSent
  | .byteReceived byte => Lane.byteReceived byte
  | _ => id

/-- A command is a request, an event of a block, or an event of the serial line; that is all it does. -/
theorem exec_cases (c : Instr) (s : State) :
    (∃ f, requestFrame c = some f ∧ exec c s = s.advance (Lane.arrive f (serveRequest c))) ∨
      exec c s = s.advance (blockEvent c) ∨ exec c s = s.advance (lineEvent c) := by
  rcases hf : requestFrame c with _ | f
  · cases c <;> first | exact .inr (.inl rfl) | exact .inr (.inr rfl) | cases hf
  · exact .inl ⟨f, rfl, exec_request hf s⟩

/-- A step lets 1 µs pass, or is a request, an event of a block, or an event of the serial line. -/
theorem step_cases {s t : State} (h : step s = .next t) :
    t.toLane = { s.toLane with now := s.now + 1 } ∨
      ∃ c, (∃ f, t.toLane = s.toLane.arrive f (serveRequest c)) ∨ t.toLane = blockEvent c s.toLane ∨
        t.toLane = lineEvent c s.toLane := by
  unfold step at h
  split at h
  · cases h
    exact .inl rfl
  · rename_i c rest _
    refine .inr ⟨c, ?_⟩
    obtain ⟨f, -, he⟩ | he | he := exec_cases c { s with pending := rest }
    · rw [he] at h
      cases h
      exact .inl ⟨f, rfl⟩
    · rw [he] at h
      cases h
      exact .inr (.inl rfl)
    · rw [he] at h
      cases h
      exact .inr (.inr rfl)

/-! ## Invariants of the blocks behind the link -/

/-- A property of the part that the elapsed time and the lane link do not decide. -/
def BehindLink (I : Lane → Prop) : Prop :=
  ∀ (p : Lane) (n : Nat) (l : Link), I p → I { p with now := n, link := l }

theorem BehindLink.and {I J : Lane → Prop} (hI : BehindLink I) (hJ : BehindLink J) :
    BehindLink fun p => I p ∧ J p :=
  fun p n l h => ⟨hI p n l h.1, hJ p n l h.2⟩

theorem BehindLink.link {I : Lane → Prop} (hI : BehindLink I) {p : Lane} (l : Link) (h : I p) :
    I { p with link := l } :=
  hI p p.now l h

theorem BehindLink.withLink {I : Lane → Prop} (hI : BehindLink I) {p : Lane} (f : Link → Link) (h : I p) :
    I (p.withLink f) :=
  hI.link _ h

theorem BehindLink.event {I : Lane → Prop} (hI : BehindLink I) {p : Lane} (code : Byte) (fields : List Field)
    (h : I p) : I (p.event code fields) :=
  hI.link _ h

theorem BehindLink.latch {I : Lane → Prop} (hI : BehindLink I) {p : Lane} (f : Latched) (h : I p) :
    I (p.latch f) :=
  hI.link _ h

theorem BehindLink.elapseTo {I : Lane → Prop} (hI : BehindLink I) {p : Lane} (t : Nat) (h : I p) :
    I (p.elapseTo t) :=
  hI p _ p.link h

theorem BehindLink.respond {I : Lane → Prop} (hI : BehindLink I) {p : Lane} (a : Answer) (h : I p) :
    I (p.respond a) := by
  unfold Lane.respond
  split
  · exact hI.link _ h
  · exact h

/-- A request's body that keeps a property behind the link keeps it with its reply handed over. -/
theorem BehindLink.serve {I : Lane → Prop} (hI : BehindLink I) {body : Lane → Lane × Answer} {p : Lane}
    (h : I (body p).1) : I (Lane.serve body p) :=
  hI.respond _ h

/-- A request can be served now: none is in progress, or the reply of the one in progress is leaving the line. -/
def Lane.mayServe (p : Lane) : Prop :=
  p.link.inProgress = none ∨ p.link.sendingReply = true

/-- What is known of the part when a request is served or a lane reset made, and what must then be kept. -/
structure KeptByRequests (G I : Lane → Prop) : Prop where
  behind : BehindLink I
  guardBehind : BehindLink G
  request : ∀ c p, G p → I p → I (serveRequest c p)
  laneReset : ∀ p, G p → I p → I p.laneReset

namespace KeptByRequests

variable {G I : Lane → Prop} {p : Lane}

theorem take (K : KeptByRequests G I) (f : Frame) {serve : Lane → Lane}
    (hs : ∀ p, G p → I p → I (serve p)) (hg : G p) (h : I p) : I (p.take f serve) :=
  hs _ (K.guardBehind.link _ hg) (K.behind.link _ h)

theorem serveFrame (K : KeptByRequests G I) (f : Frame) (p : Lane) (hg : G p) (h : I p) :
    I (serveFrame f p) := by
  rcases hf : parseRequest f with _ | _ | c
  all_goals simp only [Machine.serveFrame, hf]
  · exact K.behind.serve h
  · exact K.behind.serve h
  · exact K.request c p hg h

theorem arrive (K : KeptByRequests G I) (f : Frame) {serve : Lane → Lane}
    (hs : ∀ p, G p → I p → I (serve p)) (hg : p.mayServe → G p) (h : I p) : I (p.arrive f serve) := by
  unfold Lane.arrive
  split
  · exact K.behind.link _ h
  all_goals
    split
    · exact K.behind.link _ h
    · exact K.take f hs (hg (.inl ‹_›)) h

theorem abandonFrame (K : KeptByRequests G I) (h : I p) : I p.abandonFrame := by
  unfold Lane.abandonFrame
  split
  · exact K.behind.withLink _ h
  all_goals exact h

theorem abandonByte (K : KeptByRequests G I) (h : I p) : I p.abandonByte := by
  unfold Lane.abandonByte
  split
  · exact K.behind.withLink _ h
  all_goals exact K.abandonFrame h

theorem badCrc (K : KeptByRequests G I) (code tag : Byte) (h : I p) : I (p.badCrc code tag) :=
  K.behind.latch _ (K.behind.event _ _ (K.behind.withLink _ h))

theorem byteReceived (K : KeptByRequests G I) (b : Byte) (hg : p.mayServe → G p) (h : I p) :
    I (p.byteReceived b) := by
  unfold Lane.byteReceived
  split
  · split
    · exact K.behind.withLink _ h
    · exact h
  · unfold Lane.collectByte
    split
    · exact K.behind.withLink _ h
    · split
      · unfold Lane.frameComplete
        dsimp only
        split
        · exact K.arrive _ (K.serveFrame _) (fun hm => K.guardBehind.withLink _ (hg hm)) (K.behind.withLink _ h)
        · exact K.badCrc _ _ h
      · exact K.behind.withLink _ h
  · exact K.behind.withLink _ h

/-- After the rate change the blocks behind the link are as they were. -/
theorem changeRate (K : KeptByRequests G I) (h : I p) : I p.changeRate := by
  unfold Lane.changeRate
  split
  · exact h
  · exact K.abandonFrame (K.behind.withLink _ h)

theorem guard (K : KeptByRequests G I) : KeptByRequests (fun _ => False) G :=
  ⟨K.guardBehind, fun _ _ _ h => h, fun _ _ h => h.elim, fun _ h => h.elim⟩

theorem replySent (K : KeptByRequests G I) (m : Message) (hg : G p) (h : I p) : I (p.replySent m) := by
  have hfree : I (p.lineFree.withLink fun l => { l with inProgress := none }) :=
    K.behind.withLink _ (K.behind.withLink _ h)
  have hgfree : G (p.lineFree.withLink fun l => { l with inProgress := none }) :=
    K.guardBehind.withLink _ (K.guardBehind.withLink _ hg)
  unfold Lane.replySent
  dsimp only
  split
  · exact K.laneReset _ hgfree hfree
  · have hnext := K.behind.withLink Link.pump (K.changeRate hfree)
    have hgnext := K.guardBehind.withLink Link.pump (K.guard.changeRate hgfree)
    unfold Lane.takeHeld
    split
    · exact K.take _ (K.serveFrame _) hgnext hnext
    all_goals exact hnext

theorem frameSent (K : KeptByRequests G I) (hg : p.mayServe → G p) (h : I p) : I p.frameSent := by
  unfold Lane.frameSent
  split
  · exact h
  · exact K.behind.withLink _ (K.behind.withLink _ h)
  · rename_i m hm
    exact K.replySent m (hg (.inr (by simp [Link.sendingReply, hm]))) h

/-- An event of the serial line keeps what requests and the lane reset keep. -/
theorem lineEvent (K : KeptByRequests G I) (hg : p.mayServe → G p) (hw : p.beginWriting = false → G p) (h : I p)
    (c : Instr) : I (lineEvent c p) := by
  cases c with
  | laneReset =>
    refine iteInduction (fun _ => h) fun hb => K.laneReset _ (hw ?_) h
    simpa using hb
  | linkRateChange => exact iteInduction (fun _ => K.frameSent hg h) fun _ => h
  | heldFrameTaken => exact iteInduction (fun _ => K.frameSent hg h) fun _ => h
  | frameSent => exact K.frameSent hg h
  | frameBadCrc code tag =>
    change I (p.frameBadCrc code tag)
    unfold Lane.frameBadCrc
    split
    · exact K.behind.withLink _ h
    all_goals exact K.badCrc _ _ h
  | frameLengthAbandon => exact K.abandonByte h
  | gapLimitExpiry => exact K.abandonFrame h
  | stopBitError => exact K.abandonByte h
  | byteWhileHeld => exact K.behind.withLink _ h
  | byteReceived byte => exact K.byteReceived _ hg h
  | _ => exact h

/-- A step keeps a property behind the link that requests, the lane reset and the events of the blocks keep. -/
theorem step (K : KeptByRequests G I) (hblock : ∀ c p, I p → I (blockEvent c p)) {s t : State}
    (hstep : step s = .next t) (hg : s.toLane.mayServe → G s.toLane) (hw : s.toLane.beginWriting = false → G s.toLane)
    (h : I s.toLane) : I t.toLane := by
  obtain ht | ⟨c, ⟨f, ht⟩ | ht | ht⟩ := step_cases hstep
  · rw [ht]
    exact K.behind s.toLane (s.now + 1) s.link h
  · rw [ht]
    exact K.arrive f (K.request c) hg h
  · rw [ht]
    exact hblock c _ h
  · rw [ht]
    exact K.lineEvent hg hw h c

end KeptByRequests

/-! ## Checks passed (R8) -/

theorem firstFailing_eq_none {l : List (Bool × Answer)} : firstFailing l = none ↔ ∀ x ∈ l, x.1 = false := by
  induction l with
  | nil => simp [firstFailing]
  | cons c l ih =>
    obtain ⟨b, a⟩ := c
    cases b
    · simpa [firstFailing] using ih
    · simp [firstFailing]

/-- What a checked request leaves: the part as it was, or what its action makes of it with every check passed. -/
theorem checked_keeps {I : Lane → Prop} {l : List (Bool × Answer)} {act : Lane → Lane × Answer} {p : Lane} (h : I p)
    (hact : (∀ x ∈ l, x.1 = false) → I (act p).1) : I (checked l act p).1 := by
  obtain ⟨a, -, hc⟩ | ⟨hnone, hc⟩ := checked_cases l act p
  · rw [hc]
    exact h
  · rw [hc]
    exact hact (firstFailing_eq_none.mp hnone)

/-! ## Steps and commands (R8) -/

/-- Settles O1: a step is the front command with the queue's rest, by the definition of step. -/
theorem stepRunsTheFrontCommand : Obligations.StepRunsTheFrontCommand :=
  fun _ _ _ => rfl

/-- Settles O2: whatever a command is, it advances the part and leaves the queue. -/
theorem emptyQueueTicksAndNothingStops : Obligations.EmptyQueueTicksAndNothingStops := by
  refine ⟨fun _ => rfl, fun c s => ?_⟩
  obtain ⟨f, -, h⟩ | h | h := exec_cases c s
  all_goals exact ⟨_, h, rfl⟩

end Sys2Proof.Machine
end

section
/-! PROOFS. The card queue keeps its bounds (R102 to R107). -/

namespace Sys2Proof.Machine

/-! ## Lists with one item changed or removed -/

theorem mem_updateFirst {α : Type} {test : α → Bool} {f : α → α} {l : List α} {x : α} (h : x ∈ updateFirst test f l) :
    x ∈ l ∨ ∃ y, l.find? test = some y ∧ x = f y := by
  induction l with
  | nil => exact .inl h
  | cons a l ih =>
    by_cases ha : test a = true
    · simp only [updateFirst, ha, if_true, List.mem_cons] at h
      rcases h with rfl | h
      · exact .inr ⟨a, by simp [ha], rfl⟩
      · exact .inl (by simp [h])
    · simp only [updateFirst, ha, Bool.false_eq_true, if_false, List.mem_cons] at h
      rcases h with rfl | h
      · exact .inl (by simp)
      · obtain h | ⟨y, hy, rfl⟩ := ih h
        · exact .inl (by simp [h])
        · exact .inr ⟨y, by simp [ha, hy], rfl⟩

/-- The item found is there in its new form. -/
theorem mem_updateFirst_of_find {α : Type} {test : α → Bool} {f : α → α} {l : List α} {y : α}
    (h : l.find? test = some y) : f y ∈ updateFirst test f l := by
  induction l with
  | nil => cases h
  | cons a l ih =>
    by_cases ha : test a = true
    · simp_all [updateFirst]
    · simp_all [updateFirst]

/-- What the change does not touch has the same values along the list. -/
theorem map_updateFirst {α β : Type} {test : α → Bool} {f : α → α} {g : α → β} (hg : ∀ x, g (f x) = g x) (l : List α) :
    (updateFirst test f l).map g = l.map g := by
  induction l with
  | nil => rfl
  | cons a l ih =>
    by_cases ha : test a = true
    · simp [updateFirst, ha, hg]
    · simp [updateFirst, ha, ih]

/-- Changing one item raises a count by 1 at most. -/
theorem countP_updateFirst_le {α : Type} (test P : α → Bool) (f : α → α) (l : List α) :
    (updateFirst test f l).countP P ≤ l.countP P + 1 := by
  induction l with
  | nil => simp [updateFirst]
  | cons a l ih =>
    by_cases ha : test a = true
    · simp only [updateFirst, ha, if_true, List.countP_cons]
      split <;> omega
    · simp only [updateFirst, ha, List.countP_cons]
      simp only [Bool.false_eq_true, if_false, List.countP_cons]
      omega

/-- Changing one item that goes on to count as it did leaves the count. -/
theorem countP_updateFirst_eq {α : Type} {test P : α → Bool} {f : α → α} {l : List α}
    (h : ∀ y, l.find? test = some y → P (f y) = P y) : (updateFirst test f l).countP P = l.countP P := by
  induction l with
  | nil => rfl
  | cons a l ih =>
    by_cases ha : test a = true
    · have hf : P (f a) = P a := h a (by simp [ha])
      simp [updateFirst, ha, List.countP_cons, hf]
    · have hl := ih fun y hy => h y (by simp [ha, hy])
      simp [updateFirst, ha, List.countP_cons, hl]

/-- Of at most one item that passes a test none is left once the first is removed. -/
theorem not_of_mem_eraseP {α : Type} {test : α → Bool} {l : List α} (h : l.countP test ≤ 1) {x : α}
    (hx : x ∈ l.eraseP test) : test x = false := by
  induction l with
  | nil => cases hx
  | cons a l ih =>
    by_cases ha : test a = true
    · rw [List.countP_cons_of_pos ha] at h
      rw [List.eraseP_cons_of_pos ha] at hx
      simpa using List.countP_eq_zero.mp (by omega) x hx
    · rw [List.countP_cons_of_neg ha] at h
      rw [List.eraseP_cons_of_neg ha, List.mem_cons] at hx
      obtain rfl | hx := hx
      · simpa using ha
      · exact ih h hx

/-! ## The queue's bounds, before promotion is tried -/

/-- The card classifier's bounds but for promotion: Cards.sound without its clause on a set TENDER mark. -/
structure Cards.Bounded (c : Cards) : Prop where
  length : c.queue.length ≤ 2
  counter : c.handleCounter ≤ 255
  handles : ∀ e ∈ c.queue, 1 ≤ e.handle ∧ e.handle ≤ 255
  unlike : (c.queue.map CardEntry.handle).Nodup
  one : (c.queue.countP fun e => decide (e.state ≠ .held)) ≤ 1
  unmarked : c.tenderMark = false → ∀ e ∈ c.queue, e.state = .held
  data : ∀ e ∈ c.queue, (e.full = none ↔ e.state = .fetched) ∧ (e.expiresAt = none ↔ e.state = .fetched)

theorem Cards.sound_iff (c : Cards) :
    c.sound ↔ c.Bounded ∧
      (c.tenderMark = true → (∀ e ∈ c.queue, e.state = .held) → ∀ e ∈ c.queue, e.cls = .loyalty ∨ e.cls = .blocked) := by
  constructor
  · rintro ⟨h1, h2, h3, h4, h5, h6, h7, h8⟩
    exact ⟨⟨h1, h2, h3, h4, h5, h6, h8⟩, h7⟩
  · rintro ⟨⟨h1, h2, h3, h4, h5, h6, h8⟩, h7⟩
    exact ⟨h1, h2, h3, h4, h5, h6, h7, h8⟩

theorem Cards.sound.bounded {c : Cards} (h : c.sound) : c.Bounded :=
  (c.sound_iff.mp h).1

/-- With the TENDER mark clear the bounds are all there is. -/
theorem Cards.Bounded.sound_of_unmarked {c : Cards} (h : c.Bounded) (hm : c.tenderMark = false) : c.sound :=
  c.sound_iff.mpr ⟨h, by simp [hm]⟩

/-- Entries leave the queue. -/
theorem Cards.Bounded.sublist {c : Cards} (h : c.Bounded) {q : List CardEntry} (hq : q.Sublist c.queue) :
    ({ c with queue := q } : Cards).Bounded where
  length := hq.length_le.trans h.length
  counter := h.counter
  handles e he := h.handles e (hq.subset he)
  unlike := List.Nodup.sublist (hq.map _) h.unlike
  one := hq.countP_le.trans h.one
  unmarked hm e he := h.unmarked hm e (hq.subset he)
  data e he := h.data e (hq.subset he)

/-- The queue with its first entry of a kind in another state, its handle kept. -/
theorem Cards.Bounded.update {c : Cards} (h : c.Bounded) {test : CardEntry → Bool} {f : CardEntry → CardEntry}
    (hmark : c.tenderMark = true) (hf : ∀ e, (f e).handle = e.handle)
    (hone : ((updateFirst test f c.queue).countP fun e => decide (e.state ≠ .held)) ≤ 1)
    (hdata : ∀ e ∈ c.queue, test e = true →
      ((f e).full = none ↔ (f e).state = .fetched) ∧ ((f e).expiresAt = none ↔ (f e).state = .fetched)) :
    ({ c with queue := updateFirst test f c.queue } : Cards).Bounded where
  length := by
    have hlen := congrArg List.length (map_updateFirst (test := test) hf c.queue)
    simp only [List.length_map] at hlen
    exact hlen.le.trans h.length
  counter := h.counter
  handles e he := by
    obtain he | ⟨y, hy, rfl⟩ := mem_updateFirst he
    · exact h.handles e he
    · rw [hf]
      exact h.handles y (List.mem_of_find?_eq_some hy)
  unlike := by
    have hmap := map_updateFirst (test := test) hf c.queue
    exact hmap ▸ h.unlike
  one := hone
  unmarked hm := absurd (hmark.symm.trans hm) (by simp)
  data e he := by
    obtain he | ⟨y, hy, rfl⟩ := mem_updateFirst he
    · exact h.data e he
    · exact hdata y (List.mem_of_find?_eq_some hy) (List.find?_some hy)

/-! ## Promotion (R105) -/

/-- The classifier after promotion was tried. -/
def Cards.promoted (c : Cards) : Cards :=
  if c.tenderMark && !c.queue.any CardEntry.offered then
    { c with queue := updateFirst CardEntry.promotable (fun x => { x with state := .ready }) c.queue }
  else c

theorem updateFirst_of_find_none {α : Type} {test : α → Bool} {l : List α} (h : l.find? test = none) (f : α → α) :
    updateFirst test f l = l := by
  induction l with
  | nil => rfl
  | cons a l ih =>
    by_cases ha : test a = true
    · simp [ha] at h
    · simp_all [updateFirst]

theorem Lane.promote_cards (p : Lane) : p.promote.cards = p.cards.promoted := by
  unfold Lane.promote Cards.promoted
  split
  · split
    · rfl
    · rename_i hnone
      rw [updateFirst_of_find_none hnone]
  · rfl

/-- A queue of which no entry is offered has HELD entries alone. -/
theorem held_of_not_offered {q : List CardEntry} (h : q.any CardEntry.offered = false) : ∀ e ∈ q, e.state = .held := by
  simpa [CardEntry.offered] using h

/-- Promotion makes a bounded queue sound. -/
theorem Cards.Bounded.promoted_sound {c : Cards} (h : c.Bounded) : c.promoted.sound := by
  by_cases hc : (c.tenderMark && !c.queue.any CardEntry.offered) = true
  · obtain ⟨hmark, hoff⟩ : c.tenderMark = true ∧ c.queue.any CardEntry.offered = false := by simpa using hc
    have hheld := held_of_not_offered hoff
    have hzero : (c.queue.countP fun e => decide (e.state ≠ .held)) = 0 := by
      simpa [List.countP_eq_zero] using hheld
    rw [Cards.promoted, if_pos hc, Cards.sound_iff]
    constructor
    · refine h.update hmark (fun _ => rfl) ?_ fun e he _ => ?_
      · have hle := countP_updateFirst_le CardEntry.promotable (fun e => decide (e.state ≠ .held))
          (fun x => { x with state := .ready }) c.queue
        omega
      · have hd := h.data e he
        simpa [hheld e he] using hd
    · intro _ hall
      rcases hfind : c.queue.find? CardEntry.promotable with _ | y
      · rw [updateFirst_of_find_none hfind]
        intro e he
        have hnot := List.find?_eq_none.mp hfind e he
        rcases hcls : e.cls <;> simp_all [CardEntry.promotable, CardClass.payment]
      · exact absurd (hall _ (mem_updateFirst_of_find hfind)) (by simp)
  · rw [Cards.promoted, if_neg hc, Cards.sound_iff]
    refine ⟨h, fun hmark hall => absurd hc ?_⟩
    simpa [hmark, CardEntry.offered] using hall

theorem Lane.promote_sound {p : Lane} (h : p.cards.Bounded) : p.promote.cards.sound := by
  rw [Lane.promote_cards]
  exact h.promoted_sound

/-! ## Entering and leaving TENDER (R105) -/

theorem Cards.Bounded.marked {c : Cards} (h : c.Bounded) : ({ c with tenderMark := true } : Cards).Bounded :=
  { h with unmarked := fun hm => absurd hm (by simp) }

theorem Lane.enterTender_sound {p : Lane} (h : p.cards.sound) : p.enterTender.cards.sound :=
  Lane.promote_sound h.bounded.marked

/-- The classifier after the notice that the sale left TENDER. -/
def Cards.tenderLeft (c : Cards) : Cards :=
  { c with tenderMark := false, queue := (c.queue.map CardEntry.withdrawn).eraseP CardEntry.isFetched }

theorem Lane.leaveTender_cards (p : Lane) : p.leaveTender.cards = p.cards.tenderLeft := by
  unfold Lane.leaveTender Cards.tenderLeft
  dsimp only
  split
  · rfl
  · rename_i hnone
    have hnot : ∀ e ∈ p.cards.queue.map CardEntry.withdrawn, ¬CardEntry.isFetched e = true := by
      simpa using hnone
    rw [List.eraseP_of_forall_not hnot]
    rfl

@[simp] theorem CardEntry.withdrawn_handle (e : CardEntry) : e.withdrawn.handle = e.handle := by
  unfold CardEntry.withdrawn; split <;> rfl

@[simp] theorem CardEntry.withdrawn_full (e : CardEntry) : e.withdrawn.full = e.full := by
  unfold CardEntry.withdrawn; split <;> rfl

@[simp] theorem CardEntry.withdrawn_expiresAt (e : CardEntry) : e.withdrawn.expiresAt = e.expiresAt := by
  unfold CardEntry.withdrawn; split <;> rfl

/-- An entry returned to HELD if READY is HELD unless it is FETCHED. -/
theorem CardEntry.withdrawn_state (e : CardEntry) :
    e.withdrawn.state = if e.state = .fetched then .fetched else .held := by
  unfold CardEntry.withdrawn
  rcases h : e.state <;> simp [h]

theorem Cards.Bounded.tenderLeft_sound {c : Cards} (h : c.Bounded) : c.tenderLeft.sound := by
  have hcount : (c.queue.map CardEntry.withdrawn).countP CardEntry.isFetched ≤ 1 := by
    rw [List.countP_map]
    refine (List.countP_mono_left fun e _ he => ?_).trans h.one
    simp only [Function.comp, CardEntry.isFetched, CardEntry.withdrawn_state, decide_eq_true_eq] at he
    split at he
    · simp [*]
    · cases he
  have hheld : ∀ e ∈ (c.queue.map CardEntry.withdrawn).eraseP CardEntry.isFetched, e.state = .held := by
    intro e he
    have hnot := not_of_mem_eraseP hcount he
    obtain ⟨x, -, rfl⟩ := List.mem_map.mp (List.mem_of_mem_eraseP he)
    rw [CardEntry.withdrawn_state]
    simp only [CardEntry.isFetched, CardEntry.withdrawn_state, decide_eq_false_iff_not] at hnot
    split at hnot
    · exact absurd rfl hnot
    · rw [if_neg ‹_›]
  have hback : ({ c with tenderMark := false, queue := c.queue.map CardEntry.withdrawn } : Cards).queue.map
      CardEntry.handle = c.queue.map CardEntry.handle := by
    simp [Function.comp_def]
  have hsub : ((c.queue.map CardEntry.withdrawn).eraseP CardEntry.isFetched).Sublist
      (c.queue.map CardEntry.withdrawn) := List.eraseP_sublist
  refine Cards.Bounded.sound_of_unmarked ?_ rfl
  exact
    { length := hsub.length_le.trans (by simpa using h.length)
      counter := h.counter
      handles := fun e he => by
        obtain ⟨x, hx, rfl⟩ := List.mem_map.mp (hsub.subset he)
        simpa using h.handles x hx
      unlike := List.Nodup.sublist (hsub.map _) (hback ▸ h.unlike)
      one := by
        refine (List.countP_eq_zero.mpr fun e he => ?_).le.trans (Nat.zero_le 1)
        simp [hheld e he]
      unmarked := fun _ => hheld
      data := fun e he => by
        obtain ⟨x, hx, rfl⟩ := List.mem_map.mp (hsub.subset he)
        have hd := h.data x hx
        rw [CardEntry.withdrawn_full, CardEntry.withdrawn_expiresAt, CardEntry.withdrawn_state]
        split
        all_goals simp_all }

theorem Lane.leaveTender_sound {p : Lane} (h : p.cards.Bounded) : p.leaveTender.cards.sound := by
  rw [Lane.leaveTender_cards]
  exact h.tenderLeft_sound

/-! ## Entries added, removed and fetched (R102, R104, R107) -/

theorem Lane.removeCard_bounded {p : Lane} (h : p.cards.Bounded) (n : Nat) : (p.removeCard n).cards.Bounded :=
  h.sublist List.eraseP_sublist

/-- The next handle lies in its range and is that of no entry. -/
theorem Cards.nextHandle_spec {c : Cards} (h : c.Bounded) (hroom : c.queue.length ≤ 1) :
    1 ≤ c.nextHandle ∧ c.nextHandle ≤ 255 ∧ ∀ e ∈ c.queue, e.handle ≠ c.nextHandle := by
  have hcounter := h.counter
  rcases hq : c.queue with _ | ⟨e, _ | ⟨x, rest⟩⟩
  · simp only [Cards.nextHandle, hq, List.any_nil, Bool.false_eq_true, if_false, List.not_mem_nil, false_implies,
      implies_true, and_true]
    split <;> omega
  · simp only [Cards.nextHandle, hq, List.any_cons, List.any_nil, Bool.or_false, CardEntry.named, decide_eq_true_eq,
      List.mem_singleton, forall_eq]
    split_ifs <;> omega
  · simp [hq] at hroom

theorem Lane.queueCard_sound {p : Lane} (h : p.cards.sound) (r : SwipeResult) (i : Fin 24) (cls : CardClass) :
    (p.queueCard r i cls).cards.sound := by
  unfold Lane.queueCard
  split
  · exact h
  · rename_i hroom
    have hb := h.bounded
    have hroom : p.cards.queue.length ≤ 1 := by omega
    obtain ⟨hlow, hhigh, hunlike⟩ := Cards.nextHandle_spec hb hroom
    refine Lane.promote_sound ?_
    exact
      { length := by simpa using hroom
        counter := hhigh
        handles := fun e he => by
          obtain he | rfl := List.mem_append.mp he |>.imp_right List.mem_singleton.mp
          · exact hb.handles e he
          · exact ⟨hlow, hhigh⟩
        unlike := by
          simp only [Lane.event_cards, List.map_append, List.nodup_append]
          exact ⟨hb.unlike, by simp, by simpa [Lane.entryFor] using hunlike⟩
        one := by
          have hone := hb.one
          simpa [Lane.entryFor] using hone
        unmarked := fun hm e he => by
          obtain he | rfl := List.mem_append.mp he |>.imp_right List.mem_singleton.mp
          · exact hb.unmarked hm e he
          · rfl
        data := fun e he => by
          obtain he | rfl := List.mem_append.mp he |>.imp_right List.mem_singleton.mp
          · exact hb.data e he
          · simp [Lane.entryFor] }

theorem Lane.takeLoyalty_sound {p : Lane} (h : p.cards.sound) (r : SwipeResult) (i : Fin 24) :
    (p.takeLoyalty r i).cards.sound := by
  unfold Lane.takeLoyalty
  split
  · exact Lane.queueCard_sound h r i _
  · split <;> exact h

theorem Lane.takeResult_sound {p : Lane} (h : p.cards.sound) (r : SwipeResult) : (p.takeResult r).cards.sound := by
  unfold Lane.takeResult
  split
  · exact h
  split
  · exact h
  split
  · exact h
  split
  · exact h
  · exact h
  · exact Lane.takeLoyalty_sound h r _
  all_goals exact Lane.queueCard_sound h r _ _

theorem Lane.handOver_sound {p : Lane} (h : p.cards.sound) (head : Head) (a b : TrackReading) :
    (p.handOver head a b).cards.sound := by
  unfold Lane.handOver
  split
  · exact Lane.takeResult_sound h _
  · exact Lane.takeResult_sound h _
  · exact h

theorem Lane.swipeEnd_sound {p : Lane} (h : p.cards.sound) : p.swipeEnd.cards.sound := by
  unfold Lane.swipeEnd
  split
  · refine Lane.handOver_sound ?_ _ _ _
    exact h
  · exact h

theorem Lane.applyHeldLoyalty_sound {p : Lane} (h : p.cards.sound) (i : Fin 6) : (p.applyHeldLoyalty i).cards.sound := by
  unfold Lane.applyHeldLoyalty
  split
  · exact h
  split
  · exact h
  · exact Lane.promote_sound (h.bounded.sublist List.eraseP_sublist)

theorem Lane.expireCard_sound {p : Lane} (h : p.cards.sound) (n : Nat) : (p.expireCard n).cards.sound := by
  unfold Lane.expireCard
  split
  · exact h
  split
  · exact h
  · exact Lane.promote_sound (Lane.removeCard_bounded (p := p.elapseTo _) h.bounded n)

/-- A READY entry fetched: still the only one offered, with its data and its timer gone. -/
theorem Lane.fetchCard_sound {p : Lane} (h : p.cards.sound) {n : Nat} (hready : p.cardIs n .ready = true) :
    (p.fetchCard n).1.cards.sound := by
  obtain ⟨hb, hpromoted⟩ := p.cards.sound_iff.mp h
  unfold Lane.fetchCard
  rcases hcard : p.card n with _ | e
  · exact h
  have hstate : e.state = .ready := by simpa [Lane.cardIs, hcard] using hready
  have hmem : e ∈ p.cards.queue := List.mem_of_find?_eq_some hcard
  have hmark : p.cards.tenderMark = true := by
    rcases hm : p.cards.tenderMark with _ | _
    · simp [hb.unmarked hm e hmem] at hstate
    · rfl
  refine (Cards.sound_iff _).mpr ⟨hb.update hmark (fun _ => rfl) ?_ fun x _ _ => by simp [CardEntry.fetch], fun _ hall => ?_⟩
  · rw [countP_updateFirst_eq fun y hy => ?_]
    · exact hb.one
    · obtain rfl : e = y := Option.some.inj (hcard.symm.trans hy)
      simp [CardEntry.fetch, hstate]
  · exact absurd (hall _ (mem_updateFirst_of_find hcard)) (by simp [CardEntry.fetch])

/-- A checked request keeps the bounds when its action does. -/
theorem checked_cards_sound {l : List (Bool × Answer)} {act : Lane → Lane × Answer} {p : Lane} (h : p.cards.sound)
    (hact : (∀ x ∈ l, x.1 = false) → (act p).1.cards.sound) : (checked l act p).1.cards.sound :=
  checked_keeps (I := fun p => p.cards.sound) h hact

/-! ## Requests that reach the card queue (R98, R99, R105 to R109, R114 to R118) -/

theorem Lane.settle_sound {p : Lane} (h : p.cards.Bounded) (i : Fin 6) (by_ : SettledBy)
    (htotal : by_ = .total → p.cards.sound) : (p.settle i by_).cards.sound := by
  unfold Lane.settle
  simp only [Lane.settledEvent_frame, Lane.placeJob_frame, Lane.setRole_cards, Lane.grantAndOpen_frame]
  split
  · exact htotal ‹_›
  · exact Lane.leaveTender_sound h

theorem doTotal_sound {p : Lane} (h : p.cards.sound) : (doTotal p).1.cards.sound := by
  refine checked_cards_sound h fun _ => checked_cards_sound h fun _ => ?_
  unfold Lane.totalSale
  split
  · exact h
  dsimp only
  split
  · exact Lane.enterTender_sound h
  · exact Lane.settle_sound h.bounded _ _ fun _ => h

theorem doBackToItems_sound {p : Lane} (h : p.cards.sound) : (doBackToItems p).1.cards.sound := by
  refine checked_cards_sound h fun _ => ?_
  unfold Lane.backToItems
  split
  · exact h
  · exact Lane.leaveTender_sound h.bounded

theorem doCancelSale_sound {p : Lane} (h : p.cards.sound) : (doCancelSale p).1.cards.sound := by
  refine checked_cards_sound h fun _ => ?_
  unfold Lane.cancelSale
  split
  · exact h
  have hended : (p.endCapture .cancelled []).cards = p.cards := by simp
  simp only [Lane.placeJob_frame, Lane.setCtx_cards]
  split
  · exact Lane.leaveTender_sound (hended ▸ h.bounded)
  · exact hended ▸ h

/-- A tender taken: promotion is tried while the sale stays in TENDER, otherwise the sale leaves it. -/
theorem Lane.takeTender_sound {p : Lane} (h : p.cards.Bounded) (t : Tender) {by_ : SettledBy} (hby : by_ ≠ .total)
    {stay : Lane → Lane} (hstay : ∀ q, q.cards = p.cards → (stay q).cards.sound) (hopen : p.noSaleOpen = false) :
    (p.takeTender t by_ stay).1.cards.sound := by
  unfold Lane.takeTender
  split
  · rename_i hnone
    simp [Lane.noSaleOpen, hnone] at hopen
  dsimp only
  split
  · exact hstay _ rfl
  · refine Lane.settle_sound ?_ _ _ fun htotal => absurd htotal hby
    exact h

theorem withTenderReply_fst (body : Lane → Lane × Answer) (p : Lane) : (withTenderReply body p).1 = (body p).1 := by
  unfold withTenderReply
  dsimp only
  split <;> rfl

/-- With the checks of a tender passed a sale is open. -/
theorem noSaleOpen_of_tenderChecks {p : Lane} (h : ∀ x ∈ p.tenderChecks, x.1 = false) : p.noSaleOpen = false :=
  h (p.noSaleOpen, refusedWith .noSaleOpen) (by simp [Lane.tenderChecks])

theorem doTenderCash_sound {p : Lane} (h : p.cards.sound) (amount : Int) : (doTenderCash amount p).1.cards.sound := by
  rw [doTenderCash, withTenderReply_fst, Lane.cashTender]
  refine checked_cards_sound h fun hchecks =>
    checked_cards_sound h fun _ => ?_
  exact Lane.takeTender_sound h.bounded _ (by simp) (fun q hq => hq ▸ h) (noSaleOpen_of_tenderChecks hchecks)

theorem doTenderCard_sound {p : Lane} (h : p.cards.sound) (n : Nat) (amount cashback : Int) (approval : Text) :
    (doTenderCard n amount cashback approval p).1.cards.sound := by
  rw [doTenderCard, withTenderReply_fst, Lane.cardTender]
  refine checked_cards_sound h fun hchecks =>
    checked_cards_sound h fun _ => ?_
  split
  · exact h
  rename_i e _
  refine checked_cards_sound h fun _ =>
    checked_cards_sound h fun _ =>
      checked_cards_sound h fun _ => ?_
  have hb := Lane.removeCard_bounded h.bounded e.handle
  exact Lane.takeTender_sound hb _ (by simp) (fun q hq => Lane.promote_sound (hq ▸ hb))
    (noSaleOpen_of_tenderChecks hchecks)

theorem doCardFetch_sound {p : Lane} (h : p.cards.sound) (n : Nat) : (doCardFetch n p).1.cards.sound := by
  refine checked_cards_sound h fun hchecks => Lane.fetchCard_sound h ?_
  have hready := hchecks (!p.cardIs n .ready, refusedWith .notReady) (by simp)
  simpa using hready

theorem doCardDiscard_sound {p : Lane} (h : p.cards.sound) (n : Nat) : (doCardDiscard n p).1.cards.sound :=
  checked_cards_sound h fun _ => Lane.promote_sound (Lane.removeCard_bounded h.bounded n)

theorem doDeclineCard_sound {p : Lane} (h : p.cards.sound) (n : Nat) : (doDeclineCard n p).1.cards.sound := by
  refine checked_cards_sound h fun _ => ?_
  unfold Lane.declineCard
  split
  · exact h
  · exact Lane.promote_sound (Lane.removeCard_bounded h.bounded n)

theorem doRangeWrite_sound {p : Lane} (h : p.cards.sound) (n : Nat) (e : RangeFields) :
    (doRangeWrite n e p).1.cards.sound := by
  unfold doRangeWrite
  split
  · exact h
  refine checked_cards_sound h fun _ => ?_
  unfold Lane.writeRange
  split <;> exact h

/-- Every request keeps the card queue's bounds: most leave the classifier as it was. -/
theorem serveRequest_cards_sound (c : Instr) {p : Lane} (h : p.cards.sound) : (serveRequest c p).cards.sound := by
  cases c with
  | total => simpa [serveRequest, Lane.serve] using doTotal_sound h
  | backToItems => simpa [serveRequest, Lane.serve] using doBackToItems_sound h
  | cancelSale => simpa [serveRequest, Lane.serve] using doCancelSale_sound h
  | tenderCash _ amount => simpa [serveRequest, Lane.serve] using doTenderCash_sound h amount
  | tenderCard _ n amount cashback approval =>
    simpa [serveRequest, Lane.serve] using doTenderCard_sound h n amount cashback approval
  | cardFetch _ n => simpa [serveRequest, Lane.serve] using doCardFetch_sound h n
  | cardDiscard _ n => simpa [serveRequest, Lane.serve] using doCardDiscard_sound h n
  | declineCard _ n => simpa [serveRequest, Lane.serve] using doDeclineCard_sound h n
  | rangeWrite _ n e => simpa [serveRequest, Lane.serve] using doRangeWrite_sound h n e
  | rangeMask _ positions =>
    have hmask : (doRangeMask positions p).1.cards.sound :=
      checked_cards_sound h fun _ => h
    simpa [serveRequest, Lane.serve] using hmask
  | cardSetup _ tens =>
    have hsetup : (doCardSetup tens p).1.cards.sound :=
      checked_cards_sound h fun _ => h
    simpa [serveRequest, Lane.serve] using hsetup
  | _ => simpa [serveRequest, Lane.serve] using h

/-! ## Events, resets and every step -/

/-- An empty queue with the TENDER mark clear. -/
theorem Cards.sound_of_empty {c : Cards} (hq : c.queue = []) (hc : c.handleCounter ≤ 255) (hm : c.tenderMark = false) :
    c.sound := by
  simp [Cards.sound, hq, hc, hm]

theorem Lane.startUp_sound (i : ResetInputs) (torn : TornRecord) (n : Nat) (clock : Option DateTime) (m left : Nat)
    (p : Lane) : (p.startUp i torn n clock m left).cards.sound := by
  have hcards : (p.startUp i torn n clock m left).cards = Cards.reset := by simp [Lane.startUp]
  rw [hcards]
  exact Cards.sound_of_empty rfl (by decide) rfl

theorem Lane.obtain_cards (p : Lane) : p.obtain.cards = p.cards := by simp

theorem Lane.openSale_sound {p : Lane} (h : p.cards.sound) (txn : Nat) : (p.openSale txn).cards.sound := by
  have hobtain : p.obtain.cards.sound := p.obtain_cards.symm ▸ h
  unfold Lane.openSale
  dsimp only
  split
  · simpa using hobtain
  · simp only [Lane.respond_frame]
    refine Lane.applyHeldLoyalty_sound ?_ _
    exact hobtain

theorem Lane.txnWriteEnd_sound {p : Lane} (h : p.cards.sound) (result : WriteEnd) : (p.txnWriteEnd result).cards.sound := by
  unfold Lane.txnWriteEnd
  split
  · split
    · refine Lane.openSale_sound ?_ _
      exact h
    · simpa using h
  · exact h

theorem Lane.laneReset_sound {p : Lane} (h : p.cards.sound) : p.laneReset.cards.sound := by
  have hcut : p.cutForReset.cards = p.cards := by simp
  refine Cards.sound_of_empty rfl ?_ rfl
  exact (congrArg Cards.handleCounter hcut).le.trans h.bounded.counter

theorem blockEvent_cards_sound (c : Instr) {p : Lane} (h : p.cards.sound) : (blockEvent c p).cards.sound := by
  cases c with
  | powerOn => exact Lane.startUp_sound _ _ _ _ _ _ _
  | resetInput => exact Lane.startUp_sound _ _ _ _ _ _ _
  | txnNumberWriteEnd => exact Lane.txnWriteEnd_sound h _
  | swipeEnd => exact Lane.swipeEnd_sound h
  | cardExpired => exact Lane.expireCard_sound h _
  | _ => simpa [blockEvent] using h

theorem cards_keptByRequests : KeptByRequests (fun _ => True) fun p => p.cards.sound where
  behind _ _ _ h := h
  guardBehind _ _ _ h := h
  request c _ _ h := serveRequest_cards_sound c h
  laneReset _ _ h := Lane.laneReset_sound h

/-- Settles O59: every request and every event keeps the bounds, and so every step does. -/
theorem cardsStaySound : Obligations.CardsStaySound := fun _ _ h hstep =>
  cards_keptByRequests.step (fun c _ => blockEvent_cards_sound c) hstep (fun _ => trivial) (fun _ => trivial) h

end Sys2Proof.Machine
end

section
/-! PROOFS. The amounts of the sales, the lists and the item pool stay within their limits (R4, R12, R113). -/

namespace Sys2Proof.Machine

/-! ## The pending capture, and who leaves it alone -/

@[simp] theorem Lane.setZero_capture (p : Lane) (c : Int) : (p.setZero c).scale.capture = p.scale.capture := rfl
@[simp] theorem Lane.setTare_capture (p : Lane) (u : Nat) : (p.setTare u).scale.capture = p.scale.capture := rfl
@[simp] theorem Lane.setRail_capture (p : Lane) (n : Nat) : (p.setRail n).scale.capture = p.scale.capture := rfl
@[simp] theorem Lane.joltHold_capture (p : Lane) : p.joltHold.scale.capture = p.scale.capture := rfl
@[simp] theorem Lane.restarted_capture (p : Lane) : p.restarted.scale.capture = p.scale.capture := rfl
@[simp] theorem Lane.restart_capture (p : Lane) : p.restart.scale.capture = p.scale.capture := rfl
@[simp] theorem Lane.enterUnit_capture (p : Lane) (u : UnitState) : (p.enterUnit u).scale.capture = p.scale.capture := rfl
@[simp] theorem Lane.computeChain_capture (p : Lane) : p.computeChain.scale.capture = p.scale.capture := rfl
@[simp] theorem Lane.samplePeriod_capture (p : Lane) : p.samplePeriod.scale.capture = p.scale.capture := rfl

@[simp] theorem Lane.endCapture_capture (o : CaptureOutcome) (more : List Field) (p : Lane) :
    (p.endCapture o more).scale.capture = none := by
  unfold Lane.endCapture
  split
  · rfl
  · assumption

@[simp] theorem Lane.zeroStage_capture (chain : Chain) (p : Lane) :
    (p.zeroStage chain).scale.capture = p.scale.capture := by
  unfold Lane.zeroStage Lane.powerUpZero Lane.trackZero
  repeat' split
  all_goals rfl

@[simp] theorem Lane.feedStage_capture (p : Lane) : p.feedStage.scale.capture = p.scale.capture := by
  unfold Lane.feedStage
  dsimp only
  split <;> rfl

@[simp] theorem Lane.joltExpire_capture (p : Lane) : p.joltExpire.scale.capture = p.scale.capture := by
  simp [Lane.joltExpire]

@[simp] theorem Lane.releaseSolenoid_capture (p : Lane) : p.releaseSolenoid.scale.capture = p.scale.capture := by
  unfold Lane.releaseSolenoid
  dsimp only
  split <;> rfl

@[simp] theorem Lane.cutPulse_capture (p : Lane) : p.cutPulse.scale.capture = p.scale.capture := by
  unfold Lane.cutPulse
  split
  · exact Lane.releaseSolenoid_capture _
  · rfl

@[simp] theorem Lane.trayRemoved_capture (d : Drawer) (p : Lane) : (p.trayRemoved d).scale.capture = p.scale.capture := by
  unfold Lane.trayRemoved
  split
  · rfl
  · dsimp only
    split <;> simp [Lane.setDriver]

@[simp] theorem Lane.pulseEnd_capture (p : Lane) : p.pulseEnd.scale.capture = p.scale.capture := by
  unfold Lane.pulseEnd
  split
  · rfl
  · dsimp only
    split
    · split <;> simp
    · simp [Lane.onDrawer]

@[simp] theorem Lane.currentFault_capture (f : CurrentFault) (p : Lane) :
    (p.currentFault f).scale.capture = p.scale.capture := by
  unfold Lane.currentFault
  split
  · rfl
  · simp [Lane.onDrawer]

@[simp] theorem Lane.leaveCal_capture (cause : CalCause) (p : Lane) :
    (p.leaveCal cause).scale.capture = p.scale.capture := by
  unfold Lane.leaveCal
  dsimp only
  split <;> rfl

@[simp] theorem Lane.endCommit_capture (outcome : List Field) (p : Lane) :
    (p.endCommit outcome).scale.capture = p.scale.capture := by
  unfold Lane.endCommit
  dsimp only
  split
  · rfl
  · simp
  all_goals rfl

@[simp] theorem Lane.counterWriteEnd_capture (result : WriteEnd) (p : Lane) :
    (p.counterWriteEnd result).scale.capture = p.scale.capture := by
  unfold Lane.counterWriteEnd
  split
  · split <;> simp
  · rfl

@[simp] theorem Lane.recordWriteEnd_capture (result : WriteEnd) (p : Lane) :
    (p.recordWriteEnd result).scale.capture = p.scale.capture := by
  unfold Lane.recordWriteEnd
  split
  · split <;> simp
  · rfl

@[simp] theorem Lane.switchOpens_capture (p : Lane) : p.switchOpens.scale.capture = p.scale.capture := by
  unfold Lane.switchOpens
  dsimp only
  split
  · simp
  all_goals rfl

/-! ## A context's figures -/

/-- What a context's sums and limits are about: its lists and its two sums. -/
def Context.figures (c : Context) : List ItemRecord × List Tender × Int × Int :=
  (c.items, c.tenders, c.subtotal, c.tenderSum)

theorem Context.sound_of_figures {c d : Context} (h : d.figures = c.figures) (hc : c.sound) : d.sound := by
  obtain ⟨hitems, htenders, hsubtotal, hsum⟩ :
      d.items = c.items ∧ d.tenders = c.tenders ∧ d.subtotal = c.subtotal ∧ d.tenderSum = c.tenderSum := by
    simpa [Context.figures] using h
  rw [Context.sound, hitems, htenders, hsubtotal, hsum]
  exact hc

theorem Context.items_of_figures {c d : Context} (h : d.figures = c.figures) : d.items = c.items :=
  congrArg Prod.fst h

theorem Context.freed_sound : Context.freed.sound := by
  decide

/-! ## The item pool (R4) -/

theorem Lane.held_eq_sum (p : Lane) : p.held = ∑ i, (p.ctx i).items.length := by
  simp [Lane.held, contextNumbers, Fin.sum_univ_six, add_assoc]

/-- A context written changes the records held by the difference of the two lists. -/
theorem Lane.held_setCtx (p : Lane) (i : Fin 6) (c : Context) :
    (p.setCtx i c).held + (p.ctx i).items.length = p.held + c.items.length := by
  rw [Lane.held_eq_sum, Lane.held_eq_sum, ← Finset.add_sum_erase _ _ (Finset.mem_univ i),
    ← Finset.add_sum_erase Finset.univ (fun j => (p.ctx j).items.length) (Finset.mem_univ i), Lane.ctx_setCtx_same]
  have hrest : ∀ j ∈ Finset.univ.erase i, ((p.setCtx i c).ctx j).items.length = (p.ctx j).items.length := by
    intro j hj
    rw [Lane.ctx_setCtx, if_neg (Finset.ne_of_mem_erase hj).symm]
  rw [Finset.sum_congr rfl hrest]
  omega

theorem Lane.reserved_of_capture {p : Lane} {c : Capture} (h : p.scale.capture = some c) : p.reserved = 1 := by
  simp [Lane.reserved, h]

theorem Lane.reserved_of_none {p : Lane} (h : p.scale.capture = none) : p.reserved = 0 := by
  simp [Lane.reserved, h]

/-! ## Changes that leave the amounts -/

/-- From p to q no context's figures change but by the context being emptied, and no capture is made. -/
structure Lane.AmountsKept (p q : Lane) : Prop where
  figures : ∀ i, (q.ctx i).figures = (p.ctx i).figures ∨ (q.ctx i).figures = Context.freed.figures
  capture : q.scale.capture = p.scale.capture ∨ q.scale.capture = none

namespace Lane.AmountsKept

variable {p q r : Lane}

theorem of_eq (hs : q.sale.contexts = p.sale.contexts) (hc : q.scale.capture = p.scale.capture) : p.AmountsKept q where
  figures i := .inl (by rw [Lane.ctx_congr hs])
  capture := .inl hc

theorem refl (p : Lane) : p.AmountsKept p := of_eq rfl rfl

/-- What follows leaves the contexts and the capture. -/
theorem same (h : p.AmountsKept q) (hs : r.sale.contexts = q.sale.contexts)
    (hc : r.scale.capture = q.scale.capture) : p.AmountsKept r where
  figures i := by
    rw [Lane.ctx_congr hs]
    exact h.figures i
  capture := hc ▸ h.capture

theorem length_le (h : p.AmountsKept q) (i : Fin 6) : (q.ctx i).items.length ≤ (p.ctx i).items.length := by
  obtain hi | hi := h.figures i
  · rw [Context.items_of_figures hi]
  · rw [Context.items_of_figures hi]
    exact Nat.zero_le _

/-- Amounts stay sound under such a change. -/
theorem sound (h : p.AmountsKept q) (hp : p.amountsSound) : q.amountsSound := by
  obtain ⟨hctx, hpool, hcapture⟩ := hp
  have hheld : q.held ≤ p.held := by
    rw [Lane.held_eq_sum, Lane.held_eq_sum]
    exact Finset.sum_le_sum fun i _ => h.length_le i
  refine ⟨fun i => ?_, ?_, ?_⟩
  · obtain hi | hi := h.figures i
    · exact Context.sound_of_figures hi (hctx i)
    · exact Context.sound_of_figures hi Context.freed_sound
  · have hreserved : q.reserved ≤ p.reserved := by
      obtain hc | hc := h.capture
      · simp [Lane.reserved, hc]
      · simp [Lane.reserved, hc]
    omega
  · obtain hc | hc := h.capture
    · intro c hmem
      obtain ⟨hroom, hprice⟩ := hcapture c (hc ▸ hmem)
      exact ⟨(h.length_le _).trans_lt hroom, hprice⟩
    · simp [hc]

theorem setCtx (h : p.AmountsKept q) (i : Fin 6) {c : Context}
    (hc : c.figures = (q.ctx i).figures ∨ c.figures = Context.freed.figures) : p.AmountsKept (q.setCtx i c) where
  figures j := by
    rw [Lane.ctx_setCtx]
    split
    · rename_i hij
      obtain hc | hc := hc
      · rw [hc, hij]
        exact h.figures j
      · exact .inr hc
    · exact h.figures j
  capture := h.capture

theorem setSaleState (h : p.AmountsKept q) (i : Fin 6) (x : SaleState) : p.AmountsKept (q.setSaleState i x) :=
  h.setCtx i (c := { q.ctx i with saleState := some x }) (.inl rfl)

theorem setRole (h : p.AmountsKept q) (i : Fin 6) (r : Role) : p.AmountsKept (q.setRole i r) :=
  h.setCtx i (c := { q.ctx i with role := r }) (.inl rfl)

theorem setLoyalty (h : p.AmountsKept q) (i : Fin 6) (t : Text) : p.AmountsKept (q.setLoyalty i t) :=
  h.setCtx i (c := { q.ctx i with loyalty := some t }) (.inl rfl)

theorem promote (h : p.AmountsKept q) : p.AmountsKept q.promote :=
  h.same (by simp) (by simp)

theorem leaveTender (h : p.AmountsKept q) : p.AmountsKept q.leaveTender :=
  h.same (by simp) (by simp)

theorem freeCtx (h : p.AmountsKept q) (i : Fin 6) : p.AmountsKept (q.freeCtx i) :=
  (h.setCtx i (.inr rfl)).same rfl rfl

theorem endCapture (h : p.AmountsKept q) (o : CaptureOutcome) (more : List Field) :
    p.AmountsKept (q.endCapture o more) where
  figures i := by
    rw [Lane.ctx_of_sale (Lane.endCapture_frame o more q).2.1]
    exact h.figures i
  capture := .inr (Lane.endCapture_capture o more q)

/-- Starting the head job leaves the sales and the capture. -/
theorem startHead (h : p.AmountsKept q) : p.AmountsKept q.startHead :=
  h.same (congrArg Sale.contexts (Lane.startsTo_startHead q).sale) (by simp)

theorem appendJob (h : p.AmountsKept q) (j : Job) : p.AmountsKept (q.appendJob j) := by
  unfold Lane.appendJob
  split
  · refine startHead ?_
    exact h.same rfl rfl
  · exact h.same rfl rfl

theorem placeJob (h : p.AmountsKept q) (k : JobKind) (i : Fin 6) : p.AmountsKept (q.placeJob k i) := by
  unfold Lane.placeJob
  split
  · exact h.same rfl rfl
  · exact h.appendJob _

theorem freePlace (h : p.AmountsKept q) : p.AmountsKept q.freePlace := by
  unfold Lane.freePlace
  split
  · exact h
  · split
    · exact h
    · exact h.same rfl rfl

theorem receiptEnd (h : p.AmountsKept q) (i : Fin 6) : p.AmountsKept (q.receiptEnd i) := by
  refine setCtx ?_ i (.inl rfl)
  unfold Lane.retireLastPrinted
  split
  · exact h
  · split
    · exact h.freeCtx _
    · exact h.setCtx _ (.inl rfl)

theorem copyEnd (h : p.AmountsKept q) (i : Fin 6) : p.AmountsKept (q.copyEnd i) := by
  have hpin : p.AmountsKept (q.setCtx i { q.ctx i with pin := 0 }) := h.setCtx i (.inl rfl)
  unfold Lane.copyEnd
  dsimp only
  split
  · exact hpin.freeCtx i
  · exact hpin

theorem jobReport (h : p.AmountsKept q) (j : Job) : p.AmountsKept (q.jobReport j) := by
  unfold Lane.jobReport
  split
  · exact h.receiptEnd _
  · exact h.receiptEnd _
  · exact h.copyEnd _
  · exact h.same rfl rfl

theorem jobEnd (h : p.AmountsKept q) : p.AmountsKept q.jobEnd := by
  unfold Lane.jobEnd
  split
  · exact h
  · refine startHead (same (q := Lane.freePlace _) (freePlace (jobReport ?_ _)) rfl rfl)
    exact h.same rfl rfl

theorem settle (h : p.AmountsKept q) (i : Fin 6) (by_ : SettledBy) : p.AmountsKept (q.settle i by_) where
  figures j := by
    rw [Lane.ctx_settle]
    split
    · rename_i hj
      rw [hj]
      exact h.figures i
    · exact h.figures j
  capture := by
    have hkept : (q.settle i by_).scale = q.scale := by simp
    exact hkept ▸ h.capture

end Lane.AmountsKept

/-! ## Records and tenders joining a sale (R6, R12, R112) -/

/-- A context written with sound figures, a pool that holds them, and no capture pending. -/
theorem Lane.setCtx_amountsSound {p : Lane} (h : p.amountsSound) {i : Fin 6} {c : Context} (hc : c.sound)
    (hpool : p.held + c.items.length ≤ 256 + (p.ctx i).items.length) (hnone : p.scale.capture = none) :
    (p.setCtx i c).amountsSound := by
  refine ⟨fun j => ?_, ?_, ?_⟩
  · rw [Lane.ctx_setCtx]
    split
    · exact hc
    · exact h.1 j
  · have hheld := p.held_setCtx i c
    have hreserved : (p.setCtx i c).reserved = 0 := Lane.reserved_of_none hnone
    omega
  · simp [hnone]

/-- A record appended to a list whose amounts a change kept. -/
theorem Context.append_sound {c : Context} (h : c.sound) {items : List ItemRecord} {r : ItemRecord}
    (hamounts : items.map ItemRecord.amount = c.items.map ItemRecord.amount) (hroom : c.items.length < 150)
    (hlow : -99999999 ≤ c.subtotal + r.amount) (hhigh : c.subtotal + r.amount ≤ 99999999) :
    (Context.append r { c with items := items }).sound := by
  obtain ⟨hsub, -, -, -, htenders⟩ := h
  have hlength : items.length = c.items.length := by simpa using congrArg List.length hamounts
  refine ⟨?_, hlow, hhigh, ?_, htenders⟩
  · simp [Context.append, hamounts, hsub]
  · simp only [Context.append, List.length_append, List.length_singleton, hlength]
    omega

theorem Lane.appendItem_amountsSound {p : Lane} (h : p.amountsSound) {f : List ItemRecord → List ItemRecord}
    {r : ItemRecord}
    (hf : (f p.currentCtx.items).map ItemRecord.amount = p.currentCtx.items.map ItemRecord.amount)
    (hnone : p.scale.capture = none) (hsub : within 99999999 (p.currentCtx.subtotal + r.amount) = true)
    (hfree : p.poolFree ≠ 0) (hroom : p.currentCtx.items.length < 150) : (p.appendItem f r).1.amountsSound := by
  unfold Lane.appendItem
  split
  · exact h
  · rename_i i hcur
    rw [Lane.currentCtx_eq hcur] at hf hsub hroom
    have hin : ¬(p.ctx i).subtotal + r.amount < -99999999 ∧ ¬99999999 < (p.ctx i).subtotal + r.amount := by
      rw [← not_or, ← within_eq_false, hsub]
      simp
    have hlength : (f (p.ctx i).items).length = (p.ctx i).items.length := by simpa using congrArg List.length hf
    refine Lane.setCtx_amountsSound h (Context.append_sound (h.1 i) hf hroom (by omega) (by omega)) ?_ hnone
    have hreserved := Lane.reserved_of_none hnone
    simp only [Context.append, List.length_append, List.length_singleton, hlength]
    rw [Lane.poolFree] at hfree
    omega

/-- Marking a record voided leaves the amounts. -/
theorem map_amount_markVoided (n : Nat) (items : List ItemRecord) :
    (markVoided n items).map ItemRecord.amount = items.map ItemRecord.amount := by
  refine List.ext_getElem? fun k => ?_
  simp only [markVoided, List.getElem?_map, List.getElem?_modify]
  rcases items[k]? with _ | r
  · rfl
  · split <;> rfl

theorem checked_amountsSound {l : List (Bool × Answer)} {act : Lane → Lane × Answer} {p : Lane} (h : p.amountsSound)
    (hact : (∀ x ∈ l, x.1 = false) → (act p).1.amountsSound) : (checked l act p).1.amountsSound :=
  checked_keeps (I := Lane.amountsSound) h hact

/-- With the first checks of ITEM passed no capture is pending. -/
theorem capture_none_of_itemChecks {p : Lane} (h : ∀ x ∈ p.itemChecks, x.1 = false) : p.scale.capture = none := by
  have hcheck := h (p.scale.capture.isSome, refusedWith .capturePending) (by simp [Lane.itemChecks])
  simpa using hcheck

theorem doItem_amountsSound {p : Lane} (h : p.amountsSound) (d : Text) (q : Nat) (u : Int) :
    (doItem d q u p).1.amountsSound := by
  refine checked_amountsSound h fun hfirst => checked_amountsSound h fun hchecks => ?_
  simp only [List.forall_mem_cons] at hchecks
  obtain ⟨-, -, -, hsub, hfree, hroom, -⟩ := hchecks
  exact Lane.appendItem_amountsSound h rfl (capture_none_of_itemChecks hfirst) (by simpa [keyedRecord] using hsub)
    (by simpa using hfree) (by simpa using hroom)

theorem doVoidItem_amountsSound {p : Lane} (h : p.amountsSound) (n : Nat) : (doVoidItem n p).1.amountsSound := by
  refine checked_amountsSound h fun hfirst => ?_
  split
  · exact h
  refine checked_amountsSound h fun hchecks => ?_
  simp only [List.forall_mem_cons] at hchecks
  obtain ⟨-, -, hsub, hfree, hroom, -⟩ := hchecks
  exact Lane.appendItem_amountsSound h (map_amount_markVoided _ _) (capture_none_of_itemChecks hfirst)
    (by simpa [voidRecord, Int.sub_eq_add_neg] using hsub) (by simpa using hfree) (by simpa using hroom)

/-- A tender added within the limits. -/
theorem Context.addTender_sound {c : Context} (h : c.sound) {t : Tender} (hroom : c.tenders.length < 8)
    (hlow : 0 ≤ t.settlementValue) (hhigh : c.tenderSum + t.settlementValue ≤ 99999999) : (c.addTender t).sound := by
  obtain ⟨hsub, hmin, hmax, hitems, hsum, hpos, -, -⟩ := h
  refine ⟨hsub, hmin, hmax, hitems, ?_, ?_, hhigh, ?_⟩
  · simp [Context.addTender, hsum]
  · simp only [Context.addTender]
    omega
  · simp only [Context.addTender, List.length_append, List.length_singleton]
    omega

theorem Lane.takeTender_amountsSound {p : Lane} (h : p.amountsSound) {t : Tender} {by_ : SettledBy} {stay : Lane → Lane}
    (hstay : ∀ q : Lane, q.AmountsKept (stay q)) (hroom : p.currentCtx.tenders.length < 8)
    (hlow : 0 ≤ t.settlementValue) (hhigh : p.currentCtx.tenderSum + t.settlementValue ≤ 99999999) :
    (p.takeTender t by_ stay).1.amountsSound := by
  unfold Lane.takeTender
  split
  · exact h
  · rename_i i hcur
    rw [Lane.currentCtx_eq hcur] at hroom hhigh
    have hset : (p.setCtx i ((p.ctx i).addTender t)).amountsSound := by
      refine ⟨fun j => ?_, ?_, fun c hc => ?_⟩
      · rw [Lane.ctx_setCtx]
        split
        · exact Context.addTender_sound (h.1 i) hroom hlow hhigh
        · exact h.1 j
      · have hheld := p.held_setCtx i ((p.ctx i).addTender t)
        have hitems : ((p.ctx i).addTender t).items = (p.ctx i).items := rfl
        have hpool : p.held + p.reserved ≤ 256 := h.2.1
        have hreserved : (p.setCtx i ((p.ctx i).addTender t)).reserved = p.reserved := rfl
        rw [hitems] at hheld
        omega
      · obtain ⟨hplace, hprice⟩ := h.2.2 c hc
        refine ⟨?_, hprice⟩
        rw [Lane.ctx_setCtx]
        split
        · rename_i hi
          exact hi ▸ hplace
        · exact hplace
    dsimp only
    split
    · exact (hstay _).sound hset
    · exact ((Lane.AmountsKept.refl _).settle _ _).sound hset

theorem doTenderCash_amountsSound {p : Lane} (h : p.amountsSound) (amount : Int) :
    (doTenderCash amount p).1.amountsSound := by
  rw [doTenderCash, withTenderReply_fst, Lane.cashTender]
  refine checked_amountsSound h fun _ => checked_amountsSound h fun hchecks => ?_
  simp only [List.forall_mem_cons, tenderAmountOk] at hchecks
  obtain ⟨hamount, hroom, htotal, -⟩ := hchecks
  have hvalue : ∀ time, (⟨amount, time, none⟩ : Tender).settlementValue = amount := fun _ => by
    simp [Tender.settlementValue]
  refine Lane.takeTender_amountsSound h (fun q => .refl q) (by simpa using hroom) ?_ ?_
  · rw [hvalue]
    have hone : 1 ≤ amount ∧ amount ≤ 99999999 := by simpa using hamount
    omega
  · rw [hvalue]
    simpa using htotal

theorem doTenderCard_amountsSound {p : Lane} (h : p.amountsSound) (n : Nat) (amount cashback : Int) (approval : Text) :
    (doTenderCard n amount cashback approval p).1.amountsSound := by
  rw [doTenderCard, withTenderReply_fst, Lane.cardTender]
  refine checked_amountsSound h fun _ => checked_amountsSound h fun hoperands => ?_
  split
  · exact h
  rename_i e _
  refine checked_amountsSound h fun hroom => checked_amountsSound h fun _ => checked_amountsSound h fun htotal => ?_
  simp only [List.forall_mem_cons, tenderAmountOk, cashbackOk] at hoperands hroom htotal
  have hvalue : (cardTenderOf e amount cashback approval p.clock).settlementValue = amount + cashback := by
    simp [Tender.settlementValue, cardTenderOf]
  have hok : 1 ≤ amount ∧ 0 ≤ cashback := by
    have hall := hoperands.1
    simp only [Bool.or_eq_false_iff, Bool.not_eq_false', Bool.and_eq_true, decide_eq_true_eq] at hall
    omega
  have hkept : p.AmountsKept (p.removeCard e.handle) := .of_eq rfl rfl
  refine Lane.takeTender_amountsSound (hkept.sound h) (fun q => .of_eq (by simp) (by simp)) ?_ ?_ ?_
  · have hlength : p.currentCtx.tenders.length < 8 := by simpa using hroom.1
    exact hlength
  · rw [hvalue]
    omega
  · rw [hvalue]
    have hle : ¬99999999 < p.currentCtx.tenderSum + amount + cashback := by simpa using htotal.1
    have hsame : (p.removeCard e.handle).currentCtx = p.currentCtx := rfl
    rw [hsame]
    omega

/-! ## The capture (R48, R54) -/

theorem doWeigh_amountsSound {p : Lane} (h : p.amountsSound) (d : Text) (x : Int) : (doWeigh d x p).1.amountsSound := by
  refine checked_amountsSound h fun hchecks => ?_
  simp only [List.forall_mem_cons] at hchecks
  obtain ⟨-, -, -, -, hoperands, -, hnone, -, hfree, hroom, -⟩ := hchecks
  unfold Lane.startCapture
  split
  · exact h
  rename_i i hcur
  rw [Lane.currentCtx_eq hcur] at hroom
  refine ⟨h.1, ?_, ?_⟩
  · have hnone : p.scale.capture = none := by simpa using hnone
    have hfree : p.poolFree ≠ 0 := by simpa using hfree
    have hreserved := Lane.reserved_of_none hnone
    rw [Lane.poolFree] at hfree
    exact (show p.held + 1 ≤ 256 by omega)
  · have hprice : 1 ≤ x := by
      simp only [Bool.or_eq_false_iff, decide_eq_false_iff_not, not_lt] at hoperands
      omega
    have hroom : (p.ctx i).items.length < 150 := by simpa using hroom
    rintro c ⟨⟩
    exact ⟨hroom, show 0 ≤ x by omega⟩

/-- A capture made takes the record that was reserved for it. -/
theorem Lane.makeCapture_amountsSound {p : Lane} (h : p.amountsSound) {c : Capture} (hc : p.scale.capture = some c)
    (chain : Chain) {amount : Int} (hlow : 0 ≤ amount)
    (hhigh : (p.ctx c.context).subtotal + amount ≤ 99999999) : (p.makeCapture c chain amount).amountsSound := by
  obtain ⟨hctx, hpool, hcapture⟩ := h
  have hroom := (hcapture c hc).1
  have hreserved := Lane.reserved_of_capture hc
  obtain ⟨-, hmin, -⟩ := hctx c.context
  have hafter : (Context.append (weighedRecord c chain amount p.clock) (p.ctx c.context)).sound :=
    Context.append_sound (hctx c.context) rfl hroom (show -99999999 ≤ _ + amount by omega) hhigh
  have hdropped : ({ p with scale := { p.scale with
      latch := true, tare := if p.scale.autoClear then 0 else p.scale.tare, capture := none } } : Lane).amountsSound :=
    ⟨hctx, show p.held + 0 ≤ 256 by omega, by simp⟩
  refine Lane.setCtx_amountsSound hdropped hafter ?_ rfl
  simp only [Context.append, List.length_append, List.length_singleton]
  exact (show p.held + ((p.ctx c.context).items.length + 1) ≤ 256 + (p.ctx c.context).items.length by omega)

/-- A fit sample's weighed amount is not negative: it weighs 40 g at least. -/
theorem weighedAmount_nonneg {conditions : Conditions} {chain : Chain} {price : Int}
    (hfit : obstacleOf conditions chain = none) (hprice : 0 ≤ price) : 0 ≤ weighedAmount chain.netGrams price := by
  have hmin : 400 ≤ chain.netRounded := by
    by_contra hlow
    unfold obstacleOf at hfit
    split_ifs at hfit
    omega
  have hgrams : 0 ≤ chain.netGrams := by
    unfold Chain.netGrams
    omega
  have hproduct := Int.mul_nonneg hgrams hprice
  unfold weighedAmount
  omega

theorem Lane.judge_amountsSound {p : Lane} (h : p.amountsSound) {c : Capture} (hc : p.scale.capture = some c)
    (chain : Chain) : (p.judge c chain).amountsSound := by
  unfold Lane.judge
  split
  · rename_i o _
    refine ⟨h.1, ?_, ?_⟩
    · have hpool : p.held + p.reserved ≤ 256 := h.2.1
      rw [Lane.reserved_of_capture hc] at hpool
      exact hpool
    · rintro d ⟨⟩
      exact h.2.2 c hc
  · rename_i hfit
    dsimp only
    split
    · exact ((Lane.AmountsKept.refl p).endCapture _ _).sound h
    split
    · exact ((Lane.AmountsKept.refl p).endCapture _ _).sound h
    · exact Lane.makeCapture_amountsSound h hc chain (weighedAmount_nonneg hfit (h.2.2 c hc).2) (by omega)

theorem Lane.captureStage_amountsSound {p : Lane} (h : p.amountsSound) (chain : Chain) :
    (p.captureStage chain).amountsSound := by
  have hlatch : (if chain.gross < 400 then { p with scale := { p.scale with latch := false } } else p).amountsSound := by
    split <;> exact h
  unfold Lane.captureStage
  dsimp only
  split
  · exact Lane.judge_amountsSound hlatch ‹_› chain
  · exact hlatch

theorem Lane.processSample_amountsSound {p : Lane} (h : p.amountsSound) (count : Int) :
    (p.processSample count).amountsSound := by
  have hchain : ((p.enterHistory count).computeChain).amountsSound := h
  unfold Lane.processSample
  dsimp only
  split
  · rename_i chain _
    have hzero : ((p.enterHistory count).computeChain.zeroStage chain).amountsSound :=
      (Lane.AmountsKept.of_eq (by simp) (by simp)).sound hchain
    exact (Lane.AmountsKept.of_eq (by simp) (by simp)).sound (Lane.captureStage_amountsSound hzero chain)
  · exact hchain

theorem Lane.feedStage_amountsSound {p : Lane} (h : p.amountsSound) : p.feedStage.amountsSound :=
  ((Lane.AmountsKept.refl p).same (by simp) (by simp)).sound h

theorem Lane.enterAdcFault_amountsSound {p : Lane} (h : p.amountsSound) : p.enterAdcFault.amountsSound :=
  (((Lane.AmountsKept.refl p).endCapture .adcFault []).same rfl rfl).sound h

theorem Lane.sample_amountsSound {p : Lane} (h : p.amountsSound) (count : Int) : (p.sample count).amountsSound := by
  have hperiod : p.samplePeriod.amountsSound := h
  have hrail : ∀ n, (p.samplePeriod.setRail n).amountsSound := fun _ => h
  unfold Lane.sample
  dsimp only
  split
  · split
    · exact Lane.feedStage_amountsSound (hrail 0)
    · split
      · exact Lane.feedStage_amountsSound (hrail _)
      · exact Lane.processSample_amountsSound ((Lane.AmountsKept.of_eq (by simp) (by simp)).sound hperiod) count
  · split
    · split
      · exact Lane.processSample_amountsSound (hrail _) count
      · exact Lane.feedStage_amountsSound (Lane.enterAdcFault_amountsSound hperiod)
    · exact Lane.processSample_amountsSound (hrail 0) count

/-! ## Requests and events that keep the figures -/

namespace Lane.AmountsKept

variable {p : Lane}

theorem checked {l : List (Bool × Answer)} {act : Lane → Lane × Answer} (h : p.AmountsKept (act p).1) :
    p.AmountsKept (Machine.checked l act p).1 :=
  checked_keeps (I := fun q => p.AmountsKept q) (refl p) fun _ => h

theorem total (p : Lane) : p.AmountsKept (doTotal p).1 := by
  refine checked (checked ?_)
  unfold Lane.totalSale
  split
  · exact refl p
  dsimp only
  split
  · exact (((refl p).setSaleState _ _).same (r := (Lane.setSaleState _ _ _).setTenderMark true) rfl rfl).promote
  · exact (refl p).settle _ _

theorem backToItems (p : Lane) : p.AmountsKept (doBackToItems p).1 := by
  refine checked ?_
  unfold Lane.backToItems
  split
  · exact refl p
  · exact ((refl p).setSaleState _ _).leaveTender

theorem cancelSale (p : Lane) : p.AmountsKept (doCancelSale p).1 := by
  refine checked ?_
  unfold Lane.cancelSale
  split
  · exact refl p
  have hended := (refl p).endCapture .cancelled []
  dsimp only
  refine placeJob (setCtx ?_ _ ?_) _ _
  · split
    · exact hended.leaveTender
    · exact hended
  · exact .inl rfl

theorem suspend (p : Lane) : p.AmountsKept (doSuspend p).1 := by
  refine checked ?_
  unfold Lane.suspendSale
  split
  · exact refl p
  · rename_i i _
    have hended := (refl p).endCapture .cancelled []
    exact (hended.setRole i .suspended).same rfl rfl

theorem resume (p : Lane) : p.AmountsKept (doResume p).1 := by
  refine checked ?_
  unfold Lane.resumeSale
  split
  · exact refl p
  · rename_i i _
    exact ((refl p).setRole i .current).same rfl rfl

theorem dropSuspended (p : Lane) : p.AmountsKept (doDropSuspended p).1 := by
  unfold doDropSuspended
  split
  · exact refl p
  · exact checked ((refl p).freeCtx _)

theorem settleSetup (p : Lane) (b : Byte) : p.AmountsKept (doSettleSetup b p).1 := by
  unfold doSettleSetup
  split
  · exact refl p
  · exact of_eq rfl rfl

theorem reprint (p : Lane) : p.AmountsKept (doReprint p).1 := by
  refine checked ?_
  unfold Lane.reprint
  split
  · exact refl p
  · rename_i i _
    exact ((refl p).setCtx i (c := { p.ctx i with pin := 1 }) (.inl rfl)).appendJob _

theorem slip (p : Lane) (lines : List Text) : p.AmountsKept (doSlip lines p).1 := by
  refine checked (appendJob ?_ _)
  exact of_eq rfl rfl

theorem removeSlip (h : p.AmountsKept q) (j : Job) : p.AmountsKept (q.removeSlip j) := by
  unfold Lane.removeSlip
  dsimp only
  split <;> exact h.same rfl rfl

theorem afterRemoval (h : p.AmountsKept q) (j : Job) : p.AmountsKept (q.afterRemoval j) := by
  unfold Lane.afterRemoval
  split
  · exact h
  · exact h
  all_goals
    split
    · exact h
    · exact h.startHead

theorem abortSlip (p : Lane) : p.AmountsKept (doPrintAbort p).1 := by
  refine checked ?_
  unfold Lane.abortSlip
  split
  · exact refl p
  · refine afterRemoval ?_ _
    exact ((refl p).removeSlip _).freePlace.same rfl rfl

theorem calExit (p : Lane) : p.AmountsKept (doCalExit p).1 := by
  unfold doCalExit
  split
  · exact refl p
  · exact of_eq (by simp) (by simp)
  · exact of_eq rfl rfl
  · exact refl p

theorem scaleFeed (p : Lane) (b : Byte) : p.AmountsKept (doScaleFeed b p).1 := by
  unfold doScaleFeed
  split
  · exact refl p
  · exact of_eq rfl rfl

end Lane.AmountsKept

/-- Every request keeps the amounts within their limits. -/
theorem serveRequest_amountsSound (c : Instr) {p : Lane} (h : p.amountsSound) : (serveRequest c p).amountsSound := by
  have hbehind : BehindLink Lane.amountsSound := fun _ _ _ h => h
  have hkept : ∀ {body : Lane → Lane × Answer}, p.AmountsKept (body p).1 → (Lane.serve body p).amountsSound :=
    fun hk => hbehind.serve (hk.sound h)
  cases c with
  | beginSale =>
    change p.serveBegin.amountsSound
    unfold Lane.serveBegin
    split
    · exact hbehind.respond _ h
    · exact h
  | item _ d q u => exact hbehind.serve (doItem_amountsSound h d q u)
  | voidItem _ n => exact hbehind.serve (doVoidItem_amountsSound h n)
  | total => exact hkept (.total p)
  | backToItems => exact hkept (.backToItems p)
  | cancelSale => exact hkept (.cancelSale p)
  | suspend => exact hkept (.suspend p)
  | resume => exact hkept (.resume p)
  | dropSuspended => exact hkept (.dropSuspended p)
  | weigh _ d x => exact hbehind.serve (doWeigh_amountsSound h d x)
  | weighCancel => exact hkept (.checked ((Lane.AmountsKept.refl p).endCapture _ _))
  | tenderCash _ a => exact hbehind.serve (doTenderCash_amountsSound h a)
  | tenderCard _ n a c code => exact hbehind.serve (doTenderCard_amountsSound h n a c code)
  | settleSetup _ b => exact hkept (.settleSetup p b)
  | reprint => exact hkept (.reprint p)
  | slip _ lines => exact hkept (.slip p lines)
  | printAbort => exact hkept (.abortSlip p)
  | calEnter => exact hkept (.checked (.of_eq rfl rfl))
  | calExit => exact hkept (.calExit p)
  | scaleFeed _ b => exact hkept (.scaleFeed p b)
  | zero => exact hkept (.checked (.checked (.of_eq rfl rfl)))
  | tare => exact hkept (.checked (.checked (.of_eq rfl rfl)))
  | tarePreset => exact hkept (.checked (.checked (.of_eq rfl rfl)))
  | tareClear => exact hkept (.checked (.of_eq rfl rfl))
  | scaleSetup => exact hkept (.checked (.of_eq rfl rfl))
  | calZero => exact hkept (.checked (.checked (.of_eq rfl rfl)))
  | _ => exact (Lane.AmountsKept.of_eq (by simp [serveRequest, Lane.serve]) (by simp [serveRequest, Lane.serve])).sound h

/-! ## Events, resets and every step -/

/-- A sale engine with every context FREE and no capture pending. -/
theorem Lane.amountsSound_of_freed {p : Lane} (hs : p.sale.contexts = Vector.replicate 6 Context.freed)
    (hc : p.scale.capture = none) : p.amountsSound := by
  have hctx : ∀ i, p.ctx i = Context.freed := fun i => by simp [Lane.ctx, hs]
  refine ⟨fun i => hctx i ▸ Context.freed_sound, ?_, by simp [hc]⟩
  rw [Lane.held_eq_sum, Lane.reserved_of_none hc]
  simp [hctx, Context.freed]

theorem Lane.startUp_amountsSound (i : ResetInputs) (torn : TornRecord) (n : Nat) (clock : Option DateTime)
    (m left : Nat) (p : Lane) : (p.startUp i torn n clock m left).amountsSound :=
  Lane.amountsSound_of_freed rfl rfl

theorem Lane.AmountsKept.obtain (p : Lane) : p.AmountsKept p.obtain := by
  unfold Lane.obtain
  split
  · exact refl p
  · split
    · exact (refl p).freeCtx _
    · exact refl p

theorem Lane.AmountsKept.applyHeldLoyalty {p q : Lane} (h : p.AmountsKept q) (i : Fin 6) :
    p.AmountsKept (q.applyHeldLoyalty i) := by
  unfold Lane.applyHeldLoyalty
  split
  · exact h
  split
  · exact h
  · rename_i d _
    exact ((h.setLoyalty i d.account).same (r := ((q.setLoyalty i d.account).setQueue _).loyaltyEvent _ _ _) rfl rfl).promote

theorem Lane.openSale_amountsSound {p : Lane} (h : p.amountsSound) (txn : Nat) : (p.openSale txn).amountsSound := by
  have hbehind : BehindLink Lane.amountsSound := fun _ _ _ h => h
  have hobtain := Lane.AmountsKept.obtain p
  unfold Lane.openSale
  dsimp only
  split
  · exact hbehind.respond _ (hobtain.sound h)
  · rename_i i _
    refine hbehind.respond _ (Lane.AmountsKept.sound (p := p) (.applyHeldLoyalty ?_ i) h)
    exact (hobtain.setCtx i (c := p.obtain.newSale txn) (.inr rfl)).same rfl rfl

theorem Lane.txnWriteEnd_amountsSound {p : Lane} (h : p.amountsSound) (result : WriteEnd) :
    (p.txnWriteEnd result).amountsSound := by
  have hbehind : BehindLink Lane.amountsSound := fun _ _ _ h => h
  unfold Lane.txnWriteEnd
  split
  · split
    · refine Lane.openSale_amountsSound ?_ _
      exact h
    · refine hbehind.respond _ ?_
      exact h
  · exact h

theorem Lane.AmountsKept.takeLoyalty {p q : Lane} (h : p.AmountsKept q) (r : SwipeResult) (i : Fin 24) :
    p.AmountsKept (q.takeLoyalty r i) := by
  unfold Lane.takeLoyalty
  split
  · exact h.same (by simp) (by simp)
  split
  · rename_i k _ _ _
    exact (h.setLoyalty k r.account).same rfl rfl
  · exact h.same rfl rfl

theorem Lane.AmountsKept.takeResult {p q : Lane} (h : p.AmountsKept q) (r : SwipeResult) :
    p.AmountsKept (q.takeResult r) := by
  unfold Lane.takeResult
  split
  · exact h.same rfl rfl
  split
  · exact h.same rfl rfl
  split
  · exact h.same rfl rfl
  split
  · exact h.same rfl rfl
  · exact h.same rfl rfl
  · exact h.takeLoyalty r _
  all_goals exact h.same (by simp) (by simp)

/-- A swipe leaves the amounts: what it can change of a sale is the loyalty number. -/
theorem Lane.AmountsKept.swipeEnd (p : Lane) : p.AmountsKept p.swipeEnd := by
  unfold Lane.swipeEnd
  split
  · refine same (q := Lane.handOver _ _ _ _) ?_ rfl rfl
    unfold Lane.handOver
    split
    · refine takeResult ?_ _
      exact of_eq rfl rfl
    · refine takeResult ?_ _
      exact of_eq rfl rfl
    · exact of_eq rfl rfl
  · exact refl p

theorem Lane.AmountsKept.cutEnd (p : Lane) : p.AmountsKept p.cutEnd := by
  unfold Lane.cutEnd
  split
  · exact refl p
  dsimp only
  split
  · exact of_eq (by simp) (by simp)
  split
  · refine jobEnd ?_
    exact of_eq rfl rfl
  · exact of_eq (by simp) (by simp)

theorem Lane.AmountsKept.captureExpire (p : Lane) : p.AmountsKept p.captureExpire := by
  unfold Lane.captureExpire
  split
  · refine endCapture ?_ _ _
    exact of_eq rfl rfl
  · exact refl p

theorem blockEvent_amountsSound (c : Instr) {p : Lane} (h : p.amountsSound) : (blockEvent c p).amountsSound := by
  cases c with
  | powerOn => exact Lane.startUp_amountsSound _ _ _ _ _ _ _
  | resetInput => exact Lane.startUp_amountsSound _ _ _ _ _ _ _
  | txnNumberWriteEnd => exact Lane.txnWriteEnd_amountsSound h _
  | adcSample count => exact Lane.sample_amountsSound h count
  | captureTimeout => exact (Lane.AmountsKept.captureExpire p).sound h
  | swipeEnd => exact (Lane.AmountsKept.swipeEnd p).sound h
  | cutEnd => exact (Lane.AmountsKept.cutEnd p).sound h
  | _ => exact (Lane.AmountsKept.of_eq (by simp [blockEvent]) (by simp [blockEvent])).sound h

theorem amounts_keptByRequests : KeptByRequests (fun _ => True) Lane.amountsSound where
  behind _ _ _ h := h
  guardBehind _ _ _ h := h
  request c _ _ h := serveRequest_amountsSound c h
  laneReset _ _ _ := Lane.amountsSound_of_freed rfl rfl

/-- Settles O56: every request and every event keeps the amounts, and so every step does. -/
theorem amountsStaySound : Obligations.AmountsStaySound := fun _ _ h hstep =>
  amounts_keptByRequests.step (fun c _ => blockEvent_amountsSound c) hstep (fun _ => trivial) (fun _ => trivial) h

end Sys2Proof.Machine
end

section
/-! PROOFS. The till controller stays consistent: the driver, the waiting place, the drawers and the lane light (R129 to
R146). -/

namespace Sys2Proof.Machine

/-! ## The lane light (R146) -/

@[simp] theorem Till.judgeLight_judgedLight (t : Till) (n : Nat) : (t.judgeLight n).judgedLight = t.judgedLight := by
  unfold Till.judgeLight
  split <;> rfl

@[simp] theorem Till.judgeLight_shown (t : Till) (n : Nat) : (t.judgeLight n).shown = t.judgedLight := by
  unfold Till.judgeLight
  split
  · exact Eq.symm ‹_›
  · rfl

@[simp] theorem Till.judgeLight_assist (t : Till) (n : Nat) : (t.judgeLight n).assist = t.assist := by
  unfold Till.judgeLight
  split <;> rfl

@[simp] theorem Till.judgeLight_presses (t : Till) (n : Nat) : (t.judgeLight n).presses = t.presses := by
  unfold Till.judgeLight
  split <;> rfl

@[simp] theorem Till.setDrawer_driver (t : Till) (d : Drawer) (r : DrawerRecord) :
    (t.setDrawer d r).driver = t.driver := by
  cases d <;> rfl

@[simp] theorem Till.setDrawer_waiting (t : Till) (d : Drawer) (r : DrawerRecord) :
    (t.setDrawer d r).waiting = t.waiting := by
  cases d <;> rfl

@[simp] theorem Till.setDrawer_assist (t : Till) (d : Drawer) (r : DrawerRecord) :
    (t.setDrawer d r).assist = t.assist := by
  cases d <;> rfl

@[simp] theorem Till.setDrawer_presses (t : Till) (d : Drawer) (r : DrawerRecord) :
    (t.setDrawer d r).presses = t.presses := by
  cases d <;> rfl

theorem Till.drawer_setDrawer (t : Till) (d e : Drawer) (r : DrawerRecord) :
    (t.setDrawer d r).drawer e = if e = d then r else t.drawer e := by
  cases d <;> cases e <;> rfl

/-! ## A drawer's record changed -/

@[simp] theorem Lane.onDrawer_same (d : Drawer) (f : DrawerRecord → DrawerRecord) (p : Lane) :
    (p.onDrawer d f).drawer d = f (p.drawer d) :=
  Lane.drawer_setDrawer d _ p

@[simp] theorem Lane.onDrawer_driver (d : Drawer) (f : DrawerRecord → DrawerRecord) (p : Lane) :
    (p.onDrawer d f).till.driver = p.till.driver :=
  (Lane.setDrawer_keeps d _ p).1

@[simp] theorem Lane.onDrawer_waiting (d : Drawer) (f : DrawerRecord → DrawerRecord) (p : Lane) :
    (p.onDrawer d f).till.waiting = p.till.waiting :=
  (Lane.setDrawer_keeps d _ p).2.1

/-- The till controller is sound but for one drawer: its own record and its place. -/
structure Till.SoundBut (d : Drawer) (t : Till) : Prop where
  other : ∀ e, e ≠ d → (t.drawer e).sound ∧ t.places e
  idle : t.driver = none → t.waiting = none
  light : t.shown = t.judgedLight
  presses : if t.assist = true then 1 ≤ t.presses ∧ t.presses ≤ 255 else t.presses = 0

theorem Till.sound_iff (d : Drawer) (t : Till) :
    t.sound ↔ t.SoundBut d ∧ (t.drawer d).sound ∧ t.places d := by
  constructor
  · rintro ⟨ha, hb, hpa, hpb, hidle, hlight, hpresses⟩
    refine ⟨⟨fun e _ => ?_, hidle, hlight, hpresses⟩, ?_⟩
    · cases e
      · exact ⟨ha, hpa⟩
      · exact ⟨hb, hpb⟩
    · cases d
      · exact ⟨ha, hpa⟩
      · exact ⟨hb, hpb⟩
  · rintro ⟨⟨hother, hidle, hlight, hpresses⟩, hown, hplace⟩
    cases d
    · obtain ⟨hb, hpb⟩ := hother .b (by simp)
      exact ⟨hown, hb, hplace, hpb, hidle, hlight, hpresses⟩
    · obtain ⟨ha, hpa⟩ := hother .a (by simp)
      exact ⟨ha, hown, hpa, hplace, hidle, hlight, hpresses⟩

theorem Till.sound.but {t : Till} (h : t.sound) (d : Drawer) : t.SoundBut d :=
  ((t.sound_iff d).mp h).1

theorem Till.sound.drawer {t : Till} (h : t.sound) (d : Drawer) : (t.drawer d).sound :=
  ((t.sound_iff d).mp h).2.1

theorem Till.sound.places {t : Till} (h : t.sound) (d : Drawer) : t.places d :=
  ((t.sound_iff d).mp h).2.2

/-- Whatever is written of the drawer left out, the rest stays sound. -/
theorem Till.SoundBut.onDrawer {p : Lane} {d : Drawer} (h : p.till.SoundBut d) (f : DrawerRecord → DrawerRecord) :
    (p.onDrawer d f).till.SoundBut d where
  other e he := by
    have hsame : (p.onDrawer d f).till.drawer e = p.till.drawer e := Lane.drawer_setDrawer_ne e d _ p he
    rw [Till.places, hsame, Lane.onDrawer_driver, Lane.onDrawer_waiting]
    exact h.other e he
  idle := by
    rw [Lane.onDrawer_driver, Lane.onDrawer_waiting]
    exact h.idle
  light := by simp [Lane.onDrawer, Lane.setDrawer, Lane.withTill]
  presses := by
    have hp := h.presses
    simpa [Lane.onDrawer, Lane.setDrawer, Lane.withTill] using hp

/-- The drawer left out is written with a sound record that fits the driver and the waiting place. -/
theorem Till.SoundBut.sound_onDrawer {p : Lane} {d : Drawer} (h : p.till.SoundBut d)
    {f : DrawerRecord → DrawerRecord} (hr : (f (p.drawer d)).sound)
    (hkick : (f (p.drawer d)).state = .kicking ↔ p.till.driver.map Driving.drawer = some d)
    (hpend : (f (p.drawer d)).state = .pending ↔ p.till.waiting = some d) : (p.onDrawer d f).till.sound := by
  have hown : (p.onDrawer d f).till.drawer d = f (p.drawer d) := Lane.onDrawer_same d f p
  refine (Till.sound_iff d _).mpr ⟨h.onDrawer f, ?_, ?_⟩
  · rw [hown]
    exact hr
  · rw [Till.places, hown, Lane.onDrawer_driver, Lane.onDrawer_waiting]
    exact ⟨hkick, hpend⟩

/-- A drawer neither driven nor waiting takes a state that is neither KICKING nor PENDING. -/
theorem Till.SoundBut.sound_at_rest {p : Lane} {d : Drawer} (h : p.till.SoundBut d) {f : DrawerRecord → DrawerRecord}
    (hdriver : p.till.driver.map Driving.drawer ≠ some d) (hwaiting : p.till.waiting ≠ some d)
    (hr : (f (p.drawer d)).sound) (hkick : (f (p.drawer d)).state ≠ .kicking)
    (hpend : (f (p.drawer d)).state ≠ .pending) : (p.onDrawer d f).till.sound :=
  h.sound_onDrawer hr (iff_of_false hkick hdriver) (iff_of_false hpend hwaiting)

/-- In a sound till a drawer neither KICKING nor PENDING is neither driven nor waiting. -/
theorem Till.sound.at_rest {t : Till} (h : t.sound) {d : Drawer} (hk : (t.drawer d).state ≠ .kicking)
    (hp : (t.drawer d).state ≠ .pending) : t.driver.map Driving.drawer ≠ some d ∧ t.waiting ≠ some d :=
  ⟨fun hd => hk ((h.places d).1.mpr hd), fun hw => hp ((h.places d).2.mpr hw)⟩

/-! ## Sound records -/

/-- The states in which a drawer holds no kick, no window and no open instant. -/
def DrawerState.plain (s : DrawerState) : Prop :=
  s = .absent ∨ s = .closed ∨ s = .fault

theorem DrawerRecord.leaveTo_sound {r : DrawerRecord} {s : DrawerState} (hs : s.plain)
    (htray : s = .absent ↔ r.tray = .removed) : (r.leaveTo s).sound := by
  obtain rfl | rfl | rfl := hs
  all_goals simpa [DrawerRecord.sound, DrawerRecord.leaveTo] using htray

/-- A drawer in place opened at a moment. -/
theorem DrawerRecord.opened_sound {r : DrawerRecord} (htray : r.tray ≠ .removed) (now : Nat) (alarm : Option Nat) :
    ({ r with state := .opened, kick := none, confirmUntil := none, openSince := some now, alarmAt := alarm } :
      DrawerRecord).sound := by
  simp [DrawerRecord.sound, htray]

/-- A record's levels, grant, fault reason and drive report are no part of its soundness, but for the tray. -/
theorem DrawerRecord.sound_congr {r x : DrawerRecord} (h : r.sound) (hstate : x.state = r.state)
    (hkick : x.kick.isSome = r.kick.isSome) (hconfirm : x.confirmUntil = r.confirmUntil)
    (hopen : x.openSince = r.openSince) (halarm : x.alarmAt = r.alarmAt) (htray : x.tray = r.tray) : x.sound := by
  rw [DrawerRecord.sound, hstate, hkick, hconfirm, hopen, halarm, htray]
  exact h

/-- A drawer that is not ABSENT has its tray. -/
theorem DrawerRecord.sound.tray_ne {r : DrawerRecord} (h : r.sound) (hs : r.state ≠ .absent) : r.tray ≠ .removed := by
  obtain ⟨-, -, -, -, htray⟩ := h
  exact fun hr => hs (htray.mpr hr)

/-- A change that no part of soundness sees. -/
theorem Till.sound.onDrawer_same {p : Lane} (h : p.till.sound) {d : Drawer} {f : DrawerRecord → DrawerRecord}
    (hr : (f (p.drawer d)).sound) (hs : (f (p.drawer d)).state = (p.drawer d).state) : (p.onDrawer d f).till.sound := by
  refine (h.but d).sound_onDrawer hr ?_ ?_
  · rw [hs]
    exact (h.places d).1
  · rw [hs]
    exact (h.places d).2

/-! ## Opening and closing (R131) -/

theorem Lane.enterOpen_sound {p : Lane} {d : Drawer} (h : p.till.SoundBut d)
    (hdriver : p.till.driver.map Driving.drawer ≠ some d) (hwaiting : p.till.waiting ≠ some d)
    (htray : (p.drawer d).tray ≠ .removed) : (p.enterOpen d).till.sound :=
  h.sound_at_rest hdriver hwaiting (DrawerRecord.opened_sound htray _ _) (by simp) (by simp)

/-- A drawer takes ABSENT, CLOSED or FAULT. -/
theorem Lane.leaveTo_sound {p : Lane} {d : Drawer} (h : p.till.SoundBut d)
    (hdriver : p.till.driver.map Driving.drawer ≠ some d) (hwaiting : p.till.waiting ≠ some d) {s : DrawerState}
    (hs : s.plain) (htray : s = .absent ↔ (p.drawer d).tray = .removed) :
    (p.onDrawer d (DrawerRecord.leaveTo s)).till.sound := by
  refine h.sound_at_rest hdriver hwaiting (DrawerRecord.leaveTo_sound hs htray) ?_ ?_
  all_goals
    obtain rfl | rfl | rfl := hs
    all_goals simp [DrawerRecord.leaveTo]

theorem Lane.settleDrawer_sound {p : Lane} {d : Drawer} (h : p.till.SoundBut d)
    (hdriver : p.till.driver.map Driving.drawer ≠ some d) (hwaiting : p.till.waiting ≠ some d)
    (htray : (p.drawer d).tray ≠ .removed) : (p.settleDrawer d).till.sound := by
  unfold Lane.settleDrawer
  split
  · exact Lane.leaveTo_sound h hdriver hwaiting (.inr (.inl rfl)) (iff_of_false (by simp) htray)
  · exact Lane.enterOpen_sound h hdriver hwaiting htray

theorem Lane.closeDrawer_sound {p : Lane} {d : Drawer} (h : p.till.sound)
    (hs : (p.drawer d).state = .opened ∨ (p.drawer d).state = .openLong) : (p.closeDrawer d).till.sound := by
  have hk : (p.till.drawer d).state ≠ .kicking := by rcases hs with hs | hs <;> simp_all [Lane.drawer]
  have hp : (p.till.drawer d).state ≠ .pending := by rcases hs with hs | hs <;> simp_all [Lane.drawer]
  have ha : (p.till.drawer d).state ≠ .absent := by rcases hs with hs | hs <;> simp_all [Lane.drawer]
  obtain ⟨hdriver, hwaiting⟩ := h.at_rest hk hp
  exact Lane.leaveTo_sound (h.but d) hdriver hwaiting (.inr (.inl rfl))
    (iff_of_false (by simp) ((h.drawer d).tray_ne ha))

theorem Lane.openTooLong_sound {p : Lane} {d : Drawer} (h : p.till.sound) (hs : (p.drawer d).state = .opened) :
    (p.openTooLong d).till.sound := by
  have hstate : (p.till.drawer d).state = .opened := hs
  obtain ⟨hdriver, hwaiting⟩ := h.at_rest (d := d) (by simp [hstate]) (by simp [hstate])
  have hr := h.drawer d
  refine Till.SoundBut.sound_at_rest (f := fun r => { r with state := .openLong, alarmAt := none }) (h.but d) hdriver
    hwaiting ?_ (by simp) (by simp)
  simpa [DrawerRecord.sound, hs, Lane.drawer, hstate] using hr

/-! ## The driver (R133 to R135) -/

@[simp] theorem Lane.setDriver_drawer (g : Option Driving) (w : Option Drawer) (p : Lane) (d : Drawer) :
    (p.setDriver g w).drawer d = p.drawer d := by
  cases d <;> rfl

theorem Till.SoundBut.setDriver {p : Lane} {d : Drawer} (h : p.till.SoundBut d) {g : Option Driving} {w : Option Drawer}
    (hplaces : ∀ e, e ≠ d → ((p.drawer e).state = .kicking ↔ g.map Driving.drawer = some e) ∧
      ((p.drawer e).state = .pending ↔ w = some e)) (hidle : g = none → w = none) :
    (p.setDriver g w).till.SoundBut d where
  other e he := by
    have hsame : (p.setDriver g w).till.drawer e = p.drawer e := Lane.setDriver_drawer g w p e
    rw [Till.places, hsame]
    exact ⟨(h.other e he).1, hplaces e he⟩
  idle := hidle
  light := h.light
  presses := h.presses

/-- The two drawers: one that differs from another is the one that differs from it. -/
theorem Drawer.eq_of_ne {d e w : Drawer} (he : e ≠ d) (hw : w ≠ d) : e = w := by
  cases d <;> cases e <;> cases w <;> simp_all

/-- A drawer in place with a kick and no timer or open instant, once its pulse has started. -/
theorem DrawerRecord.kicking_sound {r : DrawerRecord} (hkick : r.kick.isSome = true) (hconfirm : r.confirmUntil = none)
    (hopen : r.openSince = none) (halarm : r.alarmAt = none) (htray : r.tray ≠ .removed) (f : Kick → Kick) :
    ({ r with state := .kicking, kick := r.kick.map f } : DrawerRecord).sound := by
  simp [DrawerRecord.sound, hkick, hconfirm, hopen, halarm, htray]

/-- A pulse starts in a till that is sound but for the drawer, with no other drawer driven or waiting. -/
theorem Lane.startPulse_sound {p : Lane} {d : Drawer} (h : p.till.SoundBut d)
    (hother : ∀ e, e ≠ d → (p.drawer e).state ≠ .kicking ∧ (p.drawer e).state ≠ .pending)
    (hr : ∀ f : Kick → Kick,
      ({ p.drawer d with state := .kicking, kick := (p.drawer d).kick.map f } : DrawerRecord).sound) :
    (p.startPulse d).till.sound := by
  have hset : (p.setDriver (some ⟨d, p.now⟩) none).till.SoundBut d := by
    refine h.setDriver (fun e he => ⟨iff_of_false (hother e he).1 ?_, iff_of_false (hother e he).2 ?_⟩) (by simp)
    · simpa using he.symm
    · simp
  refine hset.sound_onDrawer ?_ ?_ ?_
  · rw [Lane.setDriver_drawer]
    exact hr _
  · exact iff_of_true rfl rfl
  · exact iff_of_false (by simp) (by simp [Lane.setDriver])

/-- A kick accepted by a CLOSED drawer: driven at once, or waiting while the other is driven. -/
theorem Lane.acceptKick_sound {p : Lane} {d : Drawer} (h : p.till.sound) (hs : (p.drawer d).state = .closed)
    (basis : KickBasis) (requester : Requester) : (p.acceptKick basis requester d).till.sound := by
  have hstate : (p.till.drawer d).state = .closed := hs
  obtain ⟨hdriver, hwaiting⟩ := h.at_rest (d := d) (by simp [hstate]) (by simp [hstate])
  obtain ⟨-, hconfirm, hopen, halarm, htray⟩ : (p.drawer d).sound := h.drawer d
  simp only [hs] at hconfirm hopen halarm htray
  have hkicked := (h.but d).onDrawer (p := p) fun r => { r with kick := some ⟨basis, requester, p.till.pulseMs, false⟩ }
  unfold Lane.acceptKick
  dsimp only
  generalize hq : (p.onDrawer d fun r => { r with kick := some ⟨basis, requester, p.till.pulseMs, false⟩ }) = q at hkicked ⊢
  have hrecord : q.drawer d = { p.drawer d with kick := some ⟨basis, requester, p.till.pulseMs, false⟩ } := by
    rw [← hq, Lane.onDrawer_same]
  have hqdriver : q.till.driver = p.till.driver := by rw [← hq, Lane.onDrawer_driver]
  have hqwaiting : q.till.waiting = p.till.waiting := by rw [← hq, Lane.onDrawer_waiting]
  rcases hg : q.till.driver with _ | g
  · have hnone : q.till.waiting = none := hkicked.idle hg
    refine Lane.startPulse_sound hkicked (fun e he => ?_) fun f => ?_
    · obtain ⟨hk, hp⟩ := (hkicked.other e he).2
      rw [hg] at hk
      rw [hnone] at hp
      exact ⟨fun hs => by simpa using hk.mp hs, fun hs => by simpa using hp.mp hs⟩
    · rw [hrecord]
      refine DrawerRecord.kicking_sound rfl ?_ ?_ ?_ ?_ f <;> simp_all
  · have hgd : g.drawer ≠ d := by
      rw [← hqdriver, hg] at hdriver
      simpa using hdriver
    have hset : (q.setDriver (some g) (some d)).till.SoundBut d := by
      refine hkicked.setDriver (fun e he => ?_) (by simp)
      obtain ⟨hk, -⟩ := (hkicked.other e he).2
      rw [hg] at hk
      obtain rfl := Drawer.eq_of_ne he hgd
      have hkicking : (q.drawer g.drawer).state = .kicking := hk.mpr rfl
      exact ⟨hk, iff_of_false (by simp [hkicking]) (by simpa using he.symm)⟩
    refine hset.sound_onDrawer ?_ ?_ ?_
    · rw [Lane.setDriver_drawer, hrecord]
      simp_all [DrawerRecord.sound]
    · exact iff_of_false (by simp) (by simpa [Lane.setDriver] using hgd)
    · exact iff_of_true rfl rfl

/-- What is left of a till when the pulse of a drawer has ended: sound but for that drawer, which is neither driven nor
waiting. -/
structure Lane.Released (d : Drawer) (p : Lane) : Prop where
  but : p.till.SoundBut d
  driver : p.till.driver.map Driving.drawer ≠ some d
  waiting : p.till.waiting ≠ some d

theorem Lane.releaseSolenoid_released {p : Lane} {g : Driving} (h : p.till.SoundBut g.drawer)
    (hg : p.till.driver = some g) (hw : p.till.waiting ≠ some g.drawer) : p.releaseSolenoid.Released g.drawer := by
  unfold Lane.releaseSolenoid
  dsimp only
  have hjolt : p.joltHold.till = p.till := rfl
  rcases hwait : p.till.waiting with _ | w
  · simp only [hjolt, hwait]
    refine ⟨?_, by simp [Lane.setDriver], by simp [Lane.setDriver]⟩
    refine Till.SoundBut.setDriver (p := p.joltHold) h (fun e he => ?_) fun _ => rfl
    obtain ⟨hk, hp⟩ := (h.other e he).2
    have hne : p.till.driver.map Driving.drawer ≠ some e := by
      rw [hg]
      simpa using he.symm
    exact ⟨iff_of_false (fun hs => hne (hk.mp hs)) (by simp), iff_of_false (fun hs => by simpa [hwait] using hp.mp hs) (by simp)⟩
  · simp only [hjolt, hwait]
    have hne : w ≠ g.drawer := by simpa [hwait] using hw
    obtain ⟨hr, -, hp⟩ := h.other w hne
    have hpending : (p.drawer w).state = .pending := hp.mpr hwait
    obtain ⟨hkick, hconfirm, hopen, halarm, htray⟩ : (p.drawer w).sound := hr
    simp only [hpending] at hkick hconfirm hopen halarm htray
    have hown : (p.joltHold.startPulse w).till.drawer w =
        { p.drawer w with state := .kicking, kick := (p.drawer w).kick.map fun k => { k with openMark := false } } :=
      Lane.onDrawer_same w _ _
    have hdriver : (p.joltHold.startPulse w).till.driver = some ⟨w, p.now⟩ := Lane.onDrawer_driver _ _ _
    have hwaiting : (p.joltHold.startPulse w).till.waiting = none := Lane.onDrawer_waiting _ _ _
    refine ⟨⟨fun e he => ?_, by simp [hdriver], ?_, ?_⟩, by simpa [hdriver] using hne, by simp [hwaiting]⟩
    · obtain rfl := Drawer.eq_of_ne he hne
      rw [Till.places, hown, hdriver, hwaiting]
      refine ⟨DrawerRecord.kicking_sound ?_ ?_ ?_ ?_ ?_ _, iff_of_true rfl rfl, iff_of_false (by simp) (by simp)⟩
      all_goals simp_all
    · simp [Lane.startPulse, Lane.onDrawer, Lane.setDrawer, Lane.withTill]
    · have hpresses := h.presses
      simpa [Lane.startPulse, Lane.onDrawer, Lane.setDrawer, Lane.withTill, Lane.setDriver] using hpresses

/-- A pulse that has ended, its drive report written. -/
theorem Lane.pulseOver_released {p : Lane} {g : Driving} (h : p.till.SoundBut g.drawer) (hg : p.till.driver = some g)
    (hw : p.till.waiting ≠ some g.drawer) (c : DriveCurrent) : (p.writeDrive g c).releaseSolenoid.Released g.drawer :=
  Lane.releaseSolenoid_released (h.onDrawer _) (by rw [Lane.writeDrive, Lane.onDrawer_driver, hg])
    (by rwa [Lane.writeDrive, Lane.onDrawer_waiting])

/-- The drive report is all that changes of the drawer that was driven. -/
theorem Lane.pulseOver_drawer {p : Lane} {g : Driving} (hw : p.till.waiting ≠ some g.drawer) (c : DriveCurrent) :
    ∃ drive, (p.writeDrive g c).releaseSolenoid.drawer g.drawer = { p.drawer g.drawer with drive := drive } := by
  rw [Lane.drawer_releaseSolenoid _ _ (by rwa [Lane.writeDrive, Lane.onDrawer_waiting]), Lane.writeDrive,
    Lane.onDrawer_same]
  exact ⟨_, rfl⟩

@[simp] theorem Lane.reportKick_till (d : Drawer) (k : Option Kick) (o : KickOutcome) (pulsed : Bool) (p : Lane) :
    (p.reportKick d k o pulsed).till = p.till := by
  simp

/-! ## Endings of a pulse (R135, R137, R138) -/

/-- The grant is no part of a record's soundness, nor of its state. -/
theorem DrawerRecord.consumeGrant_keeps (k : Option Kick) (r : DrawerRecord) :
    (r.consumeGrant k).state = r.state ∧ (r.consumeGrant k).tray = r.tray := by
  unfold DrawerRecord.consumeGrant
  split <;> exact ⟨rfl, rfl⟩

theorem Lane.kickOpened_sound {p : Lane} {d : Drawer} (h : p.Released d) (htray : (p.drawer d).tray ≠ .removed) :
    (p.kickOpened d).till.sound := by
  unfold Lane.kickOpened
  dsimp only
  rw [Lane.reportKick_till]
  refine Lane.enterOpen_sound (h.but.onDrawer _) ?_ ?_ ?_
  · rw [Lane.onDrawer_driver]
    exact h.driver
  · rw [Lane.onDrawer_waiting]
    exact h.waiting
  · rw [Lane.onDrawer_same, (DrawerRecord.consumeGrant_keeps _ _).2]
    exact htray

theorem Lane.kickOpened_state (p : Lane) (d : Drawer) : ((p.kickOpened d).drawer d).state = .opened := by
  unfold Lane.kickOpened
  dsimp only
  rw [Lane.drawer_of_till (Lane.reportKick_till _ _ _ _ _), Lane.enterOpen, Lane.onDrawer_same]

/-- In a sound till the drawer driven is KICKING, in place, and not waiting. -/
theorem Till.sound.driven {p : Lane} (h : p.till.sound) {g : Driving} (hg : p.till.driver = some g) :
    (p.drawer g.drawer).state = .kicking ∧ p.till.waiting ≠ some g.drawer ∧ (p.drawer g.drawer).tray ≠ .removed := by
  obtain ⟨hk, hp⟩ := h.places g.drawer
  have hkicking : (p.till.drawer g.drawer).state = .kicking := hk.mpr (by simp [hg])
  refine ⟨hkicking, fun hw => ?_, (h.drawer _).tray_ne (by simp [hkicking])⟩
  have hpending := hp.mpr hw
  simp [hkicking] at hpending

theorem Lane.pulseEnd_sound {p : Lane} (h : p.till.sound) : p.pulseEnd.till.sound := by
  unfold Lane.pulseEnd
  split
  · exact h
  rename_i g hg
  obtain ⟨hkicking, hwaiting, htray⟩ := h.driven hg
  dsimp only
  generalize hq : p.elapseTo (g.since + (p.drawer g.drawer).pulse * 1000) = q
  have hqtill : q.till = p.till := by rw [← hq, Lane.elapseTo_till]
  have hover : ((q.writeDrive g .normal).releaseSolenoid).Released g.drawer :=
    Lane.pulseOver_released (hqtill ▸ h.but _) (hqtill ▸ hg) (hqtill ▸ hwaiting) _
  obtain ⟨drive, hrecord⟩ := Lane.pulseOver_drawer (p := q) (g := g) (hqtill ▸ hwaiting) .normal
  rw [Lane.drawer_of_till hqtill] at hrecord
  split
  · have hopened := Lane.kickOpened_sound hover (by rw [hrecord]; exact htray)
    split
    · exact Lane.closeDrawer_sound hopened (.inl (Lane.kickOpened_state _ _))
    · exact hopened
  · refine Till.SoundBut.sound_at_rest (f := fun r => { r with state := .confirming, confirmUntil := some _ }) hover.but
      hover.driver hover.waiting ?_ (by simp) (by simp)
    obtain ⟨hkick, -, hopen, halarm, -⟩ : (p.drawer g.drawer).sound := h.drawer _
    simp only [hkicking] at hkick hopen halarm
    rw [hrecord]
    simp_all [DrawerRecord.sound]

theorem Lane.currentFault_sound {p : Lane} (h : p.till.sound) (f : CurrentFault) : (p.currentFault f).till.sound := by
  unfold Lane.currentFault
  split
  · exact h
  rename_i g hg
  obtain ⟨-, hwaiting, htray⟩ := h.driven hg
  dsimp only
  rw [Lane.reportKick_till]
  generalize hq : p.elapseTo (faultMoment f g.since) = q
  have hqtill : q.till = p.till := by rw [← hq, Lane.elapseTo_till]
  have hover : ((q.writeDrive g (faultCurrent f)).releaseSolenoid).Released g.drawer :=
    Lane.pulseOver_released (hqtill ▸ h.but _) (hqtill ▸ hg) (hqtill ▸ hwaiting) _
  obtain ⟨drive, hrecord⟩ := Lane.pulseOver_drawer (p := q) (g := g) (hqtill ▸ hwaiting) (faultCurrent f)
  rw [Lane.drawer_of_till hqtill] at hrecord
  refine hover.but.sound_at_rest hover.driver hover.waiting ?_ ?_ ?_
  · rw [hrecord]
    refine DrawerRecord.sound_congr (DrawerRecord.leaveTo_sound (r := p.drawer g.drawer) (s := .fault) (.inr (.inr rfl))
      (iff_of_false (by simp) htray)) ?_ ?_ ?_ ?_ ?_ ?_
    all_goals rfl
  · simp [DrawerRecord.leaveTo]
  · simp [DrawerRecord.leaveTo]

/-! ## Timers (R136, R141) -/

theorem Lane.confirmExpire_sound {p : Lane} (h : p.till.sound) (d : Drawer) : (p.confirmExpire d).till.sound := by
  unfold Lane.confirmExpire
  split
  · exact h
  rename_i t ht
  have hstate : (p.till.drawer d).state = .confirming := by
    obtain ⟨-, hconfirm, -⟩ := h.drawer d
    refine hconfirm.mp ?_
    have hsome : (p.till.drawer d).confirmUntil = some t := ht
    simp [hsome]
  obtain ⟨hdriver, hwaiting⟩ := h.at_rest (d := d) (by simp [hstate]) (by simp [hstate])
  dsimp only
  rw [Lane.reportKick_till]
  refine Lane.leaveTo_sound (p := p.elapseTo t) (h.but d) hdriver hwaiting (.inr (.inl rfl)) (iff_of_false (by simp) ?_)
  exact (h.drawer d).tray_ne (by simp [hstate])

theorem Lane.alarmExpire_sound {p : Lane} (h : p.till.sound) (d : Drawer) : (p.alarmExpire d).till.sound := by
  unfold Lane.alarmExpire
  split
  · exact h
  rename_i t ht
  refine Lane.openTooLong_sound (p := p.elapseTo t) h ?_
  obtain ⟨-, -, -, halarm, -⟩ : (p.drawer d).sound := h.drawer d
  exact halarm (by simp [ht])

/-! ## Sensors (R131, R135, R136, R139) -/

theorem Lane.becomeAbsent_sound {p : Lane} {d : Drawer} (h : p.Released d) (htray : (p.drawer d).tray = .removed)
    (pulsed : Bool) : (p.becomeAbsent d pulsed).till.sound := by
  unfold Lane.becomeAbsent
  dsimp only
  rw [Lane.reportKick_till]
  exact Lane.leaveTo_sound h.but h.driver h.waiting (.inl rfl) (iff_of_true rfl htray)

/-- The tray's level taken, of a drawer neither KICKING nor PENDING. -/
theorem Till.sound.released_setTray {p : Lane} (h : p.till.sound) {d : Drawer} (hk : (p.drawer d).state ≠ .kicking)
    (hp : (p.drawer d).state ≠ .pending) (l : TrayLevel) : (p.setTray d l).Released d := by
  obtain ⟨hdriver, hwaiting⟩ := h.at_rest (d := d) hk hp
  refine ⟨(h.but d).onDrawer _, ?_, ?_⟩
  · rwa [Lane.setTray, Lane.onDrawer_driver]
  · rwa [Lane.setTray, Lane.onDrawer_waiting]

@[simp] theorem Lane.setTray_drawer (p : Lane) (d : Drawer) (l : TrayLevel) :
    (p.setTray d l).drawer d = { p.drawer d with tray := l } :=
  Lane.onDrawer_same d _ p

/-- The waiting place emptied of the drawer that waited. -/
theorem Till.sound.released_waiting {p q : Lane} (h : p.till.sound) {d : Drawer} (hp : (p.drawer d).state = .pending)
    (hbut : q.till.SoundBut d) (hdriver : q.till.driver = p.till.driver) :
    (q.setDriver q.till.driver none).Released d := by
  have hpending : (p.till.drawer d).state = .pending := hp
  have hwait : p.till.waiting = some d := (h.places d).2.mp hpending
  have hnot : p.till.driver.map Driving.drawer ≠ some d := fun hd => by
    simpa [hpending] using (h.places d).1.mpr hd
  refine ⟨hbut.setDriver (fun e he => ?_) fun _ => rfl, by simpa [Lane.setDriver, hdriver] using hnot, by simp [Lane.setDriver]⟩
  refine ⟨(hbut.other e he).2.1, iff_of_false (fun hs => ?_) (by simp)⟩
  obtain ⟨g, hg⟩ : ∃ g, p.till.driver = some g := by
    rcases hg : p.till.driver with _ | g
    · have hidle := (h.but d).idle hg
      simp [hidle] at hwait
    · exact ⟨g, rfl⟩
  have hge : g.drawer = e := by
    rw [hg] at hnot
    exact Drawer.eq_of_ne (by simpa using hnot) he
  have hkicking : (q.till.drawer e).state = .kicking := (hbut.other e he).2.1.mpr (by simp [hdriver, hg, hge])
  exact absurd (hs.symm.trans hkicking) (by simp)

theorem Lane.trayRemoved_sound {p : Lane} (h : p.till.sound) (d : Drawer) : (p.trayRemoved d).till.sound := by
  unfold Lane.trayRemoved
  split
  · exact h
  rename_i htray
  have hstate : ((p.setTray d .removed).drawer d).state = (p.drawer d).state := by rw [Lane.setTray_drawer]
  have hlevel : ((p.setTray d .removed).drawer d).tray = .removed := by rw [Lane.setTray_drawer]
  dsimp only
  rw [hstate]
  split
  · exact Lane.becomeAbsent_sound (h.released_setTray (by simp [*]) (by simp [*]) _) hlevel _
  · exact Lane.becomeAbsent_sound (h.released_setTray (by simp [*]) (by simp [*]) _) hlevel _
  · exact Lane.becomeAbsent_sound (h.released_setTray (by simp [*]) (by simp [*]) _) hlevel _
  · exact Lane.becomeAbsent_sound (h.released_setTray (by simp [*]) (by simp [*]) _) hlevel _
  · rename_i hpending
    refine Lane.becomeAbsent_sound (h.released_waiting hpending ((h.but d).onDrawer _) ?_) ?_ _
    · rw [Lane.onDrawer_driver]
    · rw [Lane.setDriver_drawer]
      exact hlevel
  · rename_i hkicking
    obtain ⟨g, hg, rfl⟩ : ∃ g, p.till.driver = some g ∧ g.drawer = d := by
      simpa using (h.places d).1.mp hkicking
    have hwaiting := (h.driven hg).2.1
    have hgset : (p.setTray g.drawer .removed).till.driver = some g := by rw [Lane.setTray, Lane.onDrawer_driver, hg]
    have hwset : (p.setTray g.drawer .removed).till.waiting ≠ some g.drawer := by
      rwa [Lane.setTray, Lane.onDrawer_waiting]
    unfold Lane.cutPulse
    rw [hgset]
    obtain ⟨drive, hrecord⟩ := Lane.pulseOver_drawer hwset .cut
    have hbut : (p.setTray g.drawer .removed).till.SoundBut g.drawer := (h.but _).onDrawer _
    refine Lane.becomeAbsent_sound (Lane.pulseOver_released hbut hgset hwset _) ?_ _
    rw [hrecord]
    exact hlevel
  · exact Lane.becomeAbsent_sound (h.released_setTray (by simp [*]) (by simp [*]) _) hlevel _
  · rename_i habsent
    obtain ⟨-, -, -, -, hiff⟩ : (p.drawer d).sound := h.drawer d
    exact absurd (hiff.mp habsent) htray

theorem Lane.trayInserted_sound {p : Lane} (h : p.till.sound) (d : Drawer) : (p.trayInserted d).till.sound := by
  unfold Lane.trayInserted
  split
  · exact h
  rename_i htray
  have habsent : (p.drawer d).state = .absent := by
    obtain ⟨-, -, -, -, hiff⟩ : (p.drawer d).sound := h.drawer d
    refine hiff.mpr ?_
    rcases hl : (p.drawer d).tray with _ | _
    · exact absurd hl htray
    · rfl
  have hset := h.released_setTray (d := d) (by simp [habsent]) (by simp [habsent]) .present
  dsimp only
  rw [if_pos (by rw [Lane.setTray_drawer]; exact habsent)]
  refine Lane.settleDrawer_sound hset.but hset.driver hset.waiting ?_
  simp

@[simp] theorem Lane.setClosed_drawer (p : Lane) (d : Drawer) (l : ClosedLevel) :
    (p.setClosed d l).drawer d = { p.drawer d with closed := l } :=
  Lane.onDrawer_same d _ p

theorem Lane.setClosed_sound {p : Lane} (h : p.till.sound) (d : Drawer) (l : ClosedLevel) :
    (p.setClosed d l).till.sound :=
  Till.sound.onDrawer_same (f := fun r => { r with closed := l }) h (h.drawer d) rfl

/-- A drawer of a sound till that is in place and neither driven nor waiting. -/
theorem Till.sound.released {p : Lane} (h : p.till.sound) {d : Drawer} (hk : (p.drawer d).state ≠ .kicking)
    (hp : (p.drawer d).state ≠ .pending) : p.Released d :=
  have hrest := h.at_rest (d := d) hk hp
  ⟨h.but d, hrest.1, hrest.2⟩

theorem Lane.closedOpens_sound {p : Lane} (h : p.till.sound) (d : Drawer) : (p.closedOpens d).till.sound := by
  unfold Lane.closedOpens
  split
  · exact h
  have hset := Lane.setClosed_sound h d .opened
  dsimp only
  generalize p.setClosed d .opened = q at hset
  have htray : (q.drawer d).state ≠ .absent → (q.drawer d).tray ≠ .removed := (hset.drawer d).tray_ne
  split
  · have hr := hset.released (d := d) (by simp [*]) (by simp [*])
    exact Lane.enterOpen_sound hr.but hr.driver hr.waiting (htray (by simp [*]))
  · rename_i hpending
    have hr := hset.released_waiting hpending (hset.but d) rfl
    rw [Lane.reportKick_till]
    refine Lane.enterOpen_sound hr.but hr.driver hr.waiting ?_
    rw [Lane.setDriver_drawer]
    exact htray (by simp [*])
  · refine Till.sound.onDrawer_same hset ?_ rfl
    refine DrawerRecord.sound_congr (hset.drawer d) rfl ?_ rfl rfl rfl rfl
    exact Option.isSome_map
  · exact Lane.kickOpened_sound (hset.released (by simp [*]) (by simp [*])) (htray (by simp [*]))
  all_goals exact hset

theorem Lane.closedCloses_sound {p : Lane} (h : p.till.sound) (d : Drawer) : (p.closedCloses d).till.sound := by
  unfold Lane.closedCloses
  split
  · exact h
  have hset := Lane.setClosed_sound h d .shut
  dsimp only
  split
  · exact Lane.closeDrawer_sound hset (.inl ‹_›)
  · exact Lane.closeDrawer_sound hset (.inr ‹_›)
  all_goals exact hset

/-! ## The key, the button, the light and the settings (R142 to R146) -/

theorem Lane.keyChange_sound {p : Lane} (h : p.till.sound) (k : KeyPosition) : (p.keyChange k).till.sound := by
  unfold Lane.keyChange
  split <;> exact h

/-- The drawers and the driver kept, the light judged afresh, and the presses in their range. -/
theorem Till.sound.withTill {p : Lane} (h : p.till.sound) {t : Till} (hd : ∀ d, t.drawer d = p.till.drawer d)
    (hdriver : t.driver = p.till.driver) (hwaiting : t.waiting = p.till.waiting)
    (hp : if t.assist = true then 1 ≤ t.presses ∧ t.presses ≤ 255 else t.presses = 0) : (p.withTill t).till.sound := by
  have hplace : ∀ d, ((t.judgeLight p.now).drawer d).sound ∧ (t.judgeLight p.now).places d := by
    intro d
    obtain ⟨hjd, hjw, -⟩ := Till.judgeLight_keeps t p.now
    rw [Till.places, Till.drawer_judgeLight, hjd, hjw, hd, hdriver, hwaiting]
    exact ⟨h.drawer d, h.places d⟩
  refine (Till.sound_iff .a _).mpr ⟨⟨fun e _ => hplace e, ?_, ?_, ?_⟩, hplace .a⟩
  · obtain ⟨hjd, hjw, -⟩ := Till.judgeLight_keeps t p.now
    rw [Lane.withTill, hjd, hjw, hdriver, hwaiting]
    exact (h.but .a).idle
  · simp [Lane.withTill]
  · simpa [Lane.withTill] using hp

theorem Lane.assistPress_sound {p : Lane} (h : p.till.sound) : p.assistPress.till.sound := by
  have hpresses := (h.but .a).presses
  refine h.withTill (fun d => by cases d <;> rfl) rfl rfl ?_
  simp only [Till.pressed, if_true]
  split
  · simp_all
  · simp

theorem doAssistClear_sound {p : Lane} (h : p.till.sound) : (doAssistClear p).1.till.sound :=
  h.withTill (fun d => by cases d <;> rfl) rfl rfl rfl

theorem doLight_sound {p : Lane} (h : p.till.sound) (mode : Byte) : (doLight mode p).1.till.sound := by
  unfold doLight
  split
  · exact h
  · exact h.withTill (fun d => by cases d <;> rfl) rfl rfl (h.but .a).presses

theorem Lane.retime_sound {p : Lane} (h : p.till.sound) (d : Drawer) : (p.retime d).till.sound := by
  unfold Lane.retime
  split
  · rename_i hopened _
    obtain ⟨hkick, hconfirm, hopen, -, htray⟩ : (p.drawer d).sound := h.drawer d
    have hany : ∀ alarm, ({ p.drawer d with alarmAt := alarm } : DrawerRecord).sound := fun alarm =>
      ⟨hkick, hconfirm, hopen, fun _ => hopened, htray⟩
    split
    · exact h.onDrawer_same (hany _) rfl
    · split
      · exact Lane.openTooLong_sound h hopened
      · exact h.onDrawer_same (hany _) rfl
  · exact h

theorem checked_till_sound {l : List (Bool × Answer)} {act : Lane → Lane × Answer} {p : Lane} (h : p.till.sound)
    (hact : (∀ x ∈ l, x.1 = false) → (act p).1.till.sound) : (checked l act p).1.till.sound :=
  checked_keeps (I := fun p => p.till.sound) h hact

theorem doDrawerSetup_sound {p : Lane} (h : p.till.sound) (ms alarm : Nat) (b : Byte) :
    (doDrawerSetup ms alarm b p).1.till.sound := by
  refine checked_till_sound h fun _ => Lane.retime_sound (Lane.retime_sound ?_ _) _
  exact h

/-! ## Kick requests (R134, R138, R140, R143) -/

/-- With the checks of the drawer's state passed the drawer is CLOSED. -/
theorem closed_of_kickChecks {p : Lane} {d : Drawer} (h : ∀ x ∈ p.kickChecks d, x.1 = false) :
    (p.drawer d).state = .closed := by
  simp only [Lane.kickChecks, List.forall_mem_cons] at h
  rcases hs : (p.drawer d).state <;> simp_all [DrawerState.engaged]

theorem doDrawerOpen_sound {p : Lane} (h : p.till.sound) (b : Byte) : (doDrawerOpen b p).1.till.sound := by
  unfold doDrawerOpen
  split
  · exact h
  · exact checked_till_sound h fun _ => checked_till_sound h fun hclosed => checked_till_sound h fun _ =>
      Lane.acceptKick_sound h (closed_of_kickChecks hclosed) _ _

theorem doNoSale_sound {p : Lane} (h : p.till.sound) (b : Byte) : (doNoSale b p).1.till.sound := by
  unfold doNoSale
  split
  · exact h
  · exact checked_till_sound h fun _ => checked_till_sound h fun hclosed =>
      Lane.acceptKick_sound h (closed_of_kickChecks hclosed) _ _

theorem doDrawerClearFault_sound {p : Lane} (h : p.till.sound) (b : Byte) :
    (doDrawerClearFault b p).1.till.sound := by
  unfold doDrawerClearFault
  split
  · exact h
  · rename_i d _
    refine checked_till_sound h fun hchecks => ?_
    have hfault : (p.drawer d).state = .fault := by simpa using hchecks
    have hr := h.released (d := d) (by simp [hfault]) (by simp [hfault])
    have hown : (p.drawer d).sound := h.drawer d
    exact Lane.settleDrawer_sound hr.but hr.driver hr.waiting (hown.tray_ne (by simp [hfault]))

theorem doDrawerSelect_sound {p : Lane} (h : p.till.sound) (b : Byte) : (doDrawerSelect b p).1.till.sound := by
  unfold doDrawerSelect
  split
  · exact h
  · refine checked_till_sound h fun _ => ?_
    exact h

/-! ## Settlement (R121, R122) -/

theorem Lane.setGrant_sound {p : Lane} (h : p.till.sound) (d : Drawer) : (p.setGrant d).till.sound :=
  Till.sound.onDrawer_same (f := fun r => { r with grant := true }) h (h.drawer d) rfl

theorem Lane.autoKick_sound {p : Lane} (h : p.till.sound) (d : Drawer) : (p.autoKick d).1.till.sound := by
  unfold Lane.autoKick
  split
  · exact h
  split
  case h_8 =>
    split
    · exact Lane.acceptKick_sound h ‹_› _ _
    · exact h
  all_goals exact h

theorem Lane.grantAndOpen_sound {p : Lane} (h : p.till.sound) (c : Context) : (p.grantAndOpen c).1.till.sound := by
  unfold Lane.grantAndOpen
  split
  · have hgrant := Lane.setGrant_sound h c.drawer
    dsimp only
    split
    · exact Lane.autoKick_sound hgrant _
    · exact hgrant
  · exact h

theorem Lane.settle_till_sound {p : Lane} (h : p.till.sound) (i : Fin 6) (by_ : SettledBy) :
    (p.settle i by_).till.sound := by
  unfold Lane.settle
  simp only [Lane.settledEvent_frame, Lane.placeJob_frame, Lane.setRole_till]
  refine Lane.grantAndOpen_sound ?_ _
  split
  · exact h
  · simpa using h

theorem doTotal_till_sound {p : Lane} (h : p.till.sound) : (doTotal p).1.till.sound := by
  refine checked_till_sound h fun _ => checked_till_sound h fun _ => ?_
  unfold Lane.totalSale
  split
  · exact h
  dsimp only
  split
  · simpa using h
  · exact Lane.settle_till_sound h _ _

theorem Lane.takeTender_till_sound {p : Lane} (h : p.till.sound) (t : Tender) (by_ : SettledBy) {stay : Lane → Lane}
    (hstay : ∀ q, (stay q).till = q.till) : (p.takeTender t by_ stay).1.till.sound := by
  unfold Lane.takeTender
  split
  · exact h
  dsimp only
  split
  · rw [hstay]
    exact h
  · refine Lane.settle_till_sound ?_ _ _
    exact h

theorem doTenderCash_till_sound {p : Lane} (h : p.till.sound) (amount : Int) : (doTenderCash amount p).1.till.sound := by
  rw [doTenderCash, withTenderReply_fst, Lane.cashTender]
  exact checked_till_sound h fun _ => checked_till_sound h fun _ => Lane.takeTender_till_sound h _ _ fun _ => rfl

theorem doTenderCard_till_sound {p : Lane} (h : p.till.sound) (n : Nat) (amount cashback : Int) (approval : Text) :
    (doTenderCard n amount cashback approval p).1.till.sound := by
  rw [doTenderCard, withTenderReply_fst, Lane.cardTender]
  refine checked_till_sound h fun _ => checked_till_sound h fun _ => ?_
  split
  · exact h
  · refine checked_till_sound h fun _ => checked_till_sound h fun _ => checked_till_sound h fun _ => ?_
    refine Lane.takeTender_till_sound ?_ _ _ fun q => by simp
    exact h

/-! ## Resets (R148), and every step -/

/-- A drawer taken from its sensors. -/
theorem DrawerRecord.fromSensors_sound (r : DrawerRecord) (now : Nat) (alarm : Option Nat) :
    (r.fromSensors now alarm).sound ∧ (r.fromSensors now alarm).state ≠ .kicking ∧
      (r.fromSensors now alarm).state ≠ .pending ∧ (r.fromSensors now alarm).state ≠ .openLong := by
  rcases ht : r.tray with _ | _
  · rcases hc : r.closed with _ | _
    · simp [DrawerRecord.fromSensors, ht, hc, DrawerRecord.sound]
    · simp [DrawerRecord.fromSensors, ht, hc, DrawerRecord.sound]
  · simp [DrawerRecord.fromSensors, ht, DrawerRecord.sound]

/-- A till with no drawer driven, waiting, KICKING or PENDING, the assist latch clear and the light as judged. -/
theorem Till.sound_of_idle {t : Till}
    (hr : ∀ d, (t.drawer d).sound ∧ (t.drawer d).state ≠ .kicking ∧ (t.drawer d).state ≠ .pending)
    (hdriver : t.driver = none) (hwaiting : t.waiting = none) (hlight : t.shown = t.judgedLight)
    (hassist : t.assist = false) (hpresses : t.presses = 0) : t.sound := by
  have hplace : ∀ d, (t.drawer d).sound ∧ t.places d := fun d =>
    ⟨(hr d).1, iff_of_false (hr d).2.1 (by simp [hdriver]), iff_of_false (hr d).2.2 (by simp [hwaiting])⟩
  exact (Till.sound_iff .a t).mpr ⟨⟨fun e _ => hplace e, fun _ => hwaiting, hlight, by simp [hassist, hpresses]⟩, hplace .a⟩

theorem Till.startUp_sound (now : Nat) (i : ResetInputs) : (Till.startUp now i).sound := by
  have hdrawer : ∀ d, ∃ r, (Till.startUp now i).drawer d = DrawerRecord.fromSensors now (some (now + 30000000)) r := by
    intro d
    cases d
    · exact ⟨_, rfl⟩
    · exact ⟨_, rfl⟩
  have hrest : ∀ d, ((Till.startUp now i).drawer d).sound ∧ ((Till.startUp now i).drawer d).state ≠ .kicking ∧
      ((Till.startUp now i).drawer d).state ≠ .pending ∧ ((Till.startUp now i).drawer d).state ≠ .openLong := by
    intro d
    obtain ⟨r, hr⟩ := hdrawer d
    rw [hr]
    exact r.fromSensors_sound _ _
  refine Till.sound_of_idle (fun d => ⟨(hrest d).1, (hrest d).2.1, (hrest d).2.2.1⟩) rfl rfl ?_ rfl rfl
  have ha : (Till.startUp now i).drawerA.state ≠ .openLong := (hrest .a).2.2.2
  have hb : (Till.startUp now i).drawerB.state ≠ .openLong := (hrest .b).2.2.2
  rw [Till.judgedLight, if_neg (by simp [Till.startUp, Till.reset]), if_neg (by simp [ha, hb])]
  rfl

/-- A drawer at the lane reset: kept in FAULT, otherwise taken from its sensors. -/
theorem Till.drawerReset_sound {r : DrawerRecord} (htray : r.state = .fault → r.sound) (t : Till) (now : Nat) :
    (t.drawerReset now r).sound ∧ (t.drawerReset now r).state ≠ .kicking ∧ (t.drawerReset now r).state ≠ .pending := by
  unfold Till.drawerReset
  split
  · rename_i hfault
    exact ⟨htray hfault, by simp [hfault], by simp [hfault]⟩
  · obtain ⟨hr, hk, hp, -⟩ := r.fromSensors_sound now (t.alarmFrom now)
    exact ⟨hr, hk, hp⟩

theorem Lane.laneReset_till_sound {p : Lane} (h : p.till.sound) : p.laneReset.till.sound := by
  have hcut : ∀ d, (p.cutForReset.till.drawer d).state = .fault → (p.cutForReset.till.drawer d).sound := by
    unfold Lane.cutForReset
    split
    · rename_i g _
      intro d _
      have hkeep : (p.writeDrive g .cut).till.sound := Till.sound.onDrawer_same h (h.drawer g.drawer) rfl
      exact hkeep.drawer d
    · exact fun d _ => h.drawer d
  have hrest : ∀ d, ((p.cutForReset.till.laneReset p.cutForReset.now).drawer d).sound ∧
      ((p.cutForReset.till.laneReset p.cutForReset.now).drawer d).state ≠ .kicking ∧
      ((p.cutForReset.till.laneReset p.cutForReset.now).drawer d).state ≠ .pending := by
    intro d
    cases d
    · exact Till.drawerReset_sound (hcut .a) _ _
    · exact Till.drawerReset_sound (hcut .b) _ _
  have hkeeps := Till.judgeLight_keeps (p.cutForReset.till.laneReset p.cutForReset.now) p.cutForReset.now
  refine Till.sound_of_idle (t := Till.judgeLight _ _) (fun d => ?_) (hkeeps.1.trans rfl) (hkeeps.2.1.trans rfl) ?_ ?_ ?_
  · rw [Till.drawer_judgeLight]
    exact hrest d
  · simp
  · simp [Till.laneReset]
  · simp [Till.laneReset]

theorem Lane.startUp_till_sound (i : ResetInputs) (torn : TornRecord) (n : Nat) (clock : Option DateTime)
    (m left : Nat) (p : Lane) : (p.startUp i torn n clock m left).till.sound := by
  have htill : (p.startUp i torn n clock m left).till = Till.startUp n i := by simp [Lane.startUp]
  rw [htill]
  exact Till.startUp_sound n i

theorem serveRequest_till_sound (c : Instr) {p : Lane} (h : p.till.sound) : (serveRequest c p).till.sound := by
  cases c with
  | total => simpa [serveRequest, Lane.serve] using doTotal_till_sound h
  | tenderCash _ a => simpa [serveRequest, Lane.serve] using doTenderCash_till_sound h a
  | tenderCard _ n a x code => simpa [serveRequest, Lane.serve] using doTenderCard_till_sound h n a x code
  | drawerOpen _ b => simpa [serveRequest, Lane.serve] using doDrawerOpen_sound h b
  | noSale _ b => simpa [serveRequest, Lane.serve] using doNoSale_sound h b
  | drawerClearFault _ b => simpa [serveRequest, Lane.serve] using doDrawerClearFault_sound h b
  | drawerSetup _ ms a b => simpa [serveRequest, Lane.serve] using doDrawerSetup_sound h ms a b
  | drawerSelect _ b => simpa [serveRequest, Lane.serve] using doDrawerSelect_sound h b
  | assistClear => simpa [serveRequest, Lane.serve] using doAssistClear_sound h
  | light _ m => simpa [serveRequest, Lane.serve] using doLight_sound h m
  | _ => simpa [serveRequest, Lane.serve] using h

theorem blockEvent_till_sound (c : Instr) {p : Lane} (h : p.till.sound) : (blockEvent c p).till.sound := by
  cases c with
  | powerOn => exact Lane.startUp_till_sound _ _ _ _ _ _ _
  | resetInput => exact Lane.startUp_till_sound _ _ _ _ _ _ _
  | kickPulseEnd => exact Lane.pulseEnd_sound h
  | solenoidCurrentFault f => exact Lane.currentFault_sound h f
  | confirmWindowExpiry d => exact Lane.confirmExpire_sound h d
  | alarmTimerExpiry d => exact Lane.alarmExpire_sound h d
  | trayRemoved d => exact Lane.trayRemoved_sound h d
  | trayInserted d => exact Lane.trayInserted_sound h d
  | closedSensorOpens d => exact Lane.closedOpens_sound h d
  | closedSensorCloses d => exact Lane.closedCloses_sound h d
  | keyPositionChange k => exact Lane.keyChange_sound h k
  | assistButtonPress => exact Lane.assistPress_sound h
  | _ => simpa [blockEvent] using h

theorem till_keptByRequests : KeptByRequests (fun _ => True) fun p => p.till.sound where
  behind _ _ _ h := h
  guardBehind _ _ _ h := h
  request c _ _ h := serveRequest_till_sound c h
  laneReset _ _ h := Lane.laneReset_till_sound h

/-- Settles O57: every request and every event keeps the till controller consistent, and so every step does. -/
theorem tillStaysSound : Obligations.TillStaysSound := fun _ _ h hstep =>
  till_keptByRequests.step (fun c _ => blockEvent_till_sound c) hstep (fun _ => trivial) (fun _ => trivial) h

end Sys2Proof.Machine
end

section
/-! PROOFS. The print engine stays consistent with its queue, and the settlement backlog a receipt or a void slip (R123,
R164 to R177). -/

namespace Sys2Proof.Machine

/-! ## The queue and the engine, apart -/

/-- The jobs of a print queue and the slip buffer fit (R160, R164). -/
structure JobsSound (queue : List Job) (slip : Option (List Text)) : Prop where
  room : queue.length ≤ 4
  behind : ∀ j ∈ queue.tail, j.state = .queued
  named : ∀ j ∈ queue, j.context = none ↔ j.kind = .slip
  slips : queue.countP Job.isSlip = if slip.isSome = true then 1 else 0

/-- The engine's state is that of its head, its feed, its draining and what is in flight (R165 to R177). -/
structure Printer.EngineSound (e : Printer) : Prop where
  idle : e.engine = .idle → e.queue = []
  feeding : e.engine = .feeding ↔ e.feed ≠ none
  feedHead : e.engine = .feeding → e.headIs (fun s => decide (s ≠ .queued)) = false
  paused : e.engine = .paused ↔ e.headIs (fun s => s.reason.isSome) = true
  running : e.engine = .running → e.draining = true ∨ e.headIs (fun s => decide (s = .printing)) = true
  drains : e.draining = true →
    e.engine = .running ∧ e.restartDue = false ∧ e.headIs (fun s => decide (s ≠ .queued)) = false
  restart : e.restartDue = true → e.engine = .running
  flight : e.figures ≠ none ∨ e.cutUntil ≠ none ↔ e.engine = .feeding ∨ e.engine = .running ∧ e.restartDue = false
  one : e.figures = none ∨ e.cutUntil = none
  cut : e.cutUntil ≠ none → e.engine = .running
  row : e.figures ≠ none → e.engine = .running → e.draining = false → e.phase ≠ .cut

theorem Printer.sound_iff (e : Printer) : e.sound ↔ JobsSound e.queue e.slip ∧ e.EngineSound := by
  constructor
  · rintro ⟨h1, h2, h3, h4, h5, h6, h7, h8, h9, h10, h11, h12, h13, h14, h15⟩
    exact ⟨⟨h1, h2, h3, h4⟩, ⟨h5, h6, h7, h8, h9, h10, h11, h12, h13, h14, h15⟩⟩
  · rintro ⟨⟨h1, h2, h3, h4⟩, ⟨h5, h6, h7, h8, h9, h10, h11, h12, h13, h14, h15⟩⟩
    exact ⟨h1, h2, h3, h4, h5, h6, h7, h8, h9, h10, h11, h12, h13, h14, h15⟩

theorem Printer.headIs_cons {e : Printer} {j : Job} {rest : List Job} (h : e.queue = j :: rest) (test : JobState → Bool) :
    e.headIs test = test j.state := by
  simp [Printer.headIs, h]

theorem Printer.headIs_nil {e : Printer} (h : e.queue = []) (test : JobState → Bool) : e.headIs test = false := by
  simp [Printer.headIs, h]

/-- Nothing is in flight, fed, draining or due for a restart. -/
structure Printer.Still (e : Printer) : Prop where
  figures : e.figures = none
  cut : e.cutUntil = none
  feed : e.feed = none
  draining : e.draining = false
  restart : e.restartDue = false

/-- Every job waits and nothing moves: the head job, if any, is to start. -/
structure Printer.Waiting (e : Printer) : Prop where
  jobs : JobsSound e.queue e.slip
  queued : ∀ j ∈ e.queue, j.state = .queued
  still : e.Still

/-- The head job is PRINTING with the engine RUNNING, and nothing moves: its next row or its cut is to start. -/
structure Printer.Due (e : Printer) : Prop where
  jobs : JobsSound e.queue e.slip
  head : ∃ j rest, e.queue = j :: rest ∧ j.state = .printing
  running : e.engine = .running
  still : e.Still

/-- A head job in another state leaves the jobs sound. -/
theorem JobsSound.setHead {j : Job} {rest : List Job} {slip : Option (List Text)} (h : JobsSound (j :: rest) slip)
    (s : JobState) : JobsSound ({ j with state := s } :: rest) slip where
  room := h.room
  behind := h.behind
  named x hx := by
    obtain rfl | hx := List.mem_cons.mp hx
    · exact h.named j (by simp)
    · exact h.named x (by simp [hx])
  slips := by
    have hcount := h.slips
    simpa [List.countP_cons, Job.isSlip] using hcount

theorem Printer.setHead_cons {e : Printer} {j : Job} {rest : List Job} (h : e.queue = j :: rest) (s : JobState) :
    e.setHead s = { e with queue := { j with state := s } :: rest } := by
  simp [Printer.setHead, h]

theorem Printer.Due.sound_paused {e : Printer} (h : e.Due) (r : PauseReason) :
    ({ e.setHead (.paused r) with engine := .paused } : Printer).sound := by
  obtain ⟨j, rest, hq, -⟩ := h.head
  obtain ⟨hfigures, hcut, hfeed, hdraining, hrestart⟩ := h.still
  rw [Printer.setHead_cons hq]
  refine (Printer.sound_iff _).mpr ⟨(hq ▸ h.jobs).setHead _, ?_⟩
  constructor <;> simp [Printer.headIs, JobState.reason, hfigures, hcut, hfeed, hdraining, hrestart]

theorem Printer.Due.sound_row {e : Printer} (h : e.Due) (hphase : e.phase ≠ .cut) (f : RowFigures) (limit : Nat) :
    ({ e with figures := some f, limit := limit } : Printer).sound := by
  obtain ⟨j, rest, hq, hj⟩ := h.head
  obtain ⟨-, hcut, hfeed, hdraining, hrestart⟩ := h.still
  have hrunning := h.running
  refine (Printer.sound_iff _).mpr ⟨h.jobs, ?_⟩
  constructor <;> simp [Printer.headIs, JobState.reason, hq, hj, hrunning, hcut, hfeed, hdraining, hrestart, hphase]

theorem Printer.Due.sound_cut {e : Printer} (h : e.Due) (t : Nat) : ({ e with cutUntil := some t } : Printer).sound := by
  obtain ⟨j, rest, hq, hj⟩ := h.head
  obtain ⟨hfigures, -, hfeed, hdraining, hrestart⟩ := h.still
  have hrunning := h.running
  refine (Printer.sound_iff _).mpr ⟨h.jobs, ?_⟩
  constructor <;> simp [Printer.headIs, JobState.reason, hq, hj, hrunning, hfigures, hfeed, hdraining, hrestart]

/-- PRINT_RESUME accepted: the restart is due. -/
theorem Printer.Due.sound_restart {e : Printer} (h : e.Due) : ({ e with restartDue := true } : Printer).sound := by
  obtain ⟨j, rest, hq, hj⟩ := h.head
  obtain ⟨hfigures, hcut, hfeed, hdraining, -⟩ := h.still
  have hrunning := h.running
  refine (Printer.sound_iff _).mpr ⟨h.jobs, ?_⟩
  constructor <;> simp [Printer.headIs, JobState.reason, hq, hj, hrunning, hfigures, hcut, hfeed, hdraining]

/-! ## Rows, cuts and the head's start (R165, R168, R170, R173) -/

theorem Lane.pauseHead_sound {p : Lane} (h : p.printer.Due) (r : PauseReason) : (p.pauseHead r).printer.sound := by
  obtain ⟨j, rest, hq, -⟩ := h.head
  have hhead : p.headJob = some j := by simp [Lane.headJob, hq]
  unfold Lane.pauseHead
  rw [hhead]
  exact h.sound_paused r

theorem Lane.startRow_sound {p : Lane} (h : p.printer.Due) (hphase : p.printer.phase ≠ .cut) :
    p.startRow.printer.sound := by
  unfold Lane.startRow
  split
  · exact Lane.pauseHead_sound h _
  · exact h.sound_row hphase _ _

/-- The place a head job has reached is no part of its being due. -/
theorem Printer.Due.congr {e x : Printer} (h : e.Due) (hqueue : x.queue = e.queue) (hslip : x.slip = e.slip)
    (hengine : x.engine = e.engine) (hstill : x.Still) : x.Due where
  jobs := by
    rw [hqueue, hslip]
    exact h.jobs
  head := by
    rw [hqueue]
    exact h.head
  running := hengine.trans h.running
  still := hstill

theorem Lane.nextLine_sound {p : Lane} (h : p.printer.Due) (j : Job) : (p.nextLine j).printer.sound := by
  have hasked : (p.askLine j).1.printer = p.printer := by simp
  unfold Lane.nextLine
  split
  all_goals
    rename_i hask
    rw [hask] at hasked
    dsimp only at hasked
    refine Lane.startRow_sound (Printer.Due.congr (e := p.printer) h ?_ ?_ ?_ ?_) (by simp)
    · simp [hasked]
    · simp [hasked]
    · simp [hasked]
    · obtain ⟨hfigures, hcut, hfeed, hdraining, hrestart⟩ := h.still
      constructor <;> simpa [hasked]

/-- The head job starts, or the engine is IDLE, from a queue whose jobs all wait. -/
theorem Lane.startHead_sound {p : Lane} (h : p.printer.Waiting) : p.startHead.printer.sound := by
  obtain ⟨hjobs, hqueued, hstill⟩ := h
  obtain ⟨hfigures, hcut, hfeed, hdraining, hrestart⟩ := hstill
  unfold Lane.startHead
  rcases hq : p.printer.queue with _ | ⟨j, rest⟩
  · have hhead : p.headJob = none := by simp [Lane.headJob, hq]
    rw [hhead]
    refine (Printer.sound_iff _).mpr ⟨hjobs, ?_⟩
    constructor <;> simp [Printer.headIs, hq, hfigures, hcut, hfeed, hdraining, hrestart]
  · have hhead : p.headJob = some j := by simp [Lane.headJob, hq]
    rw [hhead]
    refine Lane.nextLine_sound ?_ j
    rw [Lane.withPrinter_printer, Printer.setHead_cons hq]
    exact ⟨(hq ▸ hjobs).setHead _, ⟨_, _, rfl, rfl⟩, rfl, ⟨hfigures, hcut, hfeed, hdraining, hrestart⟩⟩

theorem Lane.startCut_sound {p : Lane} (h : p.printer.Due) : p.startCut.printer.sound := by
  have hcut : (p.withPrinter fun e => { e with phase := .cut }).printer.Due := h.congr rfl rfl rfl
    ⟨h.still.figures, h.still.cut, h.still.feed, h.still.draining, h.still.restart⟩
  unfold Lane.startCut
  dsimp only
  split
  · exact Lane.pauseHead_sound hcut _
  split
  · exact Lane.pauseHead_sound hcut _
  · exact hcut.sound_cut _

theorem Lane.restartHead_sound {p : Lane} (h : p.printer.Due) : p.restartHead.printer.sound := by
  unfold Lane.restartHead
  split
  · exact Lane.startCut_sound h
  · exact Lane.startRow_sound h ‹_›

/-! ## What a sound engine's state says -/

namespace Printer.EngineSound

variable {e : Printer}

/-- Neither feeding nor at work, nothing is in flight. -/
theorem no_flight (h : e.EngineSound) (hf : e.engine ≠ .feeding) (hr : e.engine = .running → e.restartDue = true) :
    e.figures = none ∧ e.cutUntil = none := by
  have hnot : ¬(e.figures ≠ none ∨ e.cutUntil ≠ none) := fun hflight => by
    obtain hfeeding | ⟨hrunning, hrestart⟩ := h.flight.mp hflight
    · exact hf hfeeding
    · simp [hr hrunning] at hrestart
  simpa using hnot

theorem no_feed (h : e.EngineSound) (hf : e.engine ≠ .feeding) : e.feed = none := by
  by_contra hfeed
  exact hf (h.feeding.mpr hfeed)

theorem not_draining (h : e.EngineSound) (hr : e.engine ≠ .running) : e.draining = false := by
  by_contra hd
  exact hr (h.drains (by simpa using hd)).1

theorem no_restart (h : e.EngineSound) (hr : e.engine ≠ .running) : e.restartDue = false := by
  by_contra hd
  exact hr (h.restart (by simpa using hd))

/-- An engine neither feeding nor running is still. -/
theorem still (h : e.EngineSound) (hf : e.engine ≠ .feeding) (hr : e.engine ≠ .running) : e.Still where
  figures := (h.no_flight hf fun hrun => absurd hrun hr).1
  cut := (h.no_flight hf fun hrun => absurd hrun hr).2
  feed := h.no_feed hf
  draining := h.not_draining hr
  restart := h.no_restart hr

/-- The head of a running engine that does not drain is PRINTING. -/
theorem head_printing (h : e.EngineSound) (hr : e.engine = .running) (hd : e.draining = false) :
    ∃ j rest, e.queue = j :: rest ∧ j.state = .printing := by
  obtain hdrain | hhead := h.running hr
  · simp [hd] at hdrain
  · rcases hq : e.queue with _ | ⟨j, rest⟩
    · simp [Printer.headIs, hq] at hhead
    · refine ⟨j, rest, rfl, ?_⟩
      simpa [Printer.headIs, hq] using hhead

/-- With the head QUEUED or no head, every job waits. -/
theorem all_queued (hj : JobsSound e.queue e.slip) (hhead : e.headIs (fun s => decide (s ≠ .queued)) = false) :
    ∀ j ∈ e.queue, j.state = .queued := by
  rcases hq : e.queue with _ | ⟨j, rest⟩
  · simp
  · intro x hx
    obtain rfl | hx := List.mem_cons.mp hx
    · simpa [Printer.headIs, hq] using hhead
    · exact hj.behind x (by simp [hq, hx])

end Printer.EngineSound

/-! ## Jobs joining the queue (R123, R159, R160, R165) -/

/-- A job that joins behind the others. -/
theorem JobsSound.append {queue : List Job} {slip : Option (List Text)} (h : JobsSound queue slip) {j : Job}
    {slip' : Option (List Text)} (hroom : queue.length < 4) (hstate : j.state = .queued)
    (hnamed : j.context = none ↔ j.kind = .slip)
    (hslips : (queue.countP Job.isSlip + if j.isSlip = true then 1 else 0) = if slip'.isSome = true then 1 else 0) :
    JobsSound (queue ++ [j]) slip' where
  room := by simpa using hroom
  behind x hx := by
    rcases queue with _ | ⟨a, rest⟩
    · simp at hx
    · simp only [List.cons_append, List.tail_cons, List.mem_append, List.mem_singleton] at hx
      obtain hx | rfl := hx
      · exact h.behind x hx
      · exact hstate
  named x hx := by
    obtain hx | hx := List.mem_append.mp hx
    · exact h.named x hx
    · obtain rfl := List.mem_singleton.mp hx
      exact hnamed
  slips := by
    simpa [List.countP_append, List.countP_cons] using hslips

/-- Another queue with a head in the same state, as far as a waiting or absent head goes. -/
theorem Printer.EngineSound.requeue {e x : Printer} (h : e.EngineSound) (hidle : e.engine = .idle → x.queue = [])
    (hhead : ∀ test : JobState → Bool, test .queued = false → x.headIs test = e.headIs test)
    (hx : x = { e with queue := x.queue, slip := x.slip }) : x.EngineSound := by
  have hengine : x.engine = e.engine := by rw [hx]
  have hfeed : x.feed = e.feed := by rw [hx]
  have hdraining : x.draining = e.draining := by rw [hx]
  have hrestart : x.restartDue = e.restartDue := by rw [hx]
  have hfigures : x.figures = e.figures := by rw [hx]
  have hcut : x.cutUntil = e.cutUntil := by rw [hx]
  have hphase : x.phase = e.phase := by rw [hx]
  have hstarted := hhead (fun s => decide (s ≠ .queued)) (by simp)
  have hreason := hhead (fun s => s.reason.isSome) (by simp [JobState.reason])
  have hprinting := hhead (fun s => decide (s = .printing)) (by simp)
  constructor
  · rw [hengine]
    exact hidle
  · rw [hengine, hfeed]
    exact h.feeding
  · rw [hengine, hstarted]
    exact h.feedHead
  · rw [hengine, hreason]
    exact h.paused
  · rw [hengine, hdraining, hprinting]
    exact h.running
  · rw [hengine, hdraining, hrestart, hstarted]
    exact h.drains
  · rw [hengine, hrestart]
    exact h.restart
  · rw [hengine, hrestart, hfigures, hcut]
    exact h.flight
  · rw [hfigures, hcut]
    exact h.one
  · rw [hengine, hcut]
    exact h.cut
  · rw [hengine, hfigures, hdraining, hphase]
    exact h.row

/-- A job that joins a queue leaves its head, unless it is the head, and then it waits. -/
theorem Printer.EngineSound.append {e x : Printer} (h : e.EngineSound) {j : Job} (hidle : e.engine ≠ .idle)
    (hstate : j.state = .queued) (hx : x = { e with queue := e.queue ++ [j], slip := x.slip }) : x.EngineSound := by
  refine h.requeue (fun hi => absurd hi hidle) (fun test htest => ?_) (by rw [hx])
  rw [hx]
  rcases hq : e.queue with _ | ⟨a, rest⟩
  · simp [Printer.headIs, hq, hstate, htest]
  · simp [Printer.headIs, hq]

/-- A job appended: at once started by an IDLE engine, behind the others otherwise. slip is the slip buffer before. -/
theorem Lane.appendJob_sound {p : Lane} {slip : Option (List Text)} (h : ({ p.printer with slip := slip } : Printer).sound)
    {j : Job} (hroom : p.printer.queue.length < 4) (hstate : j.state = .queued)
    (hnamed : j.context = none ↔ j.kind = .slip)
    (hslips : (p.printer.queue.countP Job.isSlip + if j.isSlip = true then 1 else 0) =
      if p.printer.slip.isSome = true then 1 else 0) : (p.appendJob j).printer.sound := by
  obtain ⟨hjobs, hengine⟩ := (Printer.sound_iff _).mp h
  have happend : JobsSound (p.printer.queue ++ [j]) p.printer.slip := hjobs.append hroom hstate hnamed hslips
  unfold Lane.appendJob
  split
  · rename_i hidle
    have hempty : p.printer.queue = [] := hengine.idle hidle
    obtain ⟨hfigures, hcut, hfeed, hdraining, hrestart⟩ :=
      hengine.still (by simp [hidle]) (by simp [hidle])
    refine Lane.startHead_sound ⟨happend, fun x hx => ?_, ⟨hfigures, hcut, hfeed, hdraining, hrestart⟩⟩
    have hx : x ∈ p.printer.queue ++ [j] := hx
    rw [hempty] at hx
    simp_all
  · rename_i hidle
    exact (Printer.sound_iff _).mpr ⟨happend, hengine.append hidle hstate rfl⟩

/-! ## The settlement backlog, and who leaves it alone (R123) -/

@[simp] theorem Lane.setRole_backlog (p : Lane) (i : Fin 6) (r : Role) : (p.setRole i r).sale.backlog = p.sale.backlog := rfl
@[simp] theorem Lane.setSaleState_backlog (p : Lane) (i : Fin 6) (x : SaleState) :
    (p.setSaleState i x).sale.backlog = p.sale.backlog := rfl
@[simp] theorem Lane.setLoyalty_backlog (p : Lane) (i : Fin 6) (t : Text) :
    (p.setLoyalty i t).sale.backlog = p.sale.backlog := rfl
@[simp] theorem Lane.setStack_backlog (p : Lane) (l : List (Fin 6)) : (p.setStack l).sale.backlog = p.sale.backlog := rfl
@[simp] theorem Lane.freeCtx_backlog (p : Lane) (i : Fin 6) : (p.freeCtx i).sale.backlog = p.sale.backlog := rfl

@[simp] theorem Lane.appendItem_backlog (f : List ItemRecord → List ItemRecord) (r : ItemRecord) (p : Lane) :
    (p.appendItem f r).1.sale.backlog = p.sale.backlog := by
  unfold Lane.appendItem
  split <;> rfl

/-- A checked request leaves the backlog when its action does. -/
theorem checked_backlog {l : List (Bool × Answer)} {act : Lane → Lane × Answer} {p : Lane}
    (h : (act p).1.sale.backlog = p.sale.backlog) : (checked l act p).1.sale.backlog = p.sale.backlog :=
  checked_keeps (I := fun q => q.sale.backlog = p.sale.backlog) rfl fun _ => h

@[simp] theorem doItem_backlog (d : Text) (q : Nat) (u : Int) (p : Lane) :
    (doItem d q u p).1.sale.backlog = p.sale.backlog :=
  checked_backlog (checked_backlog (Lane.appendItem_backlog _ _ p))

@[simp] theorem doVoidItem_backlog (n : Nat) (p : Lane) : (doVoidItem n p).1.sale.backlog = p.sale.backlog := by
  refine checked_backlog ?_
  split
  · rfl
  · exact checked_backlog (Lane.appendItem_backlog _ _ p)

@[simp] theorem doBackToItems_backlog (p : Lane) : (doBackToItems p).1.sale.backlog = p.sale.backlog := by
  refine checked_backlog ?_
  unfold Lane.backToItems
  split <;> simp

@[simp] theorem doSuspend_backlog (p : Lane) : (doSuspend p).1.sale.backlog = p.sale.backlog := by
  refine checked_backlog ?_
  unfold Lane.suspendSale
  split <;> simp

@[simp] theorem doResume_backlog (p : Lane) : (doResume p).1.sale.backlog = p.sale.backlog := by
  refine checked_backlog ?_
  unfold Lane.resumeSale
  split <;> simp

@[simp] theorem doDropSuspended_backlog (p : Lane) : (doDropSuspended p).1.sale.backlog = p.sale.backlog := by
  unfold doDropSuspended
  split
  · rfl
  · exact checked_backlog (Lane.freeCtx_backlog p _)

@[simp] theorem doSettleSetup_backlog (b : Byte) (p : Lane) : (doSettleSetup b p).1.sale.backlog = p.sale.backlog := by
  unfold doSettleSetup
  split <;> rfl

@[simp] theorem Lane.makeCapture_backlog (c : Capture) (chain : Chain) (amount : Int) (p : Lane) :
    (p.makeCapture c chain amount).sale.backlog = p.sale.backlog := rfl

theorem Lane.judge_backlog (c : Capture) (chain : Chain) (p : Lane) : (p.judge c chain).sale.backlog = p.sale.backlog := by
  unfold Lane.judge
  split
  · rfl
  · dsimp only
    split
    · simp
    split <;> simp

@[simp] theorem Lane.captureStage_backlog (chain : Chain) (p : Lane) :
    (p.captureStage chain).sale.backlog = p.sale.backlog := by
  have hlatch : (if chain.gross < 400 then { p with scale := { p.scale with latch := false } } else p).sale.backlog
      = p.sale.backlog := by
    split <;> rfl
  unfold Lane.captureStage
  dsimp only
  split
  · exact (Lane.judge_backlog _ _ _).trans hlatch
  · exact hlatch

@[simp] theorem Lane.processSample_backlog (count : Int) (p : Lane) :
    (p.processSample count).sale.backlog = p.sale.backlog := by
  unfold Lane.processSample
  dsimp only
  split <;> simp

@[simp] theorem Lane.sample_backlog (count : Int) (p : Lane) : (p.sample count).sale.backlog = p.sale.backlog := by
  unfold Lane.sample
  dsimp only
  repeat' split
  all_goals simp

@[simp] theorem Lane.obtain_backlog (p : Lane) : p.obtain.sale.backlog = p.sale.backlog := by
  unfold Lane.obtain
  repeat' split
  all_goals rfl

@[simp] theorem Lane.applyHeldLoyalty_backlog (i : Fin 6) (p : Lane) :
    (p.applyHeldLoyalty i).sale.backlog = p.sale.backlog := by
  unfold Lane.applyHeldLoyalty
  repeat' split
  all_goals simp

@[simp] theorem Lane.openSale_backlog (n : Nat) (p : Lane) : (p.openSale n).sale.backlog = p.sale.backlog := by
  unfold Lane.openSale
  dsimp only
  split <;> simp

@[simp] theorem Lane.txnWriteEnd_backlog (r : WriteEnd) (p : Lane) : (p.txnWriteEnd r).sale.backlog = p.sale.backlog := by
  unfold Lane.txnWriteEnd
  split
  · split <;> simp
  · rfl

@[simp] theorem Lane.takeResult_backlog (r : SwipeResult) (p : Lane) : (p.takeResult r).sale.backlog = p.sale.backlog := by
  unfold Lane.takeResult Lane.takeLoyalty
  repeat' split
  all_goals simp

@[simp] theorem Lane.swipeEnd_backlog (p : Lane) : p.swipeEnd.sale.backlog = p.sale.backlog := by
  unfold Lane.swipeEnd
  split
  · unfold Lane.handOver
    dsimp only
    split <;> simp
  · rfl

@[simp] theorem Lane.jobReport_backlog (j : Job) (p : Lane) : (p.jobReport j).sale.backlog = p.sale.backlog := by
  have hretire : p.retireLastPrinted.sale.backlog = p.sale.backlog := by
    unfold Lane.retireLastPrinted
    repeat' split
    all_goals rfl
  unfold Lane.jobReport
  split
  · exact hretire
  · exact hretire
  · unfold Lane.copyEnd
    dsimp only
    split <;> rfl
  · rfl

/-! ## Jobs joining, with the backlog -/

/-- The settlement backlog and the print engine are sound. -/
structure Lane.PrintSound (p : Lane) : Prop where
  backlog : p.sale.backlogSound
  printer : p.printer.sound

theorem Lane.PrintSound.congr {p q : Lane} (h : p.PrintSound) (hb : q.sale.backlog = p.sale.backlog)
    (hp : q.printer = p.printer) : q.PrintSound where
  backlog := by
    rw [Sale.backlogSound, hb]
    exact h.backlog
  printer := hp ▸ h.printer

theorem Job.isSlip_iff (j : Job) : j.isSlip = true ↔ j.kind = .slip := by
  simp [Job.isSlip]

/-- The count of slips of a queue that a job other than a SLIP joins. -/
theorem JobsSound.slips_append {queue : List Job} {slip : Option (List Text)} (h : JobsSound queue slip) {j : Job}
    (hj : j.kind ≠ .slip) :
    (queue.countP Job.isSlip + if j.isSlip = true then 1 else 0) = if slip.isSome = true then 1 else 0 := by
  have hnot : j.isSlip = false := by simpa [Job.isSlip] using hj
  simpa [hnot] using h.slips

theorem Lane.placeJob_printSound {p : Lane} (h : p.PrintSound) {k : JobKind} (hk : k = .receipt ∨ k = .voidSlip)
    (i : Fin 6) : (p.placeJob k i).PrintSound := by
  have hslip : k ≠ .slip := by rcases hk with rfl | rfl <;> simp
  obtain ⟨hjobs, -⟩ := (Printer.sound_iff _).mp h.printer
  unfold Lane.placeJob
  split
  · refine ⟨?_, h.printer⟩
    rintro b ⟨⟩
    exact hk
  · rename_i hroom
    refine ⟨?_, ?_⟩
    · have hsale : (p.appendJob (p.jobFor k i)).sale = p.sale := by simp
      rw [hsale]
      exact h.backlog
    · refine Lane.appendJob_sound (slip := p.printer.slip) h.printer ?_ rfl ?_ (hjobs.slips_append hslip)
      · simpa [Lane.queueFull] using hroom
      · simpa [Lane.jobFor] using hslip

/-- A place given to a backlogged job leaves a waiting queue waiting. -/
theorem Lane.freePlace_waiting {p : Lane} (hb : p.sale.backlogSound) (h : p.printer.Waiting) :
    p.freePlace.sale.backlogSound ∧ p.freePlace.printer.Waiting := by
  unfold Lane.freePlace
  split
  · exact ⟨hb, h⟩
  rename_i b hbacklog
  split
  · exact ⟨hb, h⟩
  · rename_i hroom
    have hslip : b.kind ≠ .slip := by rcases hb b hbacklog with hk | hk <;> simp [hk]
    refine ⟨by simp [Sale.backlogSound], ?_, ?_,
      ⟨h.still.figures, h.still.cut, h.still.feed, h.still.draining, h.still.restart⟩⟩
    · exact h.jobs.append (by simpa [Lane.queueFull] using hroom) rfl (by simpa [Lane.jobFor] using hslip)
        (h.jobs.slips_append hslip)
    · intro x hx
      obtain hx | hx := List.mem_append.mp hx
      · exact h.queued x hx
      · obtain rfl := List.mem_singleton.mp hx
        rfl

/-- A place given to a backlogged job while the engine works leaves it sound. -/
theorem Lane.freePlace_printSound {p : Lane} (h : p.PrintSound) (hidle : p.printer.engine ≠ .idle) :
    p.freePlace.PrintSound := by
  unfold Lane.freePlace
  split
  · exact h
  rename_i b hbacklog
  split
  · exact h
  · rename_i hroom
    obtain ⟨hjobs, hengine⟩ := (Printer.sound_iff _).mp h.printer
    have hslip : b.kind ≠ .slip := by rcases h.backlog b hbacklog with hk | hk <;> simp [hk]
    refine ⟨by simp [Sale.backlogSound], (Printer.sound_iff _).mpr ⟨?_, ?_⟩⟩
    · exact hjobs.append (by simpa [Lane.queueFull] using hroom) rfl (by simpa [Lane.jobFor] using hslip)
        (hjobs.slips_append hslip)
    · exact hengine.append hidle (j := p.jobFor b.kind b.context) rfl rfl

/-! ## The end of a job (R174) -/

/-- The head job gone, the rest wait; a slip's buffer goes with it. -/
theorem JobsSound.tail {j : Job} {rest : List Job} {slip : Option (List Text)} (h : JobsSound (j :: rest) slip) :
    JobsSound rest (if j.kind = .slip then none else slip) where
  room := by
    have hroom := h.room
    simp only [List.length_cons] at hroom
    omega
  behind x hx := h.behind x (by simpa using List.mem_of_mem_tail hx)
  named x hx := h.named x (by simp [hx])
  slips := by
    have hcount := h.slips
    rw [List.countP_cons] at hcount
    by_cases hj : j.kind = .slip
    · simp only [(Job.isSlip_iff j).mpr hj, if_true] at hcount
      rw [if_pos hj]
      split at hcount
      · simpa using hcount
      · omega
    · have hnot : j.isSlip = false := by simpa [Job.isSlip] using hj
      rw [if_neg hj]
      simpa [hnot] using hcount

/-- The end of a job is reported to the sale engine, or the slip buffer is emptied. -/
theorem Lane.jobReport_printer {p : Lane} {j : Job} (hj : j.context = none ↔ j.kind = .slip) :
    (p.jobReport j).printer = { p.printer with slip := if j.kind = .slip then none else p.printer.slip } := by
  unfold Lane.jobReport
  split
  · simp [*]
  · simp [*]
  · simp [*]
  · rename_i hreceipt hvoid hcopy
    have hslip : j.kind = .slip := by
      rcases hk : j.kind with _ | _ | _ | _
      · rcases hc : j.context with _ | i
        · simp [hc, hk] at hj
        · exact absurd hc (hreceipt i hk)
      · rcases hc : j.context with _ | i
        · simp [hc, hk] at hj
        · exact absurd hc (hvoid i hk)
      · rcases hc : j.context with _ | i
        · simp [hc, hk] at hj
        · exact absurd hc (hcopy i hk)
      · rfl
    simp [hslip]

theorem Lane.jobEnd_printSound {p : Lane} (hb : p.sale.backlogSound) (h : p.printer.Due) : p.jobEnd.PrintSound := by
  obtain ⟨j, rest, hq, -⟩ := h.head
  have hhead : p.headJob = some j := by simp [Lane.headJob, hq]
  have hjobs : JobsSound (j :: rest) p.printer.slip := hq ▸ h.jobs
  obtain ⟨hfigures, hcut, hfeed, hdraining, hrestart⟩ := h.still
  unfold Lane.jobEnd
  rw [hhead]
  dsimp only
  generalize hr : Lane.jobReport j (p.withPrinter fun e => { e.clearLine with queue := e.queue.tail }) = r
  have hrback : r.sale.backlogSound := by
    rw [Sale.backlogSound, ← hr, Lane.jobReport_backlog]
    exact hb
  have hrprinter : r.printer.Waiting := by
    rw [← hr, Lane.jobReport_printer (hjobs.named j (by simp))]
    refine ⟨?_, fun x hx => ?_, hfigures, hcut, hfeed, hdraining, hrestart⟩
    · simpa [Printer.clearLine, hq] using hjobs.tail
    · exact hjobs.behind x (by simpa [Printer.clearLine, hq] using hx)
  obtain ⟨hfree, hwaiting⟩ := Lane.freePlace_waiting hrback hrprinter
  refine ⟨?_, Lane.startHead_sound ?_⟩
  · have hsale : (r.freePlace.printDone j p.printer.lineNumber).startHead.sale = r.freePlace.sale := by simp
    rw [hsale]
    exact hfree
  · simpa using hwaiting

/-! ## Rows and cuts that end (R168, R173, R176, R177) -/

/-- A FEED runs: every job waits, and nothing but the feed's row moves. -/
structure Printer.Feeds (e : Printer) : Prop where
  jobs : JobsSound e.queue e.slip
  queued : ∀ j ∈ e.queue, j.state = .queued
  engine : e.engine = .feeding
  feed : e.feed ≠ none
  draining : e.draining = false
  restart : e.restartDue = false
  cut : e.cutUntil = none

/-- The head of a queue whose jobs all wait is QUEUED. -/
theorem Printer.headIs_of_queued {e : Printer} (h : ∀ j ∈ e.queue, j.state = .queued) {test : JobState → Bool}
    (ht : test .queued = false) : e.headIs test = false := by
  rcases hq : e.queue with _ | ⟨j, rest⟩
  · exact Printer.headIs_nil hq test
  · rw [Printer.headIs_cons hq, h j (by simp [hq]), ht]

theorem Printer.Feeds.sound_row {e : Printer} (h : e.Feeds) (f : RowFigures) (limit : Nat) :
    ({ e with figures := some f, limit := limit } : Printer).sound := by
  obtain ⟨hjobs, hqueued, hengine, hfeed, hdraining, hrestart, hcut⟩ := h
  have hstarted : e.headIs (fun s => decide (s ≠ .queued)) = false := Printer.headIs_of_queued hqueued (by simp)
  have hreason : e.headIs (fun s => s.reason.isSome) = false := Printer.headIs_of_queued hqueued rfl
  refine (Printer.sound_iff _).mpr ⟨hjobs, ?_⟩
  constructor
  case feedHead => exact fun _ => hstarted
  case paused =>
    refine iff_of_false (by simp [hengine]) ?_
    exact fun h => absurd (hreason.symm.trans h) (by simp)
  all_goals simp [hengine, hfeed, hdraining, hrestart, hcut]

theorem Lane.feedEnd_sound {p : Lane} (h : p.printer.Feeds) (hfigures : p.printer.figures = none) (fed : Nat)
    (stopped : Option PauseReason) : (p.feedEnd fed stopped).printer.sound := by
  unfold Lane.feedEnd
  refine Lane.startHead_sound ?_
  rw [Lane.event_printer]
  exact ⟨h.jobs, h.queued, hfigures, h.cut, rfl, h.draining, h.restart⟩

theorem Lane.feedRowEnd_sound {p : Lane} (h : p.printer.Feeds) (hfigures : p.printer.figures = none) (f : Feed) :
    (p.feedRowEnd f).printer.sound := by
  have hfed : (p.withPrinter fun e => { e with feed := some { f with fed := f.fed + 1 } }).printer.Feeds :=
    ⟨h.jobs, h.queued, h.engine, by simp, h.draining, h.restart, h.cut⟩
  unfold Lane.feedRowEnd
  dsimp only
  split
  · exact Lane.feedEnd_sound hfed hfigures _ _
  split
  · exact Lane.feedEnd_sound hfed hfigures _ _
  split
  · exact Lane.feedEnd_sound hfed hfigures _ _
  · exact hfed.sound_row _ _

theorem Lane.jobRowEnd_sound {p : Lane} (h : p.printer.Due) (hphase : p.printer.phase ≠ .cut) :
    p.jobRowEnd.printer.sound := by
  obtain ⟨j, rest, hq, -⟩ := h.head
  have hhead : p.headJob = some j := by simp [Lane.headJob, hq]
  have hstill := h.still
  obtain ⟨hfigures, hcut, hfeed, hdraining, hrestart⟩ := hstill
  unfold Lane.jobRowEnd
  rw [hhead]
  rcases hp : p.printer.phase with _ | _ | _
  · dsimp only
    split
    · refine Lane.startRow_sound (h.congr rfl rfl rfl ⟨hfigures, hcut, hfeed, hdraining, hrestart⟩) ?_
      exact hphase
    · exact Lane.nextLine_sound h j
  · have hrow : (p.withPrinter fun e => { e with tailRows := e.tailRows + 1 }).printer.Due :=
      h.congr rfl rfl rfl ⟨hfigures, hcut, hfeed, hdraining, hrestart⟩
    dsimp only
    split
    · exact Lane.startRow_sound hrow hphase
    · exact Lane.startCut_sound hrow
  · exact absurd hp hphase

/-- What was in flight of a removed slip has ended: the head job starts. -/
theorem Lane.drained_sound {p : Lane} (hjobs : JobsSound p.printer.queue p.printer.slip)
    (hqueued : ∀ j ∈ p.printer.queue, j.state = .queued) (hfigures : p.printer.figures = none)
    (hcut : p.printer.cutUntil = none) (hfeed : p.printer.feed = none) (hrestart : p.printer.restartDue = false) :
    p.drained.printer.sound :=
  Lane.startHead_sound ⟨hjobs, hqueued, hfigures, hcut, hfeed, rfl, hrestart⟩

theorem Lane.rowEnd_sound {p : Lane} (h : p.printer.sound) : p.rowEnd.printer.sound := by
  obtain ⟨hjobs, he⟩ := (Printer.sound_iff _).mp h
  unfold Lane.rowEnd
  split
  · exact h
  rename_i r hr
  have hmoves := he.flight.mp (.inl (by simp [hr]))
  have hcut : p.printer.cutUntil = none := he.one.resolve_left (by simp [hr])
  dsimp only
  split
  · rename_i hdraining
    obtain ⟨hrunning, hrestart, hhead⟩ := he.drains hdraining
    exact Lane.drained_sound hjobs (Printer.EngineSound.all_queued hjobs hhead) rfl hcut
      (he.no_feed (by simp [hrunning])) hrestart
  · rename_i f hdraining hf
    have hfeed : p.printer.feed ≠ none := by
      have hf : p.printer.feed = some f := hf
      simp [hf]
    have hfeeding := he.feeding.mpr hfeed
    refine Lane.feedRowEnd_sound ?_ rfl f
    exact ⟨hjobs, Printer.EngineSound.all_queued hjobs (he.feedHead hfeeding), hfeeding, hfeed, hdraining,
      he.no_restart (by simp [hfeeding]), hcut⟩
  · rename_i hdraining hf
    have hf : p.printer.feed = none := hf
    have hdraining : p.printer.draining = false := hdraining
    obtain hfeeding | ⟨hrunning, hrestart⟩ := hmoves
    · exact absurd hf (he.feeding.mp hfeeding)
    · refine Lane.jobRowEnd_sound ?_ ?_
      · exact ⟨hjobs, he.head_printing hrunning hdraining, hrunning, rfl, hcut, hf, hdraining, hrestart⟩
      · exact he.row (by simp [hr]) hrunning hdraining

theorem Lane.PrintSound.of_sale {p q : Lane} (h : p.PrintSound) (hsale : q.sale = p.sale) (hq : q.printer.sound) :
    q.PrintSound where
  backlog := hsale ▸ h.backlog
  printer := hq

theorem Lane.cutEnd_printSound {p : Lane} (h : p.PrintSound) : p.cutEnd.PrintSound := by
  obtain ⟨hjobs, he⟩ := (Printer.sound_iff _).mp h.printer
  unfold Lane.cutEnd
  split
  · exact h
  rename_i t ht
  have hrunning := he.cut (by simp [ht])
  have hfigures : p.printer.figures = none := he.one.resolve_right (by simp [ht])
  have hfeed := he.no_feed (by simp [hrunning])
  have hrestart : p.printer.restartDue = false := by
    obtain hfeeding | ⟨-, hrestart⟩ := he.flight.mp (.inr (by simp [ht]))
    · simp [hrunning] at hfeeding
    · exact hrestart
  dsimp only
  generalize hq : (p.elapseTo t).withPrinter (fun e => { e with cutUntil := none }) = q
  have hsale : q.sale = p.sale := by rw [← hq]; rfl
  have hprinter : q.printer = { p.printer with cutUntil := none } := by rw [← hq]; rfl
  split
  · rename_i hdraining
    have hdraining : p.printer.draining = true := by rwa [hprinter] at hdraining
    obtain ⟨-, -, hhead⟩ := he.drains hdraining
    refine h.of_sale (by simp [Lane.drained, hsale]) (Lane.drained_sound ?_ ?_ ?_ ?_ ?_ ?_)
    all_goals rw [hprinter]
    · exact hjobs
    · exact Printer.EngineSound.all_queued hjobs hhead
    · exact hfigures
    · exact hfeed
    · exact hrestart
  · rename_i hdraining
    have hdraining : p.printer.draining = false := by simpa [hprinter] using hdraining
    have hdue : q.printer.Due := by
      rw [hprinter]
      exact ⟨hjobs, he.head_printing hrunning hdraining, hrunning, hfigures, rfl, hfeed, hdraining, hrestart⟩
    split
    · refine Lane.jobEnd_printSound ?_ hdue
      rw [hsale]
      exact h.backlog
    · exact h.of_sale (by simp [hsale]) (Lane.pauseHead_sound hdue _)

/-! ## Sensors, pauses and their end (R166, R167, R171, R172) -/

theorem Printer.read_sound {e : Printer} (h : e.sound) (t : Int) : (e.read t).sound := by
  unfold Printer.read
  split <;> exact h

/-- A paused engine's head job is PAUSED. -/
theorem Printer.EngineSound.head_paused {e : Printer} (h : e.EngineSound) (hp : e.engine = .paused) :
    ∃ j rest, e.queue = j :: rest := by
  have hhead := h.paused.mp hp
  rcases hq : e.queue with _ | ⟨j, rest⟩
  · simp [Printer.headIs, hq] at hhead
  · exact ⟨j, rest, rfl⟩

/-- The engine is PAUSED while the head job is. -/
theorem Lane.paused_of_pausedFor {p : Lane} (h : p.printer.EngineSound) {r : PauseReason} (hr : p.pausedFor = some r) :
    p.printer.engine = .paused := by
  refine h.paused.mpr ?_
  unfold Lane.pausedFor Lane.headJob at hr
  split at hr
  · rename_i hhead
    obtain ⟨rest, hq⟩ := List.head?_eq_some_iff.mp hhead
    rw [Printer.headIs_cons hq]
    rfl
  · cases hr

theorem Lane.endPause_due {p : Lane} (h : p.printer.sound) (hp : p.printer.engine = .paused) (cause : Nat) :
    (p.endPause cause).printer.Due := by
  obtain ⟨hjobs, he⟩ := (Printer.sound_iff _).mp h
  obtain ⟨j, rest, hq⟩ := he.head_paused hp
  obtain ⟨hfigures, hcut, hfeed, hdraining, hrestart⟩ := he.still (by simp [hp]) (by simp [hp])
  have hprinter : (p.endPause cause).printer =
      { p.printer with queue := { j with state := .printing } :: rest, engine := .running, row := 0, tailRows := 0 } := by
    simp [Lane.endPause, Lane.withPrinter, Printer.setHead_cons hq]
  rw [hprinter]
  exact ⟨(hq ▸ hjobs).setHead _, ⟨_, _, rfl, rfl⟩, rfl, hfigures, hcut, hfeed, hdraining, hrestart⟩

theorem Lane.temperatureReading_sound {p : Lane} (h : p.printer.sound) (t : Int) :
    (p.temperatureReading t).printer.sound := by
  unfold Lane.temperatureReading
  have hread : ((p.elapseTo p.printer.nextReading).withPrinter fun e =>
      { e.read t with nextReading := (p.elapseTo p.printer.nextReading).now + 100000 }).printer.sound :=
    Printer.read_sound h t
  dsimp only
  split
  · rename_i hpaused
    have hengine := ((Printer.sound_iff _).mp hread).2
    exact Lane.restartHead_sound (Lane.endPause_due hread (Lane.paused_of_pausedFor hengine hpaused.1) 0)
  · exact hread

theorem Lane.printerInput_sound {p : Lane} (h : p.printer.sound) (i : PrinterInput) :
    (p.printerInput i).printer.sound := by
  unfold Lane.printerInput
  split
  case h_2 =>
    dsimp only
    split
    · rw [Lane.event_printer]
      exact h
    · exact h
  all_goals exact h

theorem Lane.printRestart_sound {p : Lane} (h : p.printer.sound) : p.printRestart.printer.sound := by
  obtain ⟨hjobs, he⟩ := (Printer.sound_iff _).mp h
  unfold Lane.printRestart
  split
  · rename_i hdue
    have hrunning := he.restart hdue
    have hdraining : p.printer.draining = false := by
      by_contra hd
      obtain ⟨-, hno, -⟩ := he.drains (by simpa using hd)
      simp [hdue] at hno
    obtain ⟨hfigures, hcut⟩ := he.no_flight (by simp [hrunning]) fun _ => hdue
    refine Lane.restartHead_sound ?_
    exact ⟨hjobs, he.head_printing hrunning hdraining, hrunning, hfigures, hcut, he.no_feed (by simp [hrunning]),
      hdraining, rfl⟩
  · exact h

theorem checked_printSound {l : List (Bool × Answer)} {act : Lane → Lane × Answer} {p : Lane} (h : p.PrintSound)
    (hact : (∀ x ∈ l, x.1 = false) → (act p).1.PrintSound) : (checked l act p).1.PrintSound :=
  checked_keeps (I := fun p => p.PrintSound) h hact

theorem doPrintResume_printSound {p : Lane} (h : p.PrintSound) : (doPrintResume p).1.PrintSound := by
  refine checked_printSound h fun hchecks => ?_
  simp only [List.forall_mem_cons] at hchecks
  obtain ⟨hpaused, -⟩ := hchecks
  have hpaused : p.printer.engine = .paused := by simpa using hpaused
  unfold Lane.resumePrint
  split
  · exact h
  · refine h.of_sale ?_ ?_
    · simp [Lane.endPause, Lane.withPrinter]
    · exact (Lane.endPause_due h.printer hpaused 1).sound_restart

/-! ## PRINT_ABORT (R176) -/

/-- With no slip in the queue there is none to remove; with one, the jobs left are sound with no slip buffer. -/
theorem JobsSound.eraseSlip {queue : List Job} {slip : Option (List Text)} (h : JobsSound queue slip) :
    JobsSound (queue.eraseP Job.isSlip) none where
  room := (List.length_eraseP_le ..).trans h.room
  behind x hx := by
    rcases queue with _ | ⟨a, rest⟩
    · simp at hx
    · by_cases ha : a.isSlip = true
      · rw [List.eraseP_cons_of_pos ha] at hx
        exact h.behind x (List.mem_of_mem_tail hx)
      · rw [List.eraseP_cons_of_neg ha] at hx
        exact h.behind x (List.mem_of_mem_eraseP hx)
  named x hx := h.named x (List.mem_of_mem_eraseP hx)
  slips := by
    have hone : queue.countP Job.isSlip ≤ 1 := by
      rw [h.slips]
      split <;> simp
    have hleft : (queue.eraseP Job.isSlip).countP Job.isSlip = 0 := by
      by_cases hany : ∃ a ∈ queue, a.isSlip = true
      · obtain ⟨a, hmem, hslip⟩ := hany
        obtain ⟨b, l₁, l₂, -, hb, hq, herase⟩ := List.exists_of_eraseP hmem hslip
        rw [hq] at hone
        rw [herase]
        simp only [List.countP_append, List.countP_cons, hb, if_true] at hone ⊢
        omega
      · have hno : ∀ a ∈ queue, ¬a.isSlip = true := fun a ha hs => hany ⟨a, ha, hs⟩
        rw [List.eraseP_of_forall_not hno]
        exact List.countP_eq_zero.mpr hno
    simpa using hleft

/-- The slip found is the head job, or QUEUED behind a head that stays. -/
theorem JobsSound.found {queue : List Job} {slip : Option (List Text)} (h : JobsSound queue slip) {j : Job}
    (hj : queue.find? Job.isSlip = some j) :
    (∃ rest, queue = j :: rest ∧ queue.eraseP Job.isSlip = rest) ∨
      j.state = .queued ∧ ∃ a rest rest', queue = a :: rest ∧ queue.eraseP Job.isSlip = a :: rest' := by
  rcases queue with _ | ⟨a, rest⟩
  · simp at hj
  · by_cases ha : a.isSlip = true
    · rw [List.find?_cons_of_pos ha, Option.some_inj] at hj
      subst hj
      exact .inl ⟨rest, rfl, List.eraseP_cons_of_pos ha⟩
    · rw [List.find?_cons_of_neg ha] at hj
      exact .inr ⟨h.behind j (List.mem_of_find?_eq_some hj), a, rest, _, rfl, List.eraseP_cons_of_neg ha⟩

/-- What the head job's state says of a sound engine. -/
theorem Printer.EngineSound.head_cases {e : Printer} (h : e.EngineSound) {j : Job} {rest : List Job}
    (hq : e.queue = j :: rest) :
    j.state = .queued ∨ (∃ r, j.state = .paused r) ∧ e.engine = .paused ∨
      j.state = .printing ∧ e.engine = .running ∧ e.draining = false := by
  have hhead : ∀ test : JobState → Bool, e.headIs test = test j.state := Printer.headIs_cons hq
  by_cases hqueued : j.state = .queued
  · exact .inl hqueued
  by_cases hpaused : j.state.reason.isSome = true
  · refine .inr (.inl ⟨?_, h.paused.mpr ((hhead _).trans hpaused)⟩)
    rcases hs : j.state with _ | _ | r | _ <;> simp_all [JobState.reason]
  · have hrunning : e.engine = .running := by
      rcases hengine : e.engine with _ | _ | _ | _
      · simp [h.idle hengine] at hq
      · exact absurd ((hhead _).symm.trans (h.feedHead hengine)) (by simp [hqueued])
      · rfl
      · exact absurd ((hhead _).symm.trans (h.paused.mp hengine)) hpaused
    have hdraining : e.draining = false := by
      by_contra hd
      exact absurd ((hhead _).symm.trans (h.drains (by simpa using hd)).2.2) (by simp [hqueued])
    refine .inr (.inr ⟨?_, hrunning, hdraining⟩)
    obtain hd | hprinting := h.running hrunning
    · simp [hd] at hdraining
    · simpa using (hhead _).symm.trans hprinting

@[simp] theorem Lane.freePlace_draining (p : Lane) : p.freePlace.printer.draining = p.printer.draining := by
  unfold Lane.freePlace
  repeat' split
  all_goals rfl

/-- A QUEUED slip leaves the queue: the engine goes on as it was. -/
theorem Lane.removeSlip_queued {p : Lane} (h : p.printer.sound) {j : Job}
    (hj : p.printer.queue.find? Job.isSlip = some j) (hs : j.state = .queued) :
    (p.removeSlip j).printer.sound ∧ (p.removeSlip j).printer.engine ≠ .idle := by
  obtain ⟨hjobs, he⟩ := (Printer.sound_iff _).mp h
  have hidle : p.printer.engine ≠ .idle := fun hi => by simp [he.idle hi] at hj
  have hremove : p.removeSlip j =
      p.withPrinter fun e => { e with queue := e.queue.eraseP Job.isSlip, slip := none } := by
    unfold Lane.removeSlip
    rw [hs]
  rw [hremove]
  refine ⟨(Printer.sound_iff _).mpr ⟨hjobs.eraseSlip, he.requeue (fun hi => absurd hi hidle) ?_ rfl⟩, hidle⟩
  intro test htest
  obtain ⟨rest, hq, herase⟩ | ⟨-, a, rest, rest', hq, herase⟩ := hjobs.found hj
  · rw [Printer.headIs_cons hq, hs, htest]
    refine Printer.headIs_of_queued (fun x hx => hjobs.behind x ?_) htest
    have hx : x ∈ p.printer.queue.eraseP Job.isSlip := hx
    rw [herase] at hx
    rwa [hq]
  · rw [Printer.headIs_cons hq]
    exact Printer.headIs_cons herase test

/-- A slip at work leaves the queue: the rest wait, and what is in flight of it drains. -/
theorem Lane.removeSlip_head {p : Lane} (h : p.printer.sound) {j : Job}
    (hj : p.printer.queue.find? Job.isSlip = some j) (hs : j.state ≠ .queued) :
    (p.removeSlip j).printer.draining = false ∧ (p.removeSlip j).printer.Waiting ∨
      (p.removeSlip j).printer.draining = true ∧ (p.removeSlip j).printer.sound ∧
        (p.removeSlip j).printer.engine ≠ .idle := by
  obtain ⟨hjobs, he⟩ := (Printer.sound_iff _).mp h
  obtain ⟨rest, hq, herase⟩ | ⟨hqueued, -⟩ := hjobs.found hj
  swap
  · exact absurd hqueued hs
  have hwork := (he.head_cases hq).resolve_left hs
  have hremove : (p.removeSlip j).printer =
      { p.printer.clearLine with queue := rest, slip := none, draining := p.printer.inFlight, restartDue := false } := by
    have hstate : (∃ r, j.state = .paused r) ∨ j.state = .printing :=
      hwork.imp (fun hw => hw.1) (fun hw => hw.1)
    unfold Lane.removeSlip
    obtain ⟨r, hr⟩ | hr := hstate
    all_goals
      rw [hr, ← herase]
      rfl
  have hleft : JobsSound rest none := herase ▸ hjobs.eraseSlip
  have hqueued : ∀ x ∈ rest, x.state = .queued := fun x hx => hjobs.behind x (by rwa [hq])
  have hfeed : p.printer.feed = none := by
    obtain ⟨-, hengine⟩ | ⟨-, hengine, -⟩ := hwork
    all_goals exact he.no_feed (by simp [hengine])
  rw [hremove]
  rcases hflight : p.printer.inFlight with _ | _
  · obtain ⟨hfigures, hcut⟩ : p.printer.figures = none ∧ p.printer.cutUntil = none := by
      simpa [Printer.inFlight] using hflight
    exact .inl ⟨rfl, hleft, hqueued, hfigures, hcut, hfeed, rfl, rfl⟩
  · have hmoving : p.printer.figures ≠ none ∨ p.printer.cutUntil ≠ none := by
      simpa [Printer.inFlight, Option.isSome_iff_ne_none] using hflight
    have hrunning : p.printer.engine = .running := by
      obtain hfeeding | ⟨hrunning, -⟩ := he.flight.mp hmoving
      · exact absurd hfeed (he.feeding.mp hfeeding)
      · exact hrunning
    refine .inr ⟨rfl, (Printer.sound_iff _).mpr ⟨hleft, ?_⟩, by simp [Printer.clearLine, hrunning]⟩
    have hhead : ∀ test : JobState → Bool, test .queued = false →
        ({ p.printer.clearLine with queue := rest, slip := none, draining := true, restartDue := false } : Printer).headIs
          test = false := fun test => Printer.headIs_of_queued hqueued
    constructor
    case flight => exact iff_of_true hmoving (.inr ⟨hrunning, rfl⟩)
    case one => exact he.one
    case drains => exact fun _ => ⟨hrunning, rfl, hhead _ (by simp)⟩
    case paused =>
      refine iff_of_false (by simp [Printer.clearLine, hrunning]) ?_
      rw [hhead _ rfl]
      simp
    all_goals simp [Printer.clearLine, hrunning, hfeed]

theorem Lane.afterRemoval_queued {p : Lane} {j : Job} (hs : j.state = .queued) : p.afterRemoval j = p := by
  simp [Lane.afterRemoval, hs]

theorem Lane.afterRemoval_draining {p : Lane} {j : Job} (hd : p.printer.draining = true) : p.afterRemoval j = p := by
  unfold Lane.afterRemoval
  split <;> simp [hd]

theorem Lane.afterRemoval_waiting {p : Lane} {j : Job} (hw : (∃ r, j.state = .paused r) ∨ j.state = .printing)
    (hd : p.printer.draining = false) : p.afterRemoval j = p.startHead := by
  obtain ⟨r, hr⟩ | hr := hw
  all_goals simp [Lane.afterRemoval, hr, hd]

theorem Lane.PrintSound.event {p : Lane} (h : p.PrintSound) (c : Byte) (f : List Field) : (p.event c f).PrintSound :=
  h.congr (by simp) (by simp)

theorem Lane.abortSlip_printSound {p : Lane} (h : p.PrintSound) : p.abortSlip.1.PrintSound := by
  obtain ⟨hjobs, he⟩ := (Printer.sound_iff _).mp h.printer
  unfold Lane.abortSlip
  split
  · exact h
  rename_i j hj
  have hsale : (p.removeSlip j).sale = p.sale := by simp
  have hkept : (p.removeSlip j).printer.sound ∧ (p.removeSlip j).printer.engine ≠ .idle →
      (((p.removeSlip j).freePlace).printAborted j (p.printer.wholeLines j.state)).PrintSound := fun hr =>
    (Lane.freePlace_printSound (h.of_sale hsale hr.1) hr.2).event _ _
  dsimp only
  by_cases hs : j.state = .queued
  · rw [Lane.afterRemoval_queued hs]
    exact hkept (Lane.removeSlip_queued h.printer hj hs)
  obtain ⟨hdraining, hwaiting⟩ | ⟨hdraining, hsound⟩ := Lane.removeSlip_head h.printer hj hs
  · have hback : (p.removeSlip j).sale.backlogSound := by
      rw [hsale]
      exact h.backlog
    obtain ⟨hfree, hrest⟩ := Lane.freePlace_waiting hback hwaiting
    have hwork : (∃ r, j.state = .paused r) ∨ j.state = .printing := by
      obtain ⟨rest, hq, -⟩ | ⟨hqueued, -⟩ := hjobs.found hj
      · exact ((he.head_cases hq).resolve_left hs).imp (fun hw => hw.1) (fun hw => hw.1)
      · exact absurd hqueued hs
    rw [Lane.afterRemoval_waiting hwork (by simpa using hdraining)]
    refine ⟨?_, Lane.startHead_sound ?_⟩
    · simpa using hfree
    · simpa using hrest
  · rw [Lane.afterRemoval_draining (by simpa using hdraining)]
    exact hkept hsound

theorem doPrintAbort_printSound {p : Lane} (h : p.PrintSound) : (doPrintAbort p).1.PrintSound :=
  checked_printSound h fun _ => Lane.abortSlip_printSound h

/-! ## FEED, REPRINT, SLIP and the sale's jobs (R123, R159, R160, R177) -/

theorem doFeed_printSound {p : Lane} (h : p.PrintSound) (rows : Nat) : (doFeed rows p).1.PrintSound := by
  refine checked_printSound h fun hchecks => ?_
  simp only [List.forall_mem_cons] at hchecks
  obtain ⟨-, hidle, -⟩ := hchecks
  have hidle : p.printer.engine = .idle := by simpa using hidle
  obtain ⟨hjobs, he⟩ := (Printer.sound_iff _).mp h.printer
  have hstill := he.still (by simp [hidle]) (by simp [hidle])
  refine h.of_sale rfl ?_
  refine Printer.Feeds.sound_row (e := { p.printer with engine := .feeding, feed := some ⟨rows, 0⟩ }) ?_ _ _
  exact ⟨hjobs, by simp [he.idle hidle], rfl, by simp, hstill.draining, hstill.restart, hstill.cut⟩

theorem doReprint_printSound {p : Lane} (h : p.PrintSound) : (doReprint p).1.PrintSound := by
  refine checked_printSound h fun hchecks => ?_
  simp only [List.forall_mem_cons] at hchecks
  obtain ⟨-, -, hroom, -⟩ := hchecks
  obtain ⟨hjobs, -⟩ := (Printer.sound_iff _).mp h.printer
  unfold Lane.reprint
  split
  · exact h
  · refine ⟨?_, ?_⟩
    · simpa [Sale.backlogSound] using h.backlog
    refine Lane.appendJob_sound (slip := p.printer.slip) ?_ ?_ rfl ?_ (hjobs.slips_append ?_)
    · exact h.printer
    · simpa [Lane.queueFull] using hroom
    · simp [Lane.jobFor]
    · simp [Lane.jobFor]

theorem doSlip_printSound {p : Lane} (h : p.PrintSound) (lines : List Text) : (doSlip lines p).1.PrintSound := by
  refine checked_printSound h fun hchecks => ?_
  simp only [List.forall_mem_cons] at hchecks
  obtain ⟨-, hslip, hroom, -⟩ := hchecks
  obtain ⟨hjobs, -⟩ := (Printer.sound_iff _).mp h.printer
  have hnone : p.printer.slip = none := by simpa using hslip
  refine ⟨?_, ?_⟩
  · simpa using h.backlog
  · refine Lane.appendJob_sound (slip := p.printer.slip) ?_ ?_ rfl (by simp) ?_
    · exact h.printer
    · simpa [Lane.queueFull] using hroom
    · have hcount := hjobs.slips
      simp only [hnone, Option.isSome_none] at hcount
      simpa [Job.isSlip] using hcount

theorem Lane.settle_printSound {p : Lane} (h : p.PrintSound) (i : Fin 6) (by_ : SettledBy) :
    (p.settle i by_).PrintSound := by
  rw [Lane.settle_eq]
  refine (Lane.placeJob_printSound ?_ (.inl rfl) i).event _ _
  split <;> exact h.congr (by simp) (by simp)

theorem doTotal_printSound {p : Lane} (h : p.PrintSound) : (doTotal p).1.PrintSound := by
  refine checked_printSound h fun _ => checked_printSound h fun _ => ?_
  unfold Lane.totalSale
  split
  · exact h
  dsimp only
  split
  · exact h.congr (by simp) (by simp)
  · exact Lane.settle_printSound h _ _

theorem Lane.takeTender_printSound {p : Lane} (h : p.PrintSound) (t : Tender) (by_ : SettledBy) {stay : Lane → Lane}
    (hstay : ∀ q : Lane, q.PrintSound → (stay q).PrintSound) : (p.takeTender t by_ stay).1.PrintSound := by
  unfold Lane.takeTender
  split
  · exact h
  have hset : ∀ i c, (p.setCtx i c).PrintSound := fun i c => h.congr rfl rfl
  dsimp only
  split
  · exact hstay _ (hset _ _)
  · exact Lane.settle_printSound (hset _ _) _ _

theorem doTenderCash_printSound {p : Lane} (h : p.PrintSound) (amount : Int) : (doTenderCash amount p).1.PrintSound := by
  rw [doTenderCash, withTenderReply_fst, Lane.cashTender]
  exact checked_printSound h fun _ => checked_printSound h fun _ => Lane.takeTender_printSound h _ _ fun _ hq => hq

theorem doTenderCard_printSound {p : Lane} (h : p.PrintSound) (n : Nat) (amount cashback : Int) (approval : Text) :
    (doTenderCard n amount cashback approval p).1.PrintSound := by
  rw [doTenderCard, withTenderReply_fst, Lane.cardTender]
  refine checked_printSound h fun _ => checked_printSound h fun _ => ?_
  split
  · exact h
  · refine checked_printSound h fun _ => checked_printSound h fun _ => checked_printSound h fun _ => ?_
    refine Lane.takeTender_printSound ?_ _ _ fun q hq => hq.congr (by simp) (by simp)
    exact h.congr rfl rfl

theorem doCancelSale_printSound {p : Lane} (h : p.PrintSound) : (doCancelSale p).1.PrintSound := by
  refine checked_printSound h fun _ => ?_
  unfold Lane.cancelSale
  split
  · exact h
  refine Lane.placeJob_printSound ?_ (.inr rfl) _
  dsimp only
  split <;> exact h.congr (by simp) (by simp)

/-! ## Resets (R191), and every step -/

/-- An idle engine with no job and nothing in flight. -/
theorem Printer.sound_of_idle {e : Printer} (hq : e.queue = []) (hs : e.slip = none) (hi : e.engine = .idle)
    (h : e.Still) : e.sound := by
  obtain ⟨hfigures, hcut, hfeed, hdraining, hrestart⟩ := h
  refine (Printer.sound_iff _).mpr ⟨?_, ?_⟩
  · constructor <;> simp [hq, hs]
  · constructor <;> simp [Printer.headIs, hq, hi, hfigures, hcut, hfeed, hdraining, hrestart]

theorem Lane.laneReset_printSound (p : Lane) : p.laneReset.PrintSound where
  backlog b hb := by cases hb
  printer := Printer.sound_of_idle rfl rfl rfl ⟨rfl, rfl, rfl, rfl, rfl⟩

theorem Lane.startUp_printSound (i : ResetInputs) (torn : TornRecord) (n : Nat) (clock : Option DateTime)
    (m left : Nat) (p : Lane) : (p.startUp i torn n clock m left).PrintSound where
  backlog b hb := by
    have hnone : (p.startUp i torn n clock m left).sale.backlog = none := by simp [Lane.startUp, Sale.startUp, Sale.reset]
    cases hnone.symm.trans hb
  printer := by
    have hprinter : (p.startUp i torn n clock m left).printer = Printer.startUp n i := by simp [Lane.startUp]
    rw [hprinter]
    exact Printer.read_sound (Printer.sound_of_idle rfl rfl rfl ⟨rfl, rfl, rfl, rfl, rfl⟩) _

theorem serveRequest_printSound (c : Instr) {p : Lane} (h : p.PrintSound) : (serveRequest c p).PrintSound := by
  have hserve : ∀ (act : Lane → Lane × Answer), (act p).1.PrintSound → (p.serve act).PrintSound := fun act hact =>
    hact.congr (by simp [Lane.serve]) (by simp [Lane.serve])
  cases c with
  | total => exact hserve _ (doTotal_printSound h)
  | cancelSale => exact hserve _ (doCancelSale_printSound h)
  | tenderCash _ a => exact hserve _ (doTenderCash_printSound h a)
  | tenderCard _ n a x code => exact hserve _ (doTenderCard_printSound h n a x code)
  | reprint => exact hserve _ (doReprint_printSound h)
  | slip _ lines => exact hserve _ (doSlip_printSound h lines)
  | printResume => exact hserve _ (doPrintResume_printSound h)
  | printAbort => exact hserve _ (doPrintAbort_printSound h)
  | feed _ n => exact hserve _ (doFeed_printSound h n)
  | _ => exact h.congr (by simp [serveRequest, Lane.serve]) (by simp [serveRequest, Lane.serve])

theorem blockEvent_printSound (c : Instr) {p : Lane} (h : p.PrintSound) : (blockEvent c p).PrintSound := by
  cases c with
  | powerOn => exact Lane.startUp_printSound _ _ _ _ _ _ _
  | resetInput => exact Lane.startUp_printSound _ _ _ _ _ _ _
  | dotRowEnd => exact h.of_sale (by simp [blockEvent]) (Lane.rowEnd_sound h.printer)
  | cutEnd => exact Lane.cutEnd_printSound h
  | headTempReading t => exact h.of_sale (by simp [blockEvent]) (Lane.temperatureReading_sound h.printer t)
  | printerSensorChange i => exact h.of_sale (by simp [blockEvent]) (Lane.printerInput_sound h.printer i)
  | printRestart => exact h.of_sale (by simp [blockEvent]) (Lane.printRestart_sound h.printer)
  | _ => exact h.congr (by simp [blockEvent]) (by simp [blockEvent])

theorem print_keptByRequests : KeptByRequests (fun _ => True) Lane.PrintSound where
  behind _ _ _ h := h.congr rfl rfl
  guardBehind _ _ _ h := h
  request c _ _ h := serveRequest_printSound c h
  laneReset p _ _ := Lane.laneReset_printSound p

/-- Settles O58: every request and every event keeps the print engine consistent with its queue, and so every step
does. -/
theorem printerStaysSound : Obligations.PrinterStaysSound := fun _ _ hb he hstep =>
  have h := print_keptByRequests.step (fun c _ => blockEvent_printSound c) hstep (fun _ => trivial) (fun _ => trivial)
    ⟨hb, he⟩
  ⟨h.backlog, h.printer⟩

end Sys2Proof.Machine
end

section
/-! PROOFS. The contexts' roles stay consistent with the suspend stack, the jobs to be printed and the pending capture
(R2, R10, R17, R23, R47, R123, R159). -/

namespace Sys2Proof.Machine

/-! ## The figures the roles are about, apart from the rest of the part -/

/-- Six contexts fit a suspend stack, the contexts of the receipts and void slips and of the copies to be printed, the
context of the pending capture, and whether the number of a BEGIN is being written. -/
structure RolesOf (ctx : Fin 6 → Context) (stack receipts copies : List (Fin 6)) (capture : Option (Fin 6))
    (writes : Bool) : Prop where
  fits : ∀ i, (ctx i).fitsRole
  oneCurrent : ∀ i j, (ctx i).role = .current → (ctx j).role = .current → i = j
  oneLast : ∀ i j, (ctx i).role = .lastPrinted → (ctx j).role = .lastPrinted → i = j
  stackNodup : stack.Nodup
  stackRoom : stack.length ≤ 3
  stackRole : ∀ i, i ∈ stack ↔ (ctx i).role = .suspended
  receiptsNodup : receipts.Nodup
  receiptsRole : ∀ i ∈ receipts, (ctx i).role = .printHeld ∧ (ctx i).pin = 0
  copiesNodup : copies.Nodup
  copiesRole : ∀ i ∈ copies, ((ctx i).role = .printHeld ∨ (ctx i).role = .lastPrinted) ∧ (ctx i).pin = 1
  captured : ∀ i ∈ capture, (ctx i).role = .current ∧ (ctx i).saleState = some .opened
  written : writes = true → ∀ i, (ctx i).role ≠ .current

namespace RolesOf

variable {ctx : Fin 6 → Context} {stack receipts copies : List (Fin 6)} {capture : Option (Fin 6)} {writes : Bool}

/-- A context changed, and with it the suspend stack. -/
theorem setWithStack (h : RolesOf ctx stack receipts copies capture writes) (i : Fin 6) (x : Context)
    {stack' : List (Fin 6)} (hfits : x.fitsRole)
    (hcurrent : x.role = .current → (∀ j, (ctx j).role = .current → j = i) ∧ writes = false)
    (hlast : x.role = .lastPrinted → ∀ j, (ctx j).role = .lastPrinted → j = i)
    (hnodup : stack'.Nodup) (hroom : stack'.length ≤ 3)
    (hstack : ∀ j, j ∈ stack' ↔ if j = i then x.role = .suspended else j ∈ stack)
    (hreceipt : i ∈ receipts → x.role = .printHeld ∧ x.pin = 0)
    (hcopy : i ∈ copies → (x.role = .printHeld ∨ x.role = .lastPrinted) ∧ x.pin = 1)
    (hcapture : capture = some i → x.role = .current ∧ x.saleState = some .opened) :
    RolesOf (Function.update ctx i x) stack' receipts copies capture writes where
  fits j := by
    rw [Function.update_apply]
    split
    · exact hfits
    · exact h.fits j
  oneCurrent j k hj hk := by
    rw [Function.update_apply] at hj hk
    split at hj
    · rename_i hji
      split at hk
      · rename_i hki
        rw [hji, hki]
      · rw [hji, (hcurrent hj).1 k hk]
    · split at hk
      · rename_i hki
        rw [hki, (hcurrent hk).1 j hj]
      · exact h.oneCurrent j k hj hk
  oneLast j k hj hk := by
    rw [Function.update_apply] at hj hk
    split at hj
    · rename_i hji
      split at hk
      · rename_i hki
        rw [hji, hki]
      · rw [hji, hlast hj k hk]
    · split at hk
      · rename_i hki
        rw [hki, hlast hk j hj]
      · exact h.oneLast j k hj hk
  stackNodup := hnodup
  stackRoom := hroom
  stackRole j := by
    rw [hstack, Function.update_apply]
    split
    · rfl
    · exact h.stackRole j
  receiptsNodup := h.receiptsNodup
  receiptsRole j hj := by
    rw [Function.update_apply]
    split
    · rename_i hji
      exact hreceipt (hji ▸ hj)
    · exact h.receiptsRole j hj
  copiesNodup := h.copiesNodup
  copiesRole j hj := by
    rw [Function.update_apply]
    split
    · rename_i hji
      exact hcopy (hji ▸ hj)
    · exact h.copiesRole j hj
  captured j hj := by
    rw [Function.update_apply]
    split
    · rename_i hji
      exact hcapture (hji ▸ hj)
    · exact h.captured j hj
  written hw j := by
    rw [Function.update_apply]
    split
    · intro hx
      simp [(hcurrent hx).2] at hw
    · exact h.written hw j

/-- A context changed that neither enters nor leaves the suspend stack. -/
theorem set (h : RolesOf ctx stack receipts copies capture writes) (i : Fin 6) (x : Context) (hfits : x.fitsRole)
    (hcurrent : x.role = .current → (∀ j, (ctx j).role = .current → j = i) ∧ writes = false)
    (hlast : x.role = .lastPrinted → ∀ j, (ctx j).role = .lastPrinted → j = i)
    (hsuspended : x.role = .suspended ↔ (ctx i).role = .suspended)
    (hreceipt : i ∈ receipts → x.role = .printHeld ∧ x.pin = 0)
    (hcopy : i ∈ copies → (x.role = .printHeld ∨ x.role = .lastPrinted) ∧ x.pin = 1)
    (hcapture : capture = some i → x.role = .current ∧ x.saleState = some .opened) :
    RolesOf (Function.update ctx i x) stack receipts copies capture writes := by
  refine h.setWithStack i x hfits hcurrent hlast h.stackNodup h.stackRoom (fun j => ?_) hreceipt hcopy hcapture
  split
  · rename_i hji
    rw [hji, hsuspended]
    exact h.stackRole i
  · rfl

/-- Other jobs to be printed. -/
theorem withJobs (h : RolesOf ctx stack receipts copies capture writes) {receipts' copies' : List (Fin 6)}
    (hr : receipts'.Nodup) (hrole : ∀ i ∈ receipts', (ctx i).role = .printHeld ∧ (ctx i).pin = 0)
    (hc : copies'.Nodup)
    (hcrole : ∀ i ∈ copies', ((ctx i).role = .printHeld ∨ (ctx i).role = .lastPrinted) ∧ (ctx i).pin = 1) :
    RolesOf ctx stack receipts' copies' capture writes :=
  { h with receiptsNodup := hr, receiptsRole := hrole, copiesNodup := hc, copiesRole := hcrole }

/-- Fewer jobs to be printed. -/
theorem fewerJobs (h : RolesOf ctx stack receipts copies capture writes) {receipts' copies' : List (Fin 6)}
    (hr : receipts'.Sublist receipts) (hc : copies'.Sublist copies) :
    RolesOf ctx stack receipts' copies' capture writes :=
  h.withJobs (h.receiptsNodup.sublist hr) (fun i hi => h.receiptsRole i (hr.subset hi)) (h.copiesNodup.sublist hc)
    fun i hi => h.copiesRole i (hc.subset hi)

theorem withCapture (h : RolesOf ctx stack receipts copies capture writes) {capture' : Option (Fin 6)}
    (hc : ∀ i ∈ capture', (ctx i).role = .current ∧ (ctx i).saleState = some .opened) :
    RolesOf ctx stack receipts copies capture' writes :=
  { h with captured := hc }

theorem withWrites (h : RolesOf ctx stack receipts copies capture writes) {writes' : Bool}
    (hw : writes' = true → ∀ i, (ctx i).role ≠ .current) : RolesOf ctx stack receipts copies capture writes' :=
  { h with written := hw }

end RolesOf

/-! ## The jobs that name contexts (R123, R159, R164) -/

/-- The contexts of a queue's receipts and void slips. -/
def receiptsOf (queue : List Job) : List (Fin 6) :=
  queue.filterMap fun j => if j.kind = .receipt ∨ j.kind = .voidSlip then j.context else none

/-- The contexts of a queue's copies. -/
def copiesOf (queue : List Job) : List (Fin 6) :=
  queue.filterMap fun j => if j.kind = .copy then j.context else none

theorem Lane.receiptContexts_eq (p : Lane) :
    p.receiptContexts = receiptsOf p.printer.queue ++ (p.sale.backlog.map BacklogJob.context).toList := rfl

theorem Lane.copyContexts_eq (p : Lane) : p.copyContexts = copiesOf p.printer.queue := rfl

theorem receiptsOf_congr {q q' : List Job} (h : q'.map Job.named = q.map Job.named) : receiptsOf q' = receiptsOf q := by
  have hnamed : ∀ l : List Job, receiptsOf l = (l.map Job.named).filterMap fun n =>
      if n.1 = .receipt ∨ n.1 = .voidSlip then n.2.1 else none := fun l => by
    rw [List.filterMap_map]
    rfl
  rw [hnamed, hnamed, h]

theorem copiesOf_congr {q q' : List Job} (h : q'.map Job.named = q.map Job.named) : copiesOf q' = copiesOf q := by
  have hnamed : ∀ l : List Job, copiesOf l = (l.map Job.named).filterMap fun n =>
      if n.1 = .copy then n.2.1 else none := fun l => by
    rw [List.filterMap_map]
    rfl
  rw [hnamed, hnamed, h]

theorem receiptsOf_append (q : List Job) (j : Job) :
    receiptsOf (q ++ [j]) = receiptsOf q ++ (if j.kind = .receipt ∨ j.kind = .voidSlip then j.context else none).toList := by
  simp only [receiptsOf, List.filterMap_append, List.filterMap_cons, List.filterMap_nil]
  split <;> simp_all

theorem copiesOf_append (q : List Job) (j : Job) :
    copiesOf (q ++ [j]) = copiesOf q ++ (if j.kind = .copy then j.context else none).toList := by
  simp only [copiesOf, List.filterMap_append, List.filterMap_cons, List.filterMap_nil]
  split <;> simp_all

/-! ## The part's roles -/

/-- The settlement backlog and the roles are sound. -/
structure Lane.RolesHeld (p : Lane) : Prop where
  backlog : p.sale.backlogSound
  roles : RolesOf (fun i => p.ctx i) p.sale.stack p.receiptContexts p.copyContexts (p.scale.capture.map Capture.context)
    p.store.writesNumber

theorem Lane.rolesHeld_iff (p : Lane) : p.RolesHeld ↔ p.sale.backlogSound ∧ p.rolesSound := by
  constructor
  · rintro ⟨hb, ⟨h1, h2, h3, h4, h5, h6, h7, h8, h9, h10, h11, h12⟩⟩
    exact ⟨hb, h1, h2, h3, h4, h5, h6, h7, h8, h9, h10, by simpa using h11, h12⟩
  · rintro ⟨hb, h1, h2, h3, h4, h5, h6, h7, h8, h9, h10, h11, h12⟩
    exact ⟨hb, ⟨h1, h2, h3, h4, h5, h6, h7, h8, h9, h10, by simpa using h11, h12⟩⟩

/-- A part whose contexts, stack, backlog, jobs and capture are those of another, and which writes no number if the other
writes none. -/
structure Lane.SameRoles (p q : Lane) : Prop where
  ctx : ∀ i, q.ctx i = p.ctx i
  stack : q.sale.stack = p.sale.stack
  backlog : q.sale.backlog = p.sale.backlog
  jobs : q.printer.queue.map Job.named = p.printer.queue.map Job.named
  capture : q.scale.capture.map Capture.context = p.scale.capture.map Capture.context
  writes : q.store.writesNumber = true → p.store.writesNumber = true

theorem Lane.RolesHeld.same {p q : Lane} (h : p.RolesHeld) (hs : p.SameRoles q) : q.RolesHeld := by
  obtain ⟨hctx, hstack, hbacklog, hjobs, hcapture, hwrites⟩ := hs
  refine ⟨?_, ?_⟩
  · rw [Sale.backlogSound, hbacklog]
    exact h.backlog
  · have hroles := h.roles.withWrites fun hw => h.roles.written (hwrites hw)
    rw [Lane.receiptContexts_eq, Lane.copyContexts_eq] at hroles ⊢
    rw [receiptsOf_congr hjobs, copiesOf_congr hjobs, hcapture, hbacklog, hstack]
    simpa only [hctx] using hroles

theorem Lane.RolesHeld.frame {p q : Lane} (h : p.RolesHeld) (hs : q.sale = p.sale)
    (hj : q.printer.queue.map Job.named = p.printer.queue.map Job.named) (hc : q.scale.capture = p.scale.capture)
    (hw : q.store.writesNumber = p.store.writesNumber) : q.RolesHeld :=
  h.same ⟨Lane.ctx_of_sale hs, by rw [hs], by rw [hs], hj, by rw [hc], by simp [hw]⟩

theorem Lane.ctx_setCtx_update (p : Lane) (i : Fin 6) (x : Context) :
    (fun j => (p.setCtx i x).ctx j) = Function.update (fun j => p.ctx j) i x := by
  funext j
  rw [Function.update_apply, Lane.ctx_setCtx]
  exact ite_congr (propext eq_comm) (fun _ => rfl) fun _ => rfl

theorem Lane.RolesHeld.setCtx {p : Lane} (h : p.RolesHeld) (i : Fin 6) (x : Context)
    (hroles : RolesOf (Function.update (fun j => p.ctx j) i x) p.sale.stack p.receiptContexts p.copyContexts
      (p.scale.capture.map Capture.context) p.store.writesNumber) : (p.setCtx i x).RolesHeld where
  backlog := h.backlog
  roles := by
    rw [Lane.ctx_setCtx_update]
    exact hroles

/-- A context that is not FREE keeps its role, its state and its pin. -/
theorem Lane.RolesHeld.setSame {p : Lane} (h : p.RolesHeld) (i : Fin 6) {x : Context} (hrole : x.role = (p.ctx i).role)
    (hstate : x.saleState = (p.ctx i).saleState) (hpin : x.pin = (p.ctx i).pin) (hfree : (p.ctx i).role ≠ .free) :
    (p.setCtx i x).RolesHeld := by
  have hr := h.roles
  refine h.setCtx i x (hr.set i x ?_ ?_ ?_ ?_ ?_ ?_ ?_)
  · have hfits := hr.fits i
    rw [Context.fitsRole] at hfits ⊢
    rw [hrole, hstate, hpin]
    exact ⟨fun hf => absurd hf hfree, hfits.2⟩
  · intro hx
    rw [hrole] at hx
    refine ⟨fun j hj => hr.oneCurrent j i hj hx, ?_⟩
    by_contra hw
    exact hr.written (by simpa using hw) i hx
  · intro hx j hj
    rw [hrole] at hx
    exact hr.oneLast j i hj hx
  · rw [hrole]
  · rw [hrole, hpin]
    exact hr.receiptsRole i
  · rw [hrole, hpin]
    exact hr.copiesRole i
  · rw [hrole, hstate]
    exact hr.captured i

/-- A context that no job names and that is not CURRENT becomes FREE. -/
theorem Lane.RolesHeld.freeCtx {p : Lane} (h : p.RolesHeld) {i : Fin 6} (hr : i ∉ p.receiptContexts)
    (hc : i ∉ p.copyContexts) (hcur : (p.ctx i).role ≠ .current) : (p.freeCtx i).RolesHeld where
  backlog := h.backlog
  roles := by
    have hroles := h.roles
    have hctx : (fun j => (p.freeCtx i).ctx j) = Function.update (fun j => p.ctx j) i Context.freed :=
      Lane.ctx_setCtx_update p i Context.freed
    rw [hctx]
    refine hroles.setWithStack i Context.freed (by decide) (by simp [Context.freed]) (by simp [Context.freed]) ?_ ?_ ?_
      (fun hi => absurd hi hr) (fun hi => absurd hi hc) (fun hi => absurd (hroles.captured i hi).1 hcur)
    · exact hroles.stackNodup.filter _
    · exact (List.length_filter_le _ _).trans hroles.stackRoom
    · intro j
      by_cases hj : j = i
      · simp [Lane.freeCtx, hj, Context.freed]
      · simp [Lane.freeCtx, Lane.setCtx, hj]

/-- Only a PRINT_HELD or LAST_PRINTED context is named by a job. -/
theorem Lane.RolesHeld.not_named {p : Lane} (h : p.RolesHeld) {i : Fin 6} (hp : (p.ctx i).role ≠ .printHeld)
    (hl : (p.ctx i).role ≠ .lastPrinted) : i ∉ p.receiptContexts ∧ i ∉ p.copyContexts :=
  ⟨fun hi => hp (h.roles.receiptsRole i hi).1, fun hi => (h.roles.copiesRole i hi).1.elim hp hl⟩

theorem Lane.role_ne_of_firstOf_none {p : Lane} {r : Role} (h : p.firstOf r = none) (i : Fin 6) : (p.ctx i).role ≠ r := by
  have hno := List.find?_eq_none.mp h i (by fin_cases i <;> simp [contextNumbers])
  simpa using hno

/-! ## Jobs placed and ended (R23, R123, R174) -/

/-- A context that becomes PRINT_HELD, closed, with its receipt or void slip placed. -/
theorem Lane.RolesHeld.placeJob {p : Lane} (h : p.RolesHeld) {k : JobKind} (hk : k = .receipt ∨ k = .voidSlip)
    {i : Fin 6} (hi : (p.ctx i).role = .printHeld ∧ (p.ctx i).pin = 0) (hnew : i ∉ p.receiptContexts) :
    (p.placeJob k i).RolesHeld := by
  obtain ⟨-, -, hsale, hfull, hroom⟩ := Lane.placeJob_cases k i p
  have hcopy : k ≠ .copy := by rcases hk with rfl | rfl <;> simp
  have hroles := h.roles
  by_cases hlength : 4 ≤ p.printer.queue.length
  · rw [hfull hlength]
    refine ⟨?_, ?_⟩
    · rintro b ⟨⟩
      exact hk
    · refine hroles.withJobs ?_ ?_ hroles.copiesNodup hroles.copiesRole
      · have hnodup := (List.nodup_append.mp hroles.receiptsNodup).1
        rw [Lane.receiptContexts_eq] at hnew ⊢
        simp only [List.mem_append, not_or] at hnew
        exact (List.perm_append_singleton i _).nodup_iff.mpr (List.nodup_cons.mpr ⟨hnew.1, hnodup⟩)
      · intro j hj
        rw [Lane.receiptContexts_eq, List.mem_append] at hj
        obtain hj | hj := hj
        · exact hroles.receiptsRole j (by simp [Lane.receiptContexts_eq, hj])
        · have hj : j = i := by simpa using hj
          rw [hj]
          exact hi
  · obtain ⟨hjobs, hsale, -⟩ := hroom (by omega)
    have hqueue : (p.placeJob k i).printer.queue.map Job.named = (p.printer.queue ++ [p.jobFor k i]).map Job.named := by
      rw [hjobs]
      simp [Job.named, Lane.jobFor]
    have hreceipts : (p.placeJob k i).receiptContexts.Perm (i :: p.receiptContexts) := by
      rw [Lane.receiptContexts_eq, receiptsOf_congr hqueue, receiptsOf_append, hsale]
      have hadd : (if (p.jobFor k i).kind = .receipt ∨ (p.jobFor k i).kind = .voidSlip then (p.jobFor k i).context
          else none).toList = [i] := by simp [Lane.jobFor, hk]
      rw [hadd, List.append_assoc]
      exact List.perm_middle
    have hcopies : (p.placeJob k i).copyContexts = p.copyContexts := by
      rw [Lane.copyContexts_eq, copiesOf_congr hqueue, copiesOf_append]
      simp [Lane.jobFor, hcopy, Lane.copyContexts_eq]
    refine ⟨hsale ▸ h.backlog, ?_⟩
    have hnext := hroles.withJobs (receipts' := (p.placeJob k i).receiptContexts) ?_ ?_ hroles.copiesNodup hroles.copiesRole
    · have hctx : ∀ j, (p.placeJob k i).ctx j = p.ctx j := Lane.ctx_of_sale hsale
      simpa only [hcopies, hctx, hsale, Lane.placeJob_frame] using hnext
    · exact hreceipts.nodup_iff.mpr (List.nodup_cons.mpr ⟨hnew, hroles.receiptsNodup⟩)
    · intro j hj
      obtain rfl | hj := List.mem_cons.mp (hreceipts.mem_iff.mp hj)
      · exact hi
      · exact hroles.receiptsRole j hj

theorem Lane.RolesHeld.freePlace {p : Lane} (h : p.RolesHeld) : p.freePlace.RolesHeld := by
  have hroles := h.roles
  unfold Lane.freePlace
  split
  · exact h
  rename_i b hbacklog
  split
  · exact h
  have hk := h.backlog b hbacklog
  have hcopy : b.kind ≠ .copy := by rcases hk with hk | hk <;> simp [hk]
  refine ⟨by simp [Sale.backlogSound], ?_⟩
  have hreceipts : receiptsOf (p.printer.queue ++ [p.jobFor b.kind b.context]) = p.receiptContexts := by
    rw [receiptsOf_append, Lane.receiptContexts_eq, hbacklog]
    simp [Lane.jobFor, hk]
  have hcopies : copiesOf (p.printer.queue ++ [p.jobFor b.kind b.context]) = p.copyContexts := by
    rw [copiesOf_append, Lane.copyContexts_eq]
    simp [Lane.jobFor, hcopy]
  refine RolesOf.fewerJobs (receipts := p.receiptContexts) (copies := p.copyContexts) ?_ ?_ ?_
  · exact hroles
  · rw [← hreceipts, Lane.receiptContexts_eq]
    simp [Lane.enqueue, Lane.withPrinter]
  · rw [← hcopies, Lane.copyContexts_eq]
    simp [Lane.enqueue, Lane.withPrinter]

/-- With no job for it, the LAST_PRINTED context is retired: none is LAST_PRINTED any more, a PRINT_HELD one stays. -/
theorem Lane.RolesHeld.retireLastPrinted {p : Lane} (h : p.RolesHeld) :
    p.retireLastPrinted.RolesHeld ∧ (∀ i, (p.retireLastPrinted.ctx i).role ≠ .lastPrinted) ∧
      ∀ i, (p.ctx i).role = .printHeld → p.retireLastPrinted.ctx i = p.ctx i := by
  have hroles := h.roles
  unfold Lane.retireLastPrinted
  split
  · rename_i hnone
    exact ⟨h, Lane.role_ne_of_firstOf_none hnone, fun _ _ => rfl⟩
  rename_i l hl
  have hrole : (p.ctx l).role = .lastPrinted := Lane.firstOf_role hl
  have hreceipt : l ∉ p.receiptContexts := fun hi => by
    simpa [hrole] using hroles.receiptsRole l hi
  have hother : ∀ (x : Context), x.role ≠ .lastPrinted → ∀ i, ((p.setCtx l x).ctx i).role ≠ .lastPrinted := by
    intro x hx i
    rw [Lane.ctx_setCtx]
    split
    · exact hx
    · rename_i hli
      exact fun hi => hli (hroles.oneLast l i hrole hi)
  have hkept : ∀ (x : Context) i, (p.ctx i).role = .printHeld → (p.setCtx l x).ctx i = p.ctx i := by
    intro x i hi
    rw [Lane.ctx_setCtx, if_neg]
    rintro rfl
    simp [hrole] at hi
  split
  · rename_i hpin
    refine ⟨h.freeCtx hreceipt ?_ (by simp [hrole]), ?_, ?_⟩
    · intro hi
      have hone := (hroles.copiesRole l hi).2
      simp [hpin] at hone
    · exact hother Context.freed (by simp [Context.freed])
    · exact hkept Context.freed
  · rename_i hpin
    refine ⟨h.setCtx l _ (hroles.set l _ ?_ ?_ ?_ ?_ ?_ ?_ ?_), hother _ (by simp), hkept _⟩
    · have hfits := (hroles.fits l).2.2.2 (.inr hrole)
      exact ⟨by simp, by simp, by simp, fun _ => hfits⟩
    · simp
    · simp
    · simp [hrole]
    · exact fun hi => absurd hi hreceipt
    · exact fun hi => ⟨.inl rfl, (hroles.copiesRole l hi).2⟩
    · intro hi
      have hcur := (hroles.captured l hi).1
      simp [hrole] at hcur

theorem Lane.RolesHeld.receiptEnd {p : Lane} (h : p.RolesHeld) {i : Fin 6}
    (hi : (p.ctx i).role = .printHeld ∧ (p.ctx i).pin = 0) (hnew : i ∉ p.receiptContexts) :
    (p.receiptEnd i).RolesHeld := by
  obtain ⟨hretired, hnone, hkept⟩ := h.retireLastPrinted
  have hroles := hretired.roles
  have hctx := hkept i hi.1
  have hreceipts : p.retireLastPrinted.receiptContexts = p.receiptContexts := by
    unfold Lane.retireLastPrinted
    split
    · rfl
    · split <;> rfl
  refine hretired.setCtx i _ (hroles.set i _ ?_ ?_ ?_ ?_ ?_ ?_ ?_)
  · have hfits := (h.roles.fits i).2.2.2 (.inl hi.1)
    rw [hctx]
    exact ⟨by simp, by simp, by simp, fun _ => hfits⟩
  · simp
  · exact fun _ j hj => absurd hj (hnone j)
  · simp [hctx, hi.1]
  · exact fun hin => absurd (hreceipts ▸ hin) hnew
  · intro hin
    have hone := (hroles.copiesRole i hin).2
    simp [hctx, hi.2] at hone
  · intro hcap
    have hcur := (hroles.captured i hcap).1
    simp [hctx, hi.1] at hcur

theorem Lane.RolesHeld.copyEnd {p : Lane} (h : p.RolesHeld) {i : Fin 6}
    (hi : ((p.ctx i).role = .printHeld ∨ (p.ctx i).role = .lastPrinted) ∧ (p.ctx i).pin = 1)
    (hnew : i ∉ p.copyContexts) : (p.copyEnd i).RolesHeld := by
  have hroles := h.roles
  have hcur : (p.ctx i).role ≠ .current := by
    rcases hi.1 with hr | hr <;> simp [hr]
  have hreceipt : i ∉ p.receiptContexts := by
    intro hin
    have hzero := (hroles.receiptsRole i hin).2
    simp [hi.2] at hzero
  have hset : (p.setCtx i { p.ctx i with pin := 0 }).RolesHeld := by
    refine h.setCtx i _ (hroles.set i _ ?_ ?_ ?_ Iff.rfl ?_ ?_ ?_)
    · obtain ⟨hstate, -⟩ := (hroles.fits i).2.2.2 hi.1
      refine ⟨fun hf => ?_, fun hc => absurd hc hcur, fun hs => ?_, fun _ => ⟨hstate, Nat.zero_le 1⟩⟩
      · rcases hi.1 with hr | hr <;> simp [hr] at hf
      · rcases hi.1 with hr | hr <;> simp [hr] at hs
    · exact fun hc => absurd hc hcur
    · exact fun hl j hj => hroles.oneLast j i hj hl
    · exact fun hin => absurd hin hreceipt
    · exact fun hin => absurd hin hnew
    · exact fun hcap => absurd (hroles.captured i hcap).1 hcur
  unfold Lane.copyEnd
  dsimp only
  split
  · refine hset.freeCtx ?_ ?_ ?_
    · exact hreceipt
    · exact hnew
    · simpa using hcur
  · exact hset

/-- The end of the head job, out of the queue, is reported. -/
theorem Lane.RolesHeld.jobReport {p : Lane} (h : p.RolesHeld) {j : Job}
    (hreceipt : ∀ i, j.kind = .receipt ∨ j.kind = .voidSlip → j.context = some i →
      ((p.ctx i).role = .printHeld ∧ (p.ctx i).pin = 0) ∧ i ∉ p.receiptContexts)
    (hcopy : ∀ i, j.kind = .copy → j.context = some i →
      (((p.ctx i).role = .printHeld ∨ (p.ctx i).role = .lastPrinted) ∧ (p.ctx i).pin = 1) ∧ i ∉ p.copyContexts) :
    (p.jobReport j).RolesHeld := by
  unfold Lane.jobReport
  split
  · rename_i i hk hc
    obtain ⟨hi, hnew⟩ := hreceipt i (.inl hk) hc
    exact h.receiptEnd hi hnew
  · rename_i i hk hc
    obtain ⟨hi, hnew⟩ := hreceipt i (.inr hk) hc
    exact h.receiptEnd hi hnew
  · rename_i i hk hc
    obtain ⟨hi, hnew⟩ := hcopy i hk hc
    exact h.copyEnd hi hnew
  · exact h.frame rfl rfl rfl rfl

theorem Lane.RolesHeld.startHead {p : Lane} (h : p.RolesHeld) : p.startHead.RolesHeld :=
  h.frame (Lane.startsTo_startHead p).sale (Lane.startsTo_startHead p).jobs (by simp) (by simp)

theorem Lane.RolesHeld.jobEnd {p : Lane} (h : p.RolesHeld) : p.jobEnd.RolesHeld := by
  unfold Lane.jobEnd
  split
  · exact h
  rename_i j hhead
  obtain ⟨rest, hq⟩ := List.head?_eq_some_iff.mp hhead
  have hroles := h.roles
  have hreceipts : p.receiptContexts = (if j.kind = .receipt ∨ j.kind = .voidSlip then j.context else none).toList ++
      (p.withPrinter fun e => { e.clearLine with queue := e.queue.tail }).receiptContexts := by
    rw [Lane.receiptContexts_eq, Lane.receiptContexts_eq, ← List.append_assoc, hq]
    simp only [receiptsOf, Lane.withPrinter, hq, List.filterMap_cons, List.tail_cons]
    split <;> simp_all
  have hcopies : p.copyContexts = (if j.kind = .copy then j.context else none).toList ++
      (p.withPrinter fun e => { e.clearLine with queue := e.queue.tail }).copyContexts := by
    rw [Lane.copyContexts_eq, Lane.copyContexts_eq, hq]
    simp only [copiesOf, Lane.withPrinter, hq, List.filterMap_cons, List.tail_cons]
    split <;> simp_all
  have hleft : (p.withPrinter fun e => { e.clearLine with queue := e.queue.tail }).RolesHeld := by
    refine ⟨h.backlog, RolesOf.fewerJobs hroles ?_ ?_⟩
    · rw [hreceipts]
      exact List.sublist_append_right _ _
    · rw [hcopies]
      exact List.sublist_append_right _ _
  refine startHead (frame (p := Lane.freePlace _) (freePlace (hleft.jobReport ?_ ?_)) rfl rfl rfl rfl)
  · intro i hk hc
    rw [if_pos hk, hc] at hreceipts
    refine ⟨hroles.receiptsRole i (by simp [hreceipts]), ?_⟩
    have hnodup := hroles.receiptsNodup
    rw [hreceipts] at hnodup
    exact (List.nodup_cons.mp hnodup).1
  · intro i hk hc
    rw [if_pos hk, hc] at hcopies
    refine ⟨hroles.copiesRole i (by simp [hcopies]), ?_⟩
    have hnodup := hroles.copiesNodup
    rw [hcopies] at hnodup
    exact (List.nodup_cons.mp hnodup).1

end Sys2Proof.Machine
end

section
/-! PROOFS. Every step keeps the contexts' roles (R2, R10, R17, R23, R47, R123, R159). -/

namespace Sys2Proof.Machine

/-! ## Who leaves the jobs' kinds and contexts, and who starts no write of a number -/

@[simp] theorem Lane.pauseHead_jobs (r : PauseReason) (p : Lane) :
    (p.pauseHead r).printer.queue.map Job.named = p.printer.queue.map Job.named := by
  unfold Lane.pauseHead
  split
  · rfl
  · exact Printer.jobs_setHead _ _

@[simp] theorem Lane.startRow_jobs (p : Lane) : p.startRow.printer.queue.map Job.named = p.printer.queue.map Job.named :=
  (Lane.startsTo_startRow p).jobs

@[simp] theorem Lane.nextLine_jobs (j : Job) (p : Lane) :
    (p.nextLine j).printer.queue.map Job.named = p.printer.queue.map Job.named :=
  (Lane.startsTo_nextLine j p).jobs

@[simp] theorem Lane.startHead_jobs (p : Lane) :
    p.startHead.printer.queue.map Job.named = p.printer.queue.map Job.named :=
  (Lane.startsTo_startHead p).jobs

@[simp] theorem Lane.startCut_jobs (p : Lane) : p.startCut.printer.queue.map Job.named = p.printer.queue.map Job.named := by
  unfold Lane.startCut
  dsimp only
  split
  · exact Lane.pauseHead_jobs _ _
  split
  · exact Lane.pauseHead_jobs _ _
  · rfl

@[simp] theorem Lane.restartHead_jobs (p : Lane) :
    p.restartHead.printer.queue.map Job.named = p.printer.queue.map Job.named := by
  unfold Lane.restartHead
  split <;> simp

@[simp] theorem Lane.endPause_jobs (cause : Nat) (p : Lane) :
    (p.endPause cause).printer.queue.map Job.named = p.printer.queue.map Job.named :=
  Printer.jobs_setHead .printing p.printer

@[simp] theorem Lane.drained_jobs (p : Lane) : p.drained.printer.queue.map Job.named = p.printer.queue.map Job.named :=
  Lane.startHead_jobs _

@[simp] theorem Lane.feedRowEnd_jobs (f : Feed) (p : Lane) :
    (p.feedRowEnd f).printer.queue.map Job.named = p.printer.queue.map Job.named := by
  have hend : ∀ (fed : Nat) (stopped : Option PauseReason) (q : Lane),
      (q.feedEnd fed stopped).printer.queue.map Job.named = q.printer.queue.map Job.named :=
    fun _ _ _ => Lane.startHead_jobs _
  unfold Lane.feedRowEnd
  dsimp only
  repeat' split
  · exact hend _ _ _
  · exact hend _ _ _
  · exact hend _ _ _
  · rfl

@[simp] theorem Lane.jobRowEnd_jobs (p : Lane) : p.jobRowEnd.printer.queue.map Job.named = p.printer.queue.map Job.named := by
  unfold Lane.jobRowEnd
  split
  · split
    · exact Lane.startRow_jobs _
    · simp
  · dsimp only
    split
    · exact Lane.startRow_jobs _
    · exact Lane.startCut_jobs _
  · rfl

@[simp] theorem Lane.rowEnd_jobs (p : Lane) : p.rowEnd.printer.queue.map Job.named = p.printer.queue.map Job.named := by
  unfold Lane.rowEnd
  split
  · rfl
  · dsimp only
    split
    · exact Lane.drained_jobs _
    · exact Lane.feedRowEnd_jobs _ _
    · exact Lane.jobRowEnd_jobs _

@[simp] theorem Lane.temperatureReading_jobs (t : Int) (p : Lane) :
    (p.temperatureReading t).printer.queue.map Job.named = p.printer.queue.map Job.named := by
  have hread : (p.printer.read t).queue = p.printer.queue := by
    unfold Printer.read
    split <;> rfl
  unfold Lane.temperatureReading
  dsimp only
  split
  · rw [Lane.restartHead_jobs, Lane.endPause_jobs]
    exact congrArg _ hread
  · exact congrArg _ hread

@[simp] theorem Lane.printerInput_jobs (i : PrinterInput) (p : Lane) :
    (p.printerInput i).printer.queue.map Job.named = p.printer.queue.map Job.named := by
  unfold Lane.printerInput
  split
  case h_2 =>
    dsimp only
    split <;> rfl
  all_goals rfl

@[simp] theorem Lane.printRestart_jobs (p : Lane) :
    p.printRestart.printer.queue.map Job.named = p.printer.queue.map Job.named := by
  unfold Lane.printRestart
  split
  · exact Lane.restartHead_jobs _
  · rfl

/-! ## Sales: opened, carried on, suspended, closed -/

namespace Lane.RolesHeld

variable {p : Lane}

theorem checked {l : List (Bool × Answer)} {act : Lane → Lane × Answer} (h : p.RolesHeld)
    (hact : (∀ x ∈ l, x.1 = false) → (act p).1.RolesHeld) : (Machine.checked l act p).1.RolesHeld :=
  checked_keeps (I := Lane.RolesHeld) h hact

/-- A CURRENT context says that no number is being written. -/
theorem writes_of_current (h : p.RolesHeld) {i : Fin 6} (hi : (p.ctx i).role = .current) :
    p.store.writesNumber = false := by
  by_contra hw
  exact h.roles.written (by simpa using hw) i hi

/-- A sale in TENDER has no capture pending. -/
theorem capture_none_of_tender (h : p.RolesHeld) {i : Fin 6} (hi : (p.ctx i).role = .current)
    (hs : (p.ctx i).saleState = some .tender) : p.scale.capture = none := by
  rcases hc : p.scale.capture with _ | c
  · rfl
  · obtain ⟨hrole, hstate⟩ := h.roles.captured c.context (by simp [hc])
    rw [h.roles.oneCurrent _ _ hrole hi, hs] at hstate
    cases hstate

/-- The capture gone, and nothing else the roles are about. -/
theorem dropCapture {q : Lane} (h : p.RolesHeld) (hs : q.sale = p.sale) (hp : q.printer = p.printer)
    (hw : q.store = p.store) (hc : q.scale.capture = none) : q.RolesHeld := by
  refine ⟨hs ▸ h.backlog, ?_⟩
  have hroles := h.roles.withCapture (capture' := none) (by simp)
  rw [Lane.receiptContexts_eq, Lane.copyContexts_eq] at hroles ⊢
  rw [hs, hp, hw, hc]
  simpa only [Lane.ctx_of_sale hs, Option.map_none] using hroles

theorem endCapture (h : p.RolesHeld) (o : CaptureOutcome) (more : List Field) : (p.endCapture o more).RolesHeld :=
  h.dropCapture (by simp) (by simp) (by simp) (by simp)

/-- The CURRENT context's sale goes to another of its two states, with no capture pending. -/
theorem setSaleState (h : p.RolesHeld) {i : Fin 6} (hi : (p.ctx i).role = .current) {x : SaleState}
    (hx : x = .opened ∨ x = .tender) (hnone : p.scale.capture = none) : (p.setSaleState i x).RolesHeld := by
  have hroles := h.roles
  obtain ⟨hr, hc⟩ := h.not_named (i := i) (by simp [hi]) (by simp [hi])
  refine h.setCtx i _ (hroles.set i _ ?_ ?_ ?_ Iff.rfl ?_ ?_ ?_)
  · have hpin := ((hroles.fits i).2.1 hi).2
    simp [Context.fitsRole, hi, hpin, hx]
  · exact fun _ => ⟨fun j hj => hroles.oneCurrent j i hj hi, h.writes_of_current hi⟩
  · simp [hi]
  · exact fun hin => absurd hin hr
  · exact fun hin => absurd hin hc
  · simp [hnone]

/-- The CURRENT sale is closed: its context is PRINT_HELD, and no job names it yet. -/
theorem close (h : p.RolesHeld) {i : Fin 6} (hi : (p.ctx i).role = .current) (hnone : p.scale.capture = none)
    {x : Context} (hrole : x.role = .printHeld) (hstate : x.saleState = some .settled ∨ x.saleState = some .cancelled)
    (hpin : x.pin = (p.ctx i).pin) : (p.setCtx i x).RolesHeld ∧ x.pin = 0 ∧ i ∉ p.receiptContexts := by
  have hroles := h.roles
  obtain ⟨hr, hc⟩ := h.not_named (i := i) (by simp [hi]) (by simp [hi])
  have hzero : x.pin = 0 := hpin.trans ((hroles.fits i).2.1 hi).2
  refine ⟨h.setCtx i _ (hroles.set i _ ?_ ?_ ?_ ?_ ?_ ?_ ?_), hzero, hr⟩
  · simp [Context.fitsRole, hrole, hzero, hstate]
  · simp [hrole]
  · simp [hrole]
  · simp [hrole, hi]
  · exact fun hin => absurd hin hr
  · exact fun hin => absurd hin hc
  · simp [hnone]

theorem settle (h : p.RolesHeld) {i : Fin 6} (hi : (p.ctx i).role = .current) (hnone : p.scale.capture = none)
    (by_ : SettledBy) : (p.settle i by_).RolesHeld := by
  obtain ⟨hclosed, hpin, hnew⟩ := h.close hi hnone
    (x := { (p.ctx i).settled p.clock with role := .printHeld }) rfl (.inl rfl) rfl
  rw [Lane.settle_eq]
  generalize hleft : (if by_ = .total then p.setCtx i ((p.ctx i).settled p.clock)
    else (p.setCtx i ((p.ctx i).settled p.clock)).leaveTender) = left
  have hsale : left.sale = (p.setCtx i ((p.ctx i).settled p.clock)).sale := by
    rw [← hleft]
    split <;> simp
  have hprinter : left.printer = p.printer := by
    rw [← hleft]
    split <;> simp
  have hscale : left.scale = p.scale := by
    rw [← hleft]
    split <;> simp
  have hstore : left.store = p.store := by
    rw [← hleft]
    split <;> simp
  have hctx : ∀ j, (left.grantAndOpen ((p.ctx i).settled p.clock)).1.ctx j =
      (p.setCtx i ((p.ctx i).settled p.clock)).ctx j := fun j =>
    (Lane.ctx_of_sale (by simp) j).trans (Lane.ctx_of_sale hsale j)
  have hplaced : ((left.grantAndOpen ((p.ctx i).settled p.clock)).1.setCtx i
      { (p.ctx i).settled p.clock with role := .printHeld }).RolesHeld := by
    refine hclosed.same ⟨fun j => ?_, ?_, ?_, ?_, ?_, ?_⟩
    · rw [Lane.ctx_setCtx, Lane.ctx_setCtx]
      split
      · rfl
      · rename_i hij
        rw [hctx, Lane.ctx_setCtx, if_neg hij]
    · simp [hsale]
    · simp [hsale]
    · simp [hprinter]
    · simp [hscale]
    · simp [hstore]
  refine frame (p := Lane.placeJob _ _ _) (hplaced.placeJob (.inl rfl) ?_ ?_) rfl rfl rfl rfl
  · rw [Lane.ctx_setCtx_same]
    exact ⟨rfl, hpin⟩
  · have hreceipts : ((left.grantAndOpen ((p.ctx i).settled p.clock)).1.setCtx i
        { (p.ctx i).settled p.clock with role := .printHeld }).receiptContexts = p.receiptContexts := by
      rw [Lane.receiptContexts_eq, Lane.receiptContexts_eq]
      simp [hsale, hprinter]
    rw [hreceipts]
    exact hnew

end Lane.RolesHeld

/-! ## Requests -/

theorem Lane.appendItem_rolesHeld {p : Lane} (h : p.RolesHeld) {f : List ItemRecord → List ItemRecord} {r : ItemRecord} :
    (p.appendItem f r).1.RolesHeld := by
  unfold Lane.appendItem
  split
  · exact h
  · rename_i i hcur
    have hrole : (p.ctx i).role = .current := Lane.firstOf_role hcur
    exact h.setSame i rfl rfl rfl (by simp [hrole])

theorem doVoidItem_rolesHeld {p : Lane} (h : p.RolesHeld) (n : Nat) : (doVoidItem n p).1.RolesHeld := by
  refine h.checked fun _ => ?_
  split
  · exact h
  · exact h.checked fun _ => Lane.appendItem_rolesHeld h

theorem doTotal_rolesHeld {p : Lane} (h : p.RolesHeld) : (doTotal p).1.RolesHeld := by
  refine h.checked fun hfirst => h.checked fun _ => ?_
  have hnone := capture_none_of_itemChecks hfirst
  unfold Lane.totalSale
  split
  · exact h
  · rename_i i hcur
    have hrole : (p.ctx i).role = .current := Lane.firstOf_role hcur
    dsimp only
    split
    · exact (h.setSaleState hrole (.inr rfl) hnone).frame (by simp) (by simp) (by simp) (by simp)
    · exact h.settle hrole hnone _

theorem doBackToItems_rolesHeld {p : Lane} (h : p.RolesHeld) : (doBackToItems p).1.RolesHeld := by
  refine h.checked fun hchecks => ?_
  simp only [List.forall_mem_cons] at hchecks
  obtain ⟨-, htender, -⟩ := hchecks
  unfold Lane.backToItems
  split
  · exact h
  · rename_i i hcur
    have hrole : (p.ctx i).role = .current := Lane.firstOf_role hcur
    rw [Lane.currentCtx_eq hcur] at htender
    have hnone := h.capture_none_of_tender hrole (by simpa using htender)
    exact (h.setSaleState hrole (.inl rfl) hnone).frame (by simp) (by simp) (by simp) (by simp)

theorem doCancelSale_rolesHeld {p : Lane} (h : p.RolesHeld) : (doCancelSale p).1.RolesHeld := by
  refine h.checked fun _ => ?_
  unfold Lane.cancelSale
  split
  · exact h
  rename_i i hcur
  dsimp only
  generalize hq : (if ((p.endCapture .cancelled []).ctx i).saleState = some .tender then
    (p.endCapture .cancelled []).leaveTender else p.endCapture .cancelled []) = q
  have hsale : q.sale = p.sale := by
    rw [← hq]
    split <;> simp
  have hprinter : q.printer = p.printer := by
    rw [← hq]
    split <;> simp
  have hstore : q.store = p.store := by
    rw [← hq]
    split <;> simp
  have hnone : q.scale.capture = none := by
    rw [← hq]
    split <;> simp
  have hheld : q.RolesHeld := h.dropCapture hsale hprinter hstore hnone
  have hrole : (q.ctx i).role = .current := by
    rw [Lane.ctx_of_sale hsale]
    exact Lane.firstOf_role hcur
  obtain ⟨hclosed, hpin, hnew⟩ := hheld.close hrole hnone
    (x := { q.ctx i with saleState := some .cancelled, closeTime := q.clock, role := .printHeld }) rfl (.inr rfl) rfl
  refine hclosed.placeJob (.inr rfl) ?_ hnew
  rw [Lane.ctx_setCtx_same]
  exact ⟨rfl, hpin⟩

theorem doSuspend_rolesHeld {p : Lane} (h : p.RolesHeld) : (doSuspend p).1.RolesHeld := by
  refine h.checked fun hchecks => ?_
  simp only [List.forall_mem_cons] at hchecks
  obtain ⟨-, hopen, hroom, -⟩ := hchecks
  have hroom : p.sale.stack.length < 3 := by simpa using hroom
  unfold Lane.suspendSale
  split
  · exact h
  rename_i i hcur
  have hended := h.endCapture .cancelled []
  have hsale : (p.endCapture .cancelled []).sale = p.sale := by simp
  have hnone : (p.endCapture .cancelled []).scale.capture = none := by simp
  rw [Lane.currentCtx_eq hcur, ← Lane.ctx_of_sale hsale] at hopen
  have hopen : ((p.endCapture .cancelled []).ctx i).saleState = some .opened := by simpa using hopen
  have hrole : ((p.endCapture .cancelled []).ctx i).role = .current := by
    rw [Lane.ctx_of_sale hsale]
    exact Lane.firstOf_role hcur
  rw [← hsale] at hroom
  generalize p.endCapture .cancelled [] = q at hended hnone hopen hrole hroom
  have hroles := hended.roles
  obtain ⟨hr, hc⟩ := hended.not_named (i := i) (by simp [hrole]) (by simp [hrole])
  have hnew : i ∉ q.sale.stack := fun hin => by simp [(hroles.stackRole i).mp hin] at hrole
  refine ⟨hended.backlog, ?_⟩
  have hctx : (fun j => ((q.setRole i .suspended).setStack (q.sale.stack ++ [i])).ctx j) =
      Function.update (fun j => q.ctx j) i { q.ctx i with role := .suspended } := Lane.ctx_setCtx_update q i _
  rw [hctx]
  refine hroles.setWithStack i _ ?_ (by simp) (by simp) ?_ ?_ ?_ (fun hin => absurd hin hr) (fun hin => absurd hin hc)
    (by simp [hnone])
  · have hpin := ((hroles.fits i).2.1 hrole).2
    simp [Context.fitsRole, hopen, hpin]
  · exact (List.perm_append_singleton i _).nodup_iff.mpr (List.nodup_cons.mpr ⟨hnew, hroles.stackNodup⟩)
  · simp only [Lane.setStack, List.length_append, List.length_singleton]
    omega
  · intro j
    by_cases hj : j = i
    · simp [Lane.setStack, hj]
    · simp [Lane.setStack, hj]

theorem doResume_rolesHeld {p : Lane} (hw : p.store.writesNumber = false) (h : p.RolesHeld) :
    (doResume p).1.RolesHeld := by
  refine h.checked fun hchecks => ?_
  simp only [List.forall_mem_cons] at hchecks
  obtain ⟨-, hno, -⟩ := hchecks
  have hno : p.firstOf .current = none := by simpa [Lane.noSaleOpen, Lane.current] using hno
  have hroles := h.roles
  unfold Lane.resumeSale
  split
  · exact h
  rename_i i htop
  obtain ⟨below, hstack⟩ := List.getLast?_eq_some_iff.mp htop
  have hdrop : p.sale.stack.dropLast = below := by simp [hstack]
  have hrole : (p.ctx i).role = .suspended := (hroles.stackRole i).mp (by simp [hstack])
  obtain ⟨hr, hc⟩ := h.not_named (i := i) (by simp [hrole]) (by simp [hrole])
  have hnodup := (List.perm_append_singleton i below).nodup_iff.mp (hstack ▸ hroles.stackNodup)
  obtain ⟨hnot, hbelow⟩ := List.nodup_cons.mp hnodup
  refine ⟨h.backlog, ?_⟩
  have hctx : (fun j => ((p.setRole i .current).setStack p.sale.stack.dropLast).ctx j) =
      Function.update (fun j => p.ctx j) i { p.ctx i with role := .current } := Lane.ctx_setCtx_update p i _
  have hset : ((p.setRole i .current).setStack p.sale.stack.dropLast).sale.stack = below := hdrop
  rw [hctx, hset]
  refine hroles.setWithStack i _ ?_ ?_ (by simp) hbelow ?_ ?_ (fun hin => absurd hin hr) (fun hin => absurd hin hc) ?_
  · have hfits := (hroles.fits i).2.2.1 hrole
    simp [Context.fitsRole, hfits]
  · exact fun _ => ⟨fun j hj => absurd hj (Lane.role_ne_of_firstOf_none hno j), hw⟩
  · have hroom := hroles.stackRoom
    rw [hstack, List.length_append] at hroom
    omega
  · intro j
    by_cases hj : j = i
    · simp [hj, hnot]
    · simp [hj, hstack]
  · intro hcap
    have hcur := (hroles.captured i hcap).1
    simp [hrole] at hcur

theorem doDropSuspended_rolesHeld {p : Lane} (h : p.RolesHeld) : (doDropSuspended p).1.RolesHeld := by
  unfold doDropSuspended
  split
  · exact h
  · rename_i i rest hstack
    have hrole : (p.ctx i).role = .suspended := (h.roles.stackRole i).mp (by simp [hstack])
    obtain ⟨hr, hc⟩ := h.not_named (i := i) (by simp [hrole]) (by simp [hrole])
    exact h.checked fun _ => h.freeCtx hr hc (by simp [hrole])

theorem doWeigh_rolesHeld {p : Lane} (h : p.RolesHeld) (d : Text) (x : Int) : (doWeigh d x p).1.RolesHeld := by
  refine h.checked fun hchecks => ?_
  simp only [List.forall_mem_cons] at hchecks
  obtain ⟨-, -, hopen, -⟩ := hchecks
  unfold Lane.startCapture
  split
  · exact h
  · rename_i i hcur
    rw [Lane.currentCtx_eq hcur] at hopen
    have hopen : (p.ctx i).saleState = some .opened := by simpa using hopen
    refine ⟨h.backlog, h.roles.withCapture ?_⟩
    rintro j ⟨⟩
    exact ⟨Lane.firstOf_role hcur, hopen⟩

/-- In TENDER a tender is taken, and the sale stays or is settled. -/
theorem Lane.takeTender_rolesHeld {p : Lane} (h : p.RolesHeld) (htender : p.currentCtx.saleState = some .tender)
    (t : Tender) (by_ : SettledBy) {stay : Lane → Lane} (hstay : ∀ q : Lane, q.RolesHeld → (stay q).RolesHeld) :
    (p.takeTender t by_ stay).1.RolesHeld := by
  unfold Lane.takeTender
  split
  · exact h
  · rename_i i hcur
    rw [Lane.currentCtx_eq hcur] at htender
    have hrole : (p.ctx i).role = .current := Lane.firstOf_role hcur
    have hset : (p.setCtx i ((p.ctx i).addTender t)).RolesHeld := h.setSame i rfl rfl rfl (by simp [hrole])
    dsimp only
    split
    · exact hstay _ hset
    · refine hset.settle ?_ ?_ _
      · rw [Lane.ctx_setCtx_same]
        exact hrole
      · exact h.capture_none_of_tender hrole htender

theorem tender_of_tenderChecks {p : Lane} (h : ∀ x ∈ p.tenderChecks, x.1 = false) :
    p.currentCtx.saleState = some .tender := by
  have hcheck := h (decide (p.currentCtx.saleState ≠ some .tender), alone .wrongState) (by simp [Lane.tenderChecks])
  simpa using hcheck

theorem doTenderCash_rolesHeld {p : Lane} (h : p.RolesHeld) (amount : Int) : (doTenderCash amount p).1.RolesHeld := by
  rw [doTenderCash, withTenderReply_fst, Lane.cashTender]
  exact h.checked fun hfirst => h.checked fun _ =>
    Lane.takeTender_rolesHeld h (tender_of_tenderChecks hfirst) _ _ fun _ hq => hq

theorem doTenderCard_rolesHeld {p : Lane} (h : p.RolesHeld) (n : Nat) (amount cashback : Int) (approval : Text) :
    (doTenderCard n amount cashback approval p).1.RolesHeld := by
  rw [doTenderCard, withTenderReply_fst, Lane.cardTender]
  refine h.checked fun hfirst => h.checked fun _ => ?_
  have htender := tender_of_tenderChecks hfirst
  split
  · exact h
  · rename_i e _
    refine h.checked fun _ => h.checked fun _ => h.checked fun _ => ?_
    have hremoved : (p.removeCard e.handle).RolesHeld := h.frame rfl rfl rfl rfl
    exact Lane.takeTender_rolesHeld hremoved htender _ _ fun q hq => hq.frame (by simp) (by simp) (by simp) (by simp)

theorem Lane.appendJob_jobs (j : Job) (p : Lane) :
    (p.appendJob j).printer.queue.map Job.named = (p.printer.queue ++ [j]).map Job.named := by
  unfold Lane.appendJob
  split
  · exact Lane.startHead_jobs _
  · rfl

/-- The LAST_PRINTED context, unpinned, is pinned for its copy. -/
theorem doReprint_rolesHeld {p : Lane} (h : p.RolesHeld) : (doReprint p).1.RolesHeld := by
  refine h.checked fun hchecks => ?_
  simp only [List.forall_mem_cons] at hchecks
  obtain ⟨-, hwaiting, -⟩ := hchecks
  have hroles := h.roles
  unfold Lane.reprint
  split
  · exact h
  rename_i i hlast
  have hrole : (p.ctx i).role = .lastPrinted := Lane.firstOf_role hlast
  have hpin : (p.ctx i).pin = 0 := by simpa [Lane.copyWaiting, hlast] using hwaiting
  have hr : i ∉ p.receiptContexts := fun hin => by simpa [hrole] using hroles.receiptsRole i hin
  have hc : i ∉ p.copyContexts := fun hin => by simpa [hpin] using (hroles.copiesRole i hin).2
  have hset : (p.setCtx i { p.ctx i with pin := 1 }).RolesHeld := by
    refine h.setCtx i _ (hroles.set i _ ?_ ?_ ?_ Iff.rfl ?_ ?_ ?_)
    · have hstate := ((hroles.fits i).2.2.2 (.inr hrole)).1
      simpa [Context.fitsRole, hrole] using hstate
    · simp [hrole]
    · exact fun _ j hj => hroles.oneLast j i hj hrole
    · exact fun hin => absurd hin hr
    · exact fun hin => absurd hin hc
    · intro hcap
      have hcur := (hroles.captured i hcap).1
      simp [hrole] at hcur
  have hpinned : ((p.setCtx i { p.ctx i with pin := 1 }).ctx i).role = .lastPrinted ∧
      ((p.setCtx i { p.ctx i with pin := 1 }).ctx i).pin = 1 := by simp [hrole]
  dsimp only
  have hnew : i ∉ (p.setCtx i { p.ctx i with pin := 1 }).copyContexts := hc
  generalize p.setCtx i { p.ctx i with pin := 1 } = q at hset hpinned hnew
  have hjobs := Lane.appendJob_jobs (q.jobFor .copy i) q
  have hsale : (q.appendJob (q.jobFor .copy i)).sale = q.sale := by simp
  have hcopies : (q.appendJob (q.jobFor .copy i)).copyContexts = q.copyContexts ++ [i] := by
    rw [Lane.copyContexts_eq, copiesOf_congr hjobs, copiesOf_append]
    simp [Lane.jobFor, Lane.copyContexts_eq]
  have hreceipts : (q.appendJob (q.jobFor .copy i)).receiptContexts = q.receiptContexts := by
    rw [Lane.receiptContexts_eq, receiptsOf_congr hjobs, receiptsOf_append, hsale]
    simp [Lane.jobFor, Lane.receiptContexts_eq]
  refine ⟨hsale ▸ hset.backlog, ?_⟩
  have hjoined := hset.roles.withJobs (copies' := q.copyContexts ++ [i]) hset.roles.receiptsNodup hset.roles.receiptsRole
    ((List.perm_append_singleton i _).nodup_iff.mpr (List.nodup_cons.mpr ⟨hnew, hset.roles.copiesNodup⟩)) ?_
  · rw [hcopies, hreceipts, hsale]
    simpa only [Lane.ctx_of_sale hsale, Lane.appendJob_frame] using hjoined
  · intro j hj
    obtain hj | hj := List.mem_append.mp hj
    · exact hset.roles.copiesRole j hj
    · rw [List.mem_singleton.mp hj]
      exact ⟨.inr hpinned.1, hpinned.2⟩

/-- A queue that a SLIP joins or leaves names the same contexts. -/
theorem Lane.RolesHeld.slips {p q : Lane} (h : p.RolesHeld) (hs : q.sale = p.sale)
    (hr : receiptsOf q.printer.queue = receiptsOf p.printer.queue)
    (hj : copiesOf q.printer.queue = copiesOf p.printer.queue) (hc : q.scale.capture = p.scale.capture)
    (hw : q.store = p.store) : q.RolesHeld := by
  refine ⟨hs ▸ h.backlog, ?_⟩
  have hroles := h.roles
  rw [Lane.receiptContexts_eq, Lane.copyContexts_eq] at hroles ⊢
  rw [hr, hj, hs, hc, hw]
  simpa only [Lane.ctx_of_sale hs] using hroles

theorem doSlip_rolesHeld {p : Lane} (h : p.RolesHeld) (lines : List Text) : (doSlip lines p).1.RolesHeld := by
  refine h.checked fun _ => ?_
  have hjobs := Lane.appendJob_jobs ⟨.slip, none, none, .queued⟩ (p.withPrinter fun e => { e with slip := some lines })
  refine h.slips (by simp) ?_ ?_ (by simp) (by simp)
  · rw [receiptsOf_congr hjobs, receiptsOf_append]
    simp [Lane.withPrinter]
  · rw [copiesOf_congr hjobs, copiesOf_append]
    simp [Lane.withPrinter]

/-- The contexts named by a queue without its first slip. -/
theorem filterMap_eraseP_slip {f : Job → Option (Fin 6)} (hf : ∀ j, j.isSlip = true → f j = none) (queue : List Job) :
    (queue.eraseP Job.isSlip).filterMap f = queue.filterMap f := by
  induction queue with
  | nil => rfl
  | cons j rest ih =>
    by_cases hj : j.isSlip = true
    · rw [List.eraseP_cons_of_pos hj, List.filterMap_cons, hf j hj]
    · rw [List.eraseP_cons_of_neg hj, List.filterMap_cons, List.filterMap_cons, ih]

theorem Lane.removeSlip_rolesHeld {p : Lane} (h : p.RolesHeld) (j : Job) : (p.removeSlip j).RolesHeld := by
  have hqueue : (p.removeSlip j).printer.queue = p.printer.queue.eraseP Job.isSlip := by
    unfold Lane.removeSlip
    dsimp only
    split <;> rfl
  refine h.slips (by simp) ?_ ?_ (by simp) (by simp)
  · rw [hqueue]
    exact filterMap_eraseP_slip (fun a ha => by simp [(Job.isSlip_iff a).mp ha]) _
  · rw [hqueue]
    exact filterMap_eraseP_slip (fun a ha => by simp [(Job.isSlip_iff a).mp ha]) _

theorem doPrintAbort_rolesHeld {p : Lane} (h : p.RolesHeld) : (doPrintAbort p).1.RolesHeld := by
  refine h.checked fun _ => ?_
  unfold Lane.abortSlip
  split
  · exact h
  rename_i j _
  have hleft : (((p.removeSlip j).freePlace).printAborted j (p.printer.wholeLines j.state)).RolesHeld :=
    (Lane.removeSlip_rolesHeld h j).freePlace.frame rfl rfl rfl rfl
  dsimp only
  unfold Lane.afterRemoval
  split
  · exact hleft
  · exact hleft
  all_goals
    split
    · exact hleft
    · exact hleft.startHead

theorem doPrintResume_rolesHeld {p : Lane} (h : p.RolesHeld) : (doPrintResume p).1.RolesHeld := by
  refine h.checked fun _ => ?_
  unfold Lane.resumePrint
  split
  · exact h
  · exact h.frame rfl (Lane.endPause_jobs 1 p) rfl rfl

theorem Lane.serveBegin_rolesHeld {p : Lane} (h : p.RolesHeld) : p.serveBegin.RolesHeld := by
  unfold Lane.serveBegin
  split
  · exact h.frame (by simp) (by simp) (by simp) (by simp)
  · rename_i hchecks
    have hno := firstFailing_eq_none.mp hchecks (!p.noSaleOpen, refusedWith .saleOpen) (by simp [Lane.beginChecks])
    have hno : p.firstOf .current = none := by simpa [Lane.noSaleOpen, Lane.current] using hno
    exact ⟨h.backlog, h.roles.withWrites fun _ => Lane.role_ne_of_firstOf_none hno⟩

@[simp] theorem Lane.leaveCal_writesNumber (cause : CalCause) (p : Lane) :
    (p.leaveCal cause).store.writesNumber = p.store.writesNumber := by
  unfold Lane.leaveCal
  dsimp only
  split <;> rfl

/-- Leaving CAL keeps the roles. -/
theorem Lane.RolesHeld.leaveCal {p : Lane} (h : p.RolesHeld) (cause : CalCause) : (p.leaveCal cause).RolesHeld :=
  h.frame (by simp) (by simp) (by simp) (by simp)

theorem doCalExit_rolesHeld {p : Lane} (h : p.RolesHeld) : (doCalExit p).1.RolesHeld := by
  unfold doCalExit
  split
  · exact h
  · exact h.leaveCal _
  · exact h.frame rfl rfl rfl rfl
  · exact h

theorem doSettleSetup_rolesHeld {p : Lane} (h : p.RolesHeld) (b : Byte) : (doSettleSetup b p).1.RolesHeld := by
  unfold doSettleSetup
  split
  · exact h
  · exact h.same ⟨fun _ => rfl, rfl, rfl, rfl, rfl, id⟩

theorem doScaleFeed_rolesHeld {p : Lane} (h : p.RolesHeld) (b : Byte) : (doScaleFeed b p).1.RolesHeld := by
  unfold doScaleFeed
  split
  · exact h
  · exact h.frame rfl rfl rfl rfl

/-- Every request keeps the roles while no number is being written. -/
theorem serveRequest_rolesHeld (c : Instr) {p : Lane} (hw : p.store.writesNumber = false) (h : p.RolesHeld) :
    (serveRequest c p).RolesHeld := by
  have hserve : ∀ {body : Lane → Lane × Answer}, (body p).1.RolesHeld → (Lane.serve body p).RolesHeld := fun hb =>
    hb.frame (by simp [Lane.serve]) (by simp [Lane.serve]) (by simp [Lane.serve]) (by simp [Lane.serve])
  cases c with
  | beginSale => exact Lane.serveBegin_rolesHeld h
  | item => exact hserve (h.checked fun _ => h.checked fun _ => Lane.appendItem_rolesHeld h)
  | voidItem _ n => exact hserve (doVoidItem_rolesHeld h n)
  | total => exact hserve (doTotal_rolesHeld h)
  | backToItems => exact hserve (doBackToItems_rolesHeld h)
  | cancelSale => exact hserve (doCancelSale_rolesHeld h)
  | suspend => exact hserve (doSuspend_rolesHeld h)
  | resume => exact hserve (doResume_rolesHeld hw h)
  | dropSuspended => exact hserve (doDropSuspended_rolesHeld h)
  | weigh _ d x => exact hserve (doWeigh_rolesHeld h d x)
  | weighCancel => exact hserve (h.checked fun _ => h.endCapture _ _)
  | tenderCash _ a => exact hserve (doTenderCash_rolesHeld h a)
  | tenderCard _ n a x code => exact hserve (doTenderCard_rolesHeld h n a x code)
  | reprint => exact hserve (doReprint_rolesHeld h)
  | slip _ lines => exact hserve (doSlip_rolesHeld h lines)
  | printAbort => exact hserve (doPrintAbort_rolesHeld h)
  | printResume => exact hserve (doPrintResume_rolesHeld h)
  | settleSetup _ b => exact hserve (doSettleSetup_rolesHeld h b)
  | scaleFeed _ b => exact hserve (doScaleFeed_rolesHeld h b)
  | calExit => exact hserve (doCalExit_rolesHeld h)
  | zero => exact hserve (h.checked fun _ => h.checked fun _ => h.frame rfl rfl rfl rfl)
  | tare => exact hserve (h.checked fun _ => h.checked fun _ => h.frame rfl rfl rfl rfl)
  | tarePreset => exact hserve (h.checked fun _ => h.checked fun _ => h.frame rfl rfl rfl rfl)
  | tareClear => exact hserve (h.checked fun _ => h.frame rfl rfl rfl rfl)
  | scaleSetup => exact hserve (h.checked fun _ => h.frame rfl rfl rfl rfl)
  | calEnter => exact hserve (h.checked fun _ => h.frame rfl rfl rfl rfl)
  | calZero => exact hserve (h.checked fun _ => h.checked fun _ => h.frame rfl rfl rfl rfl)
  | calSpan => exact hserve (h.checked fun _ => h.checked fun _ => h.frame rfl rfl rfl rfl)
  | calSet => exact hserve (h.checked fun _ => h.checked fun _ => h.frame rfl rfl rfl rfl)
  | calCommit => exact hserve (h.checked fun _ => h.checked fun _ => h.same ⟨fun _ => rfl, rfl, rfl, rfl, rfl, by simp [Lane.startCommit, Lane.withStore, Store.writesNumber]⟩)
  | feed => exact hserve (h.checked fun _ => h.frame rfl rfl rfl rfl)
  | _ =>
    exact h.frame (by simp [serveRequest, Lane.serve]) (by simp [serveRequest, Lane.serve])
      (by simp [serveRequest, Lane.serve]) (by simp [serveRequest, Lane.serve])

/-! ## Events, resets and every step -/

/-- A part whose contexts are FREE, with no stack, no job, no backlog, no capture and no number being written. -/
theorem Lane.rolesHeld_of_freed {p : Lane} (hs : p.sale.contexts = Vector.replicate 6 Context.freed)
    (hstack : p.sale.stack = []) (hb : p.sale.backlog = none) (hq : p.printer.queue = [])
    (hc : p.scale.capture = none) (hw : p.store.writesNumber = false) : p.RolesHeld := by
  have hctx : ∀ i, p.ctx i = Context.freed := fun i => by simp [Lane.ctx, hs]
  refine ⟨by simp [Sale.backlogSound, hb], ?_⟩
  rw [Lane.receiptContexts_eq, Lane.copyContexts_eq, hstack, hb, hq, hc, hw]
  have hfits : Context.freed.fitsRole := by decide
  constructor
  case fits => exact fun i => (hctx i).symm ▸ hfits
  all_goals simp [hctx, receiptsOf, copiesOf, Context.freed]

theorem Lane.startUp_rolesHeld (i : ResetInputs) (torn : TornRecord) (n : Nat) (clock : Option DateTime)
    (m left : Nat) (p : Lane) : (p.startUp i torn n clock m left).RolesHeld := by
  have hprinter : (p.startUp i torn n clock m left).printer = Printer.startUp n i := by simp [Lane.startUp]
  refine Lane.rolesHeld_of_freed rfl rfl rfl ?_ rfl ?_
  · rw [hprinter]
    unfold Printer.startUp Printer.read
    split <;> rfl
  · have hstore : (p.startUp i torn n clock m left).store = p.store.startUp i.switch torn := by simp [Lane.startUp]
    rw [hstore]
    rfl

namespace Lane.RolesHeld

variable {p : Lane}

theorem obtain (h : p.RolesHeld) : p.obtain.RolesHeld := by
  unfold Lane.obtain
  split
  · exact h
  split
  · rename_i i hi
    unfold Lane.reclaimable at hi
    split at hi
    · rename_i l hl
      have hrole : (p.ctx l).role = .lastPrinted := Lane.firstOf_role hl
      split at hi
      · rename_i hpin
        obtain rfl : l = i := by simpa using hi
        refine h.freeCtx (fun hin => ?_) (fun hin => ?_) (by simp [hrole])
        · simpa [hrole] using h.roles.receiptsRole l hin
        · simpa [hpin] using (h.roles.copiesRole l hin).2
      · cases hi
    · cases hi
  · exact h

/-- Freeing a context makes none CURRENT. -/
theorem obtain_not_current {q : Lane} (h : ∀ i, (q.ctx i).role ≠ .current) (i : Fin 6) :
    (q.obtain.ctx i).role ≠ .current := by
  unfold Lane.obtain
  split
  · exact h i
  split
  · rename_i j _
    have hfree : (q.freeCtx j).ctx i = (q.setCtx j Context.freed).ctx i := rfl
    rw [hfree, Lane.ctx_setCtx]
    split
    · simp [Context.freed]
    · exact h i
  · exact h i

theorem setLoyalty (h : p.RolesHeld) {i : Fin 6} (hi : (p.ctx i).role = .current) (t : Text) :
    (p.setLoyalty i t).RolesHeld :=
  h.setSame i rfl rfl rfl (by simp [hi])

theorem applyHeldLoyalty (h : p.RolesHeld) {i : Fin 6} (hi : (p.ctx i).role = .current) :
    (p.applyHeldLoyalty i).RolesHeld := by
  unfold Lane.applyHeldLoyalty
  split
  · exact h
  split
  · exact h
  · rename_i d _
    have hset := h.setLoyalty hi d.account
    exact hset.frame (by simp) (by simp) (by simp) (by simp)

theorem openSale (h : p.RolesHeld) (hno : ∀ i, (p.ctx i).role ≠ .current) (hw : p.store.writesNumber = false)
    (txn : Nat) : (p.openSale txn).RolesHeld := by
  have hobtained := h.obtain
  have hnone := obtain_not_current hno
  have hwrites : p.obtain.store.writesNumber = false := by simpa using hw
  unfold Lane.openSale
  dsimp only
  split
  · exact hobtained.frame (by simp) (by simp) (by simp) (by simp)
  rename_i i hfree
  generalize p.obtain = q at hobtained hnone hwrites hfree
  have hroles := hobtained.roles
  have hrole : (q.ctx i).role = .free := Lane.firstOf_role hfree
  obtain ⟨hr, hc⟩ := hobtained.not_named (i := i) (by simp [hrole]) (by simp [hrole])
  have hset : (q.setCtx i (q.newSale txn)).RolesHeld := by
    refine hobtained.setCtx i _ (hroles.set i _ ?_ ?_ ?_ ?_ ?_ ?_ ?_)
    · simp [Context.fitsRole, Lane.newSale, Context.freed]
    · exact fun _ => ⟨fun j hj => absurd hj (hnone j), hwrites⟩
    · simp [Lane.newSale]
    · simp [Lane.newSale, hrole]
    · exact fun hin => absurd hin hr
    · exact fun hin => absurd hin hc
    · intro hcap
      exact absurd (hroles.captured i hcap).1 (hnone i)
  have hcur : ((q.setCtx i (q.newSale txn)).ctx i).role = .current := by
    rw [Lane.ctx_setCtx_same]
    rfl
  generalize q.setCtx i (q.newSale txn) = r at hset hcur
  have hopened : ({ r with sale := { r.sale with restartPending := false } } : Lane).RolesHeld :=
    hset.same ⟨fun _ => rfl, rfl, rfl, rfl, rfl, id⟩
  exact (hopened.applyHeldLoyalty hcur).frame (by simp) (by simp) (by simp) (by simp)

theorem txnWriteEnd (h : p.RolesHeld) (result : WriteEnd) : (p.txnWriteEnd result).RolesHeld := by
  unfold Lane.txnWriteEnd
  split
  · rename_i n hwrite
    have hno : ∀ i, (p.ctx i).role ≠ .current := h.roles.written (by simp [Store.writesNumber, hwrite])
    split
    · refine openSale ?_ ?_ rfl _
      · exact h.same ⟨fun _ => rfl, rfl, rfl, rfl, rfl, by simp [Store.writesNumber]⟩
      · exact hno
    · exact h.same ⟨Lane.ctx_of_sale (by simp), by simp, by simp, by simp, by simp, by simp [Store.writesNumber]⟩
  · exact h

/-- A capture made: a record joins its context's list. -/
theorem makeCapture (h : p.RolesHeld) {c : Capture} (hc : p.scale.capture = some c) (chain : Chain) (amount : Int) :
    (p.makeCapture c chain amount).RolesHeld := by
  have hrole := (h.roles.captured c.context (by simp [hc])).1
  have hdropped : ({ p with scale := { p.scale with
      latch := true, tare := if p.scale.autoClear then 0 else p.scale.tare, capture := none } } : Lane).RolesHeld :=
    h.dropCapture rfl rfl rfl rfl
  refine frame (p := Lane.setCtx c.context (Context.append (weighedRecord c chain amount p.clock) (p.ctx c.context)) _)
    (hdropped.setSame c.context ?_ ?_ ?_ ?_) rfl rfl rfl rfl
  · rfl
  · rfl
  · rfl
  · exact (by simp [hrole] : (p.ctx c.context).role ≠ .free)

theorem judge (h : p.RolesHeld) {c : Capture} (hc : p.scale.capture = some c) (chain : Chain) :
    (p.judge c chain).RolesHeld := by
  unfold Lane.judge
  split
  · exact h.same ⟨fun _ => rfl, rfl, rfl, rfl, by simp [hc], id⟩
  · dsimp only
    split
    · exact h.endCapture _ _
    split
    · exact h.endCapture _ _
    · exact h.makeCapture hc _ _

theorem captureStage (h : p.RolesHeld) (chain : Chain) : (p.captureStage chain).RolesHeld := by
  have hlatch : (if chain.gross < 400 then { p with scale := { p.scale with latch := false } } else p).RolesHeld := by
    split
    · exact h.frame rfl rfl rfl rfl
    · exact h
  unfold Lane.captureStage
  dsimp only
  split
  · exact hlatch.judge ‹_› chain
  · exact hlatch

theorem processSample (h : p.RolesHeld) (count : Int) : (p.processSample count).RolesHeld := by
  have hchain : ((p.enterHistory count).computeChain).RolesHeld := h.frame rfl rfl rfl rfl
  unfold Lane.processSample
  dsimp only
  split
  · rename_i chain _
    have hzero : ((p.enterHistory count).computeChain.zeroStage chain).RolesHeld :=
      hchain.frame (by simp) (by simp) (by simp) (by simp)
    exact (hzero.captureStage chain).frame (by simp) (by simp) (by simp) (by simp)
  · exact hchain

theorem sample (h : p.RolesHeld) (count : Int) : (p.sample count).RolesHeld := by
  have hperiod : p.samplePeriod.RolesHeld := h.frame rfl rfl rfl rfl
  have hrail : ∀ n, (p.samplePeriod.setRail n).RolesHeld := fun n => hperiod.frame rfl rfl rfl rfl
  have hfeed : ∀ {q : Lane}, q.RolesHeld → q.feedStage.RolesHeld := fun hq =>
    hq.frame (by simp) (by simp) (by simp) (by simp)
  unfold Lane.sample
  dsimp only
  split
  · split
    · exact hfeed (hrail 0)
    · split
      · exact hfeed (hrail _)
      · exact processSample (hperiod.frame (by simp) (by simp) (by simp) (by simp)) count
  · split
    · split
      · exact (hrail _).processSample count
      · exact hfeed (frame (p := Lane.endCapture .adcFault [] _) (hperiod.endCapture _ _) rfl rfl rfl rfl)
    · exact (hrail 0).processSample count

theorem takeResult (h : p.RolesHeld) (r : SwipeResult) : (p.takeResult r).RolesHeld := by
  have hsame : ∀ {q : Lane}, q.sale = p.sale → q.printer = p.printer → q.scale = p.scale →
      q.store = p.store → q.RolesHeld := fun hs hp hc hst => h.frame hs (by rw [hp]) (by rw [hc]) (by rw [hst])
  unfold Lane.takeResult
  split
  · exact hsame rfl rfl rfl rfl
  split
  · exact hsame rfl rfl rfl rfl
  split
  · exact hsame rfl rfl rfl rfl
  split
  case h_3 =>
    unfold Lane.takeLoyalty
    split
    · exact hsame (by simp) (by simp) (by simp) (by simp)
    rename_i k hcur
    split
    · exact (h.setLoyalty (Lane.firstOf_role hcur) _).frame rfl rfl rfl rfl
    · exact hsame rfl rfl rfl rfl
  all_goals exact hsame (by simp) (by simp) (by simp) (by simp)

theorem swipeEnd (h : p.RolesHeld) : p.swipeEnd.RolesHeld := by
  unfold Lane.swipeEnd
  split
  · refine frame (p := Lane.handOver _ _ _ _) ?_ rfl rfl rfl rfl
    unfold Lane.handOver
    split
    · refine takeResult ?_ _
      exact h.frame rfl rfl rfl rfl
    · refine takeResult ?_ _
      exact h.frame rfl rfl rfl rfl
    · exact h.frame rfl rfl rfl rfl
  · exact h

theorem cutEnd (h : p.RolesHeld) : p.cutEnd.RolesHeld := by
  unfold Lane.cutEnd
  split
  · exact h
  rename_i t _
  have hcut : ((p.elapseTo t).withPrinter fun e => { e with cutUntil := none }).RolesHeld := h.frame rfl rfl rfl rfl
  dsimp only
  split
  · exact hcut.frame (by simp) (by simp) (by simp) (by simp)
  split
  · exact hcut.jobEnd
  · exact hcut.frame (by simp) (by simp) (by simp) (by simp)

theorem captureExpire (h : p.RolesHeld) : p.captureExpire.RolesHeld := by
  unfold Lane.captureExpire
  split
  · refine endCapture ?_ _ _
    exact h.frame rfl rfl rfl rfl
  · exact h

/-- The end of a commit's write keeps the roles: it writes no number. -/
theorem endCommit (h : p.RolesHeld) (outcome : List Field) : (p.endCommit outcome).RolesHeld := by
  have hended : ((p.withStore fun s => { s with write := none, commitTime := none }).event 0x84#8
      (outcome ++ [.u16 p.store.mirror] ++ stampField p.store.commitTime)).RolesHeld :=
    h.same ⟨fun _ => rfl, rfl, rfl, rfl, rfl, by simp [Lane.withStore, Store.writesNumber]⟩
  unfold Lane.endCommit
  dsimp only
  split
  · refine hended.frame ?_ ?_ ?_ ?_ <;> rfl
  · exact hended.leaveCal _
  all_goals exact hended

theorem counterWriteEnd (h : p.RolesHeld) (result : WriteEnd) : (p.counterWriteEnd result).RolesHeld := by
  unfold Lane.counterWriteEnd
  split
  · split
    · exact h.same ⟨fun _ => rfl, rfl, rfl, rfl, rfl, by simp [Lane.withStore, Store.writesNumber]⟩
    · refine endCommit ?_ _
      exact h.frame rfl rfl rfl rfl
  · exact h

theorem recordWriteEnd (h : p.RolesHeld) (result : WriteEnd) : (p.recordWriteEnd result).RolesHeld := by
  unfold Lane.recordWriteEnd
  split
  · split
    all_goals
      refine endCommit ?_ _
      exact h.frame rfl rfl rfl rfl
  · exact h

theorem switchOpens (h : p.RolesHeld) : p.switchOpens.RolesHeld := by
  unfold Lane.switchOpens
  dsimp only
  split
  · refine leaveCal ?_ _
    exact h.frame rfl rfl rfl rfl
  all_goals exact h.frame rfl rfl rfl rfl

end Lane.RolesHeld

theorem blockEvent_rolesHeld (c : Instr) {p : Lane} (h : p.RolesHeld) : (blockEvent c p).RolesHeld := by
  cases c with
  | powerOn => exact Lane.startUp_rolesHeld _ _ _ _ _ _ _
  | resetInput => exact Lane.startUp_rolesHeld _ _ _ _ _ _ _
  | txnNumberWriteEnd => exact h.txnWriteEnd _
  | calCounterWriteEnd => exact h.counterWriteEnd _
  | calRecordWriteEnd => exact h.recordWriteEnd _
  | calSwitchOpening => exact h.switchOpens
  | calSwitchClosing => exact h.frame rfl rfl rfl rfl
  | adcSample count => exact h.sample count
  | captureTimeout => exact h.captureExpire
  | swipeEnd => exact h.swipeEnd
  | cutEnd => exact h.cutEnd
  | _ => exact h.frame (by simp [blockEvent]) (by simp [blockEvent]) (by simp [blockEvent]) (by simp [blockEvent])

theorem roles_keptByRequests : KeptByRequests (fun p => p.store.writesNumber = false) Lane.RolesHeld where
  behind _ _ _ h := h.frame rfl rfl rfl rfl
  guardBehind _ _ _ h := h
  request c _ hw h := serveRequest_rolesHeld c hw h
  laneReset p hw _ := by
    refine Lane.rolesHeld_of_freed rfl rfl rfl rfl rfl ?_
    simpa [Lane.laneReset] using hw

/-- Where one request is taken at a time, none is served while the number of a BEGIN is written. -/
theorem Lane.no_write_of_mayServe {p : Lane} (h : p.requestSound) (hs : p.mayServe) : p.store.writesNumber = false := by
  obtain ⟨-, -, hwriting⟩ := h
  by_contra hw
  obtain ⟨hbusy, -, hunsent⟩ := hwriting (by simpa using hw)
  obtain hidle | hsending := hs
  · exact hbusy hidle
  · simp [hunsent] at hsending

/-- Settles O55: every request and every event keeps the roles and the backlog, and so every step does. -/
theorem rolesStaySound : Obligations.RolesStaySound := fun s t hr hb hroles hstep =>
  (Lane.rolesHeld_iff t.toLane).mp <|
    roles_keptByRequests.step (fun c _ => blockEvent_rolesHeld c) hstep (Lane.no_write_of_mayServe hr) id
      ((Lane.rolesHeld_iff s.toLane).mpr ⟨hb, hroles⟩)

end Sys2Proof.Machine
end

section
/-! PROOFS. What the blocks do to the lane link: they hand events over and latch flags (R186 to R188). -/

namespace Sys2Proof.Machine

/-- A link that comes from another by events handed over and flags latched. -/
inductive Link.Hands (l : Link) : Link → Prop
  | refl : l.Hands l
  | event {m : Link} (h : l.Hands m) (x : Message) : l.Hands (m.handEvent x)
  | latch {m : Link} (h : l.Hands m) (f : Latched) : l.Hands (m.latch f)

namespace Link.Hands

variable {l m n : Link}

theorem trans (h : l.Hands m) (h' : m.Hands n) : l.Hands n := by
  induction h' with
  | refl => exact h
  | event _ x ih => exact ih.event x
  | latch _ f ih => exact ih.latch f

theorem sound (h : l.Hands m) (hl : l.sound) : m.sound := by
  induction h with
  | refl => exact hl
  | event _ x ih => exact Link.sound_handEvent ih x
  | latch _ f ih => exact Link.sound_latch ih f

end Link.Hands

/-- Taking a frame when none is waiting but events, the transmitter sends no reply. -/
theorem Link.pump_unanswered {l : Link} (hr : l.reply = none) (hs : l.sendingReply = false) :
    l.pump.reply = none ∧ l.pump.sendingReply = false := by
  rcases Link.pump_cases l with hp | ⟨m, -, hm, -⟩ | ⟨m, n, e, rest, -, hm, -⟩ | ⟨e, rest, -, -, -, hp⟩
  · rw [hp]
    exact ⟨hr, hs⟩
  · simp [hr] at hm
  · simp [hr] at hm
  · rw [hp]
    exact ⟨hr, rfl⟩

/-- While a reply is being sent, none waits. -/
def Link.OneReply (l : Link) : Prop :=
  l.sendingReply = true → l.reply = none

theorem Link.OneReply.pump {l : Link} (h : l.OneReply) : l.pump.OneReply := by
  rcases Link.pump_cases l with hp | ⟨m, -, -, hp⟩ | ⟨m, n, e, rest, -, -, -, hp⟩ | ⟨e, rest, -, hr, -, hp⟩
  · rw [hp]
    exact h
  · rw [hp]
    exact fun _ => rfl
  · rw [hp]
    intro hs
    cases hs
  · rw [hp]
    exact fun _ => hr

theorem Link.OneReply.handEvent {l : Link} (h : l.OneReply) (x : Message) : (l.handEvent x).OneReply := by
  unfold Link.handEvent
  split
  · split
    · refine Link.OneReply.pump ?_
      exact h
    · exact h
  · exact h

theorem Link.handEvent_unanswered {l : Link} (hr : l.reply = none) (hs : l.sendingReply = false) (x : Message) :
    (l.handEvent x).reply = none ∧ (l.handEvent x).sendingReply = false := by
  unfold Link.handEvent
  split
  · split
    · exact Link.pump_unanswered hr hs
    · exact ⟨hr, hs⟩
  · exact ⟨hr, hs⟩

namespace Link.Hands

variable {l m : Link}

theorem inProgress (h : l.Hands m) : m.inProgress = l.inProgress := by
  induction h with
  | refl => rfl
  | event _ x ih => exact (Link.handEvent_inProgress _ x).trans ih
  | latch _ f ih => exact ih

theorem unanswered (h : l.Hands m) (hr : l.reply = none) (hs : l.sendingReply = false) :
    m.reply = none ∧ m.sendingReply = false := by
  induction h with
  | refl => exact ⟨hr, hs⟩
  | event _ x ih => exact Link.handEvent_unanswered ih.1 ih.2 x
  | latch _ f ih => exact ih

theorem oneReply (h : l.Hands m) (hl : l.OneReply) : m.OneReply := by
  induction h with
  | refl => exact hl
  | event _ x ih => exact ih.handEvent x
  | latch _ f ih => exact ih

end Link.Hands

/-! ## Who hands over what

The lemmas of this section are rewrite rules with a condition: an operation's link comes from k when the link before it
does. simp is to give a proof for the updates that leave the link (implicitDefEqProofs := false), so that it can discharge
the condition through them. -/

section
variable {k : Link} {p : Lane}

@[simp] theorem Link.hands_refl : k.Hands k := .refl

@[simp] theorem Link.hands_event {m : Link} (h : k.Hands m) (x : Message) : k.Hands (m.handEvent x) := h.event x

@[simp] theorem Link.hands_latch {m : Link} (h : k.Hands m) (f : Latched) : k.Hands (m.latch f) := h.latch f

@[simp] theorem Lane.scaleStateEvent_hands (hk : k.Hands p.link) (left : Nat) :
    k.Hands (p.scaleStateEvent left).link := by
  unfold Lane.scaleStateEvent
  simp [hk]

@[simp] theorem Lane.enterUnit_hands (hk : k.Hands p.link) (u : UnitState) : k.Hands (p.enterUnit u).link := by
  unfold Lane.enterUnit
  simp [hk]

@[simp] theorem Lane.restart_hands (hk : k.Hands p.link) : k.Hands p.restart.link := by
  unfold Lane.restart
  simp [hk]

@[simp] theorem Lane.weighDone_hands (hk : k.Hands p.link) (c : Capture) (o : CaptureOutcome) (more : List Field) :
    k.Hands (p.weighDone c o more).link := by
  unfold Lane.weighDone
  simp [hk]

@[simp] theorem Lane.endCapture_hands (hk : k.Hands p.link) (o : CaptureOutcome) (more : List Field) :
    k.Hands (p.endCapture o more).link := by
  unfold Lane.endCapture
  split <;> simp (implicitDefEqProofs := false) [hk]

@[simp] theorem Lane.powerUpZero_hands (hk : k.Hands p.link) (chain : Chain) : k.Hands (p.powerUpZero chain).link := by
  unfold Lane.powerUpZero
  repeat' split
  all_goals simp [hk]

@[simp] theorem Lane.zeroStage_hands (hk : k.Hands p.link) (chain : Chain) : k.Hands (p.zeroStage chain).link := by
  unfold Lane.zeroStage
  repeat' split
  all_goals simp [hk]

@[simp] theorem Lane.makeCapture_hands (hk : k.Hands p.link) (c : Capture) (chain : Chain) (amount : Int) :
    k.Hands (p.makeCapture c chain amount).link := by
  unfold Lane.makeCapture
  simp [hk]

@[simp] theorem Lane.judge_hands (hk : k.Hands p.link) (c : Capture) (chain : Chain) :
    k.Hands (p.judge c chain).link := by
  unfold Lane.judge
  dsimp only
  repeat' split
  all_goals simp [hk]

@[simp] theorem Lane.captureStage_hands (hk : k.Hands p.link) (chain : Chain) :
    k.Hands (p.captureStage chain).link := by
  unfold Lane.captureStage
  dsimp only
  repeat' split
  all_goals simp [hk]

@[simp] theorem Lane.feedStage_hands (hk : k.Hands p.link) : k.Hands p.feedStage.link := by
  unfold Lane.feedStage
  dsimp only
  split <;> simp [hk]

@[simp] theorem Lane.processSample_hands (hk : k.Hands p.link) (count : Int) :
    k.Hands (p.processSample count).link := by
  unfold Lane.processSample
  dsimp only
  split <;> simp (implicitDefEqProofs := false) (maxDischargeDepth := 8) [hk]

@[simp] theorem Lane.enterAdcFault_hands (hk : k.Hands p.link) : k.Hands p.enterAdcFault.link := by
  unfold Lane.enterAdcFault
  simp [hk]

@[simp] theorem Lane.sample_hands (hk : k.Hands p.link) (count : Int) : k.Hands (p.sample count).link := by
  unfold Lane.sample
  dsimp only
  repeat' split
  all_goals simp [hk]

@[simp] theorem Lane.captureExpire_hands (hk : k.Hands p.link) : k.Hands p.captureExpire.link := by
  unfold Lane.captureExpire
  split <;> simp (implicitDefEqProofs := false) [hk]

@[simp] theorem Lane.calStateEvent_hands (hk : k.Hands p.link) (left : Bool) (cause : CalCause) :
    k.Hands (p.calStateEvent left cause).link := by
  unfold Lane.calStateEvent
  simp [hk]

@[simp] theorem Lane.leaveCal_hands (hk : k.Hands p.link) (cause : CalCause) : k.Hands (p.leaveCal cause).link := by
  unfold Lane.leaveCal
  dsimp only
  split <;> simp (implicitDefEqProofs := false) [hk]

@[simp] theorem Lane.switchOpens_hands (hk : k.Hands p.link) : k.Hands p.switchOpens.link := by
  unfold Lane.switchOpens
  dsimp only
  split <;> simp (implicitDefEqProofs := false) [hk]

@[simp] theorem Lane.endCommit_hands (hk : k.Hands p.link) (outcome : List Field) :
    k.Hands (p.endCommit outcome).link := by
  unfold Lane.endCommit
  dsimp only
  split <;> simp (implicitDefEqProofs := false) [hk]

@[simp] theorem Lane.counterWriteEnd_hands (hk : k.Hands p.link) (result : WriteEnd) :
    k.Hands (p.counterWriteEnd result).link := by
  unfold Lane.counterWriteEnd
  repeat' split
  all_goals simp (implicitDefEqProofs := false) [hk]

@[simp] theorem Lane.recordWriteEnd_hands (hk : k.Hands p.link) (result : WriteEnd) :
    k.Hands (p.recordWriteEnd result).link := by
  unfold Lane.recordWriteEnd
  repeat' split
  all_goals simp (implicitDefEqProofs := false) [hk]

@[simp] theorem Lane.cardReadyEvent_hands (hk : k.Hands p.link) (e : CardEntry) :
    k.Hands (p.cardReadyEvent e).link := by
  unfold Lane.cardReadyEvent
  simp [hk]

@[simp] theorem Lane.promote_hands (hk : k.Hands p.link) : k.Hands p.promote.link := by
  unfold Lane.promote
  repeat' split
  all_goals simp (implicitDefEqProofs := false) [hk]

@[simp] theorem Lane.enterTender_hands (hk : k.Hands p.link) : k.Hands p.enterTender.link := by
  unfold Lane.enterTender
  simp (implicitDefEqProofs := false) [hk]

@[simp] theorem Lane.leaveTender_hands (hk : k.Hands p.link) : k.Hands p.leaveTender.link := by
  unfold Lane.leaveTender
  dsimp only
  split <;> simp [hk]

@[simp] theorem Lane.queueCard_hands (hk : k.Hands p.link) (r : SwipeResult) (i : Fin 24) (cls : CardClass) :
    k.Hands (p.queueCard r i cls).link := by
  unfold Lane.queueCard
  split <;> simp (implicitDefEqProofs := false) [hk]

@[simp] theorem Lane.loyaltyEvent_hands (hk : k.Hands p.link) (txn : Nat) (masked : Text) (head : Head) :
    k.Hands (p.loyaltyEvent txn masked head).link := by
  unfold Lane.loyaltyEvent
  simp [hk]

@[simp] theorem Lane.takeLoyalty_hands (hk : k.Hands p.link) (r : SwipeResult) (i : Fin 24) :
    k.Hands (p.takeLoyalty r i).link := by
  unfold Lane.takeLoyalty
  repeat' split
  all_goals simp (implicitDefEqProofs := false) [hk]

@[simp] theorem Lane.cardInvalid_hands (hk : k.Hands p.link) (r : SwipeResult) (reason : Nat) :
    k.Hands (p.cardInvalid r reason).link := by
  unfold Lane.cardInvalid
  simp [hk]

@[simp] theorem Lane.takeResult_hands (hk : k.Hands p.link) (r : SwipeResult) : k.Hands (p.takeResult r).link := by
  unfold Lane.takeResult
  repeat' split
  all_goals simp [hk]

@[simp] theorem Lane.applyHeldLoyalty_hands (hk : k.Hands p.link) (i : Fin 6) :
    k.Hands (p.applyHeldLoyalty i).link := by
  unfold Lane.applyHeldLoyalty
  repeat' split
  all_goals simp (implicitDefEqProofs := false) [hk]

@[simp] theorem Lane.expireCard_hands (hk : k.Hands p.link) (h : Nat) : k.Hands (p.expireCard h).link := by
  unfold Lane.expireCard
  split
  · exact hk
  split
  · exact hk
  · refine Lane.promote_hands ?_
    exact hk.event _

@[simp] theorem Lane.cardErrorEvent_hands (hk : k.Hands p.link) (h : Head) (a b : TrackReading) :
    k.Hands (p.cardErrorEvent h a b).link :=
  hk.event _

@[simp] theorem Lane.handOver_hands (hk : k.Hands p.link) (h : Head) (a b : TrackReading) :
    k.Hands (p.handOver h a b).link := by
  unfold Lane.handOver
  split
  · exact Lane.takeResult_hands hk _
  · exact Lane.takeResult_hands hk _
  · exact hk.event _

@[simp] theorem Lane.swipeEnd_hands (hk : k.Hands p.link) : k.Hands p.swipeEnd.link := by
  unfold Lane.swipeEnd
  split <;> simp (implicitDefEqProofs := false) [hk]

@[simp] theorem Lane.presenceEvent_hands (hk : k.Hands p.link) (d : Drawer) (l : TrayLevel) :
    k.Hands (p.presenceEvent d l).link := by
  unfold Lane.presenceEvent
  simp [hk]

@[simp] theorem Lane.forcedEvent_hands (hk : k.Hands p.link) (d : Drawer) : k.Hands (p.forcedEvent d).link := by
  unfold Lane.forcedEvent
  simp [hk]

@[simp] theorem Lane.closeDrawer_hands (hk : k.Hands p.link) (d : Drawer) : k.Hands (p.closeDrawer d).link := by
  unfold Lane.closeDrawer
  simp [hk]

@[simp] theorem Lane.openTooLong_hands (hk : k.Hands p.link) (d : Drawer) : k.Hands (p.openTooLong d).link := by
  unfold Lane.openTooLong
  simp [hk]

@[simp] theorem Lane.drawerDone_hands (hk : k.Hands p.link) (d : Drawer) (kick : Kick) (o : KickOutcome)
    (pulsed : Bool) : k.Hands (p.drawerDone d kick o pulsed).link :=
  hk.event _

@[simp] theorem Lane.reportKick_hands (hk : k.Hands p.link) (d : Drawer) (kick : Option Kick) (o : KickOutcome)
    (pulsed : Bool) : k.Hands (p.reportKick d kick o pulsed).link := by
  unfold Lane.reportKick
  split
  · exact Lane.drawerDone_hands hk _ _ _ _
  · exact hk

@[simp] theorem Lane.kickOpened_hands (hk : k.Hands p.link) (d : Drawer) : k.Hands (p.kickOpened d).link := by
  unfold Lane.kickOpened
  refine Lane.reportKick_hands ?_ _ _ _ _
  exact hk

@[simp] theorem Lane.pulseEnd_hands (hk : k.Hands p.link) : k.Hands p.pulseEnd.link := by
  unfold Lane.pulseEnd
  dsimp only
  repeat' split
  all_goals simp [hk]

@[simp] theorem Lane.currentFault_hands (hk : k.Hands p.link) (f : CurrentFault) : k.Hands (p.currentFault f).link := by
  unfold Lane.currentFault
  split
  · exact hk
  · refine Lane.reportKick_hands ?_ _ _ _ _
    simp [hk]

@[simp] theorem Lane.confirmExpire_hands (hk : k.Hands p.link) (d : Drawer) : k.Hands (p.confirmExpire d).link := by
  unfold Lane.confirmExpire
  split
  · exact hk
  · refine Lane.reportKick_hands ?_ _ _ _ _
    exact hk

@[simp] theorem Lane.alarmExpire_hands (hk : k.Hands p.link) (d : Drawer) : k.Hands (p.alarmExpire d).link := by
  unfold Lane.alarmExpire
  split <;> simp (implicitDefEqProofs := false) [hk]

@[simp] theorem Lane.becomeAbsent_hands (hk : k.Hands p.link) (d : Drawer) (pulsed : Bool) :
    k.Hands (p.becomeAbsent d pulsed).link := by
  unfold Lane.becomeAbsent
  refine Lane.reportKick_hands (Lane.presenceEvent_hands ?_ _ _) _ _ _ _
  exact hk

@[simp] theorem Lane.cutPulse_hands (hk : k.Hands p.link) : k.Hands p.cutPulse.link := by
  unfold Lane.cutPulse
  split <;> simp [hk]

@[simp] theorem Lane.settleDrawer_hands (hk : k.Hands p.link) (d : Drawer) : k.Hands (p.settleDrawer d).link := by
  unfold Lane.settleDrawer
  split <;> simp [hk]

@[simp] theorem Lane.trayRemoved_hands (hk : k.Hands p.link) (d : Drawer) : k.Hands (p.trayRemoved d).link := by
  unfold Lane.trayRemoved
  dsimp only
  repeat' split
  all_goals simp [hk]

@[simp] theorem Lane.trayInserted_hands (hk : k.Hands p.link) (d : Drawer) : k.Hands (p.trayInserted d).link := by
  unfold Lane.trayInserted
  dsimp only
  repeat' split
  all_goals simp [hk]

@[simp] theorem Lane.closedOpens_hands (hk : k.Hands p.link) (d : Drawer) : k.Hands (p.closedOpens d).link := by
  unfold Lane.closedOpens
  split
  · exact hk
  have hset : k.Hands (p.setClosed d .opened).link := hk
  dsimp only
  split
  · refine Lane.forcedEvent_hands ?_ _
    simpa using hset
  · refine Lane.reportKick_hands (Lane.forcedEvent_hands ?_ _) _ _ _ _
    simpa using hset
  · exact hset
  · exact Lane.kickOpened_hands hset d
  all_goals exact hset

@[simp] theorem Lane.closedCloses_hands (hk : k.Hands p.link) (d : Drawer) : k.Hands (p.closedCloses d).link := by
  unfold Lane.closedCloses
  dsimp only
  repeat' split
  all_goals simp [hk]

@[simp] theorem Lane.keyChange_hands (hk : k.Hands p.link) (position : KeyPosition) :
    k.Hands (p.keyChange position).link := by
  unfold Lane.keyChange
  split <;> simp [hk]

@[simp] theorem Lane.assistPress_hands (hk : k.Hands p.link) : k.Hands p.assistPress.link := by
  unfold Lane.assistPress
  simp [hk]

@[simp] theorem Lane.retime_hands (hk : k.Hands p.link) (d : Drawer) : k.Hands (p.retime d).link := by
  unfold Lane.retime
  repeat' split
  all_goals simp [hk]

@[simp] theorem Lane.pauseHead_hands (hk : k.Hands p.link) (r : PauseReason) : k.Hands (p.pauseHead r).link := by
  unfold Lane.pauseHead
  split <;> simp [hk]

@[simp] theorem Lane.startRow_hands (hk : k.Hands p.link) : k.Hands p.startRow.link := by
  unfold Lane.startRow
  split <;> simp [hk]

@[simp] theorem Lane.nextLine_hands (hk : k.Hands p.link) (j : Job) : k.Hands (p.nextLine j).link := by
  have hasked : k.Hands (p.askLine j).1.link := by simpa using hk
  unfold Lane.nextLine
  split
  all_goals
    rename_i hask
    rw [hask] at hasked
    refine Lane.startRow_hands ?_
    exact hasked

@[simp] theorem Lane.startHead_hands (hk : k.Hands p.link) : k.Hands p.startHead.link := by
  unfold Lane.startHead
  split <;> simp (implicitDefEqProofs := false) [hk]

@[simp] theorem Lane.appendJob_hands (hk : k.Hands p.link) (j : Job) : k.Hands (p.appendJob j).link := by
  unfold Lane.appendJob
  split <;> simp [hk]

@[simp] theorem Lane.placeJob_hands (hk : k.Hands p.link) (kind : JobKind) (i : Fin 6) :
    k.Hands (p.placeJob kind i).link := by
  unfold Lane.placeJob
  split
  · exact hk
  · exact Lane.appendJob_hands hk _

@[simp] theorem Lane.printDone_hands (hk : k.Hands p.link) (j : Job) (lines : Nat) :
    k.Hands (p.printDone j lines).link := by
  unfold Lane.printDone
  simp [hk]

@[simp] theorem Lane.printAborted_hands (hk : k.Hands p.link) (j : Job) (lines : Nat) :
    k.Hands (p.printAborted j lines).link := by
  unfold Lane.printAborted
  simp [hk]

@[simp] theorem Lane.jobEnd_hands (hk : k.Hands p.link) : k.Hands p.jobEnd.link := by
  unfold Lane.jobEnd
  split <;> simp [hk]

@[simp] theorem Lane.startCut_hands (hk : k.Hands p.link) : k.Hands p.startCut.link := by
  unfold Lane.startCut
  dsimp only
  repeat' split
  all_goals simp (implicitDefEqProofs := false) [hk]

@[simp] theorem Lane.jobRowEnd_hands (hk : k.Hands p.link) : k.Hands p.jobRowEnd.link := by
  unfold Lane.jobRowEnd
  dsimp only
  repeat' split
  all_goals simp (implicitDefEqProofs := false) [hk]

@[simp] theorem Lane.feedEnd_hands (hk : k.Hands p.link) (fed : Nat) (stopped : Option PauseReason) :
    k.Hands (p.feedEnd fed stopped).link := by
  unfold Lane.feedEnd
  simp (implicitDefEqProofs := false) [hk]

@[simp] theorem Lane.feedRowEnd_hands (hk : k.Hands p.link) (f : Feed) : k.Hands (p.feedRowEnd f).link := by
  unfold Lane.feedRowEnd
  dsimp only
  repeat' split
  all_goals simp (implicitDefEqProofs := false) [hk]

@[simp] theorem Lane.drained_hands (hk : k.Hands p.link) : k.Hands p.drained.link := by
  unfold Lane.drained
  simp (implicitDefEqProofs := false) [hk]

@[simp] theorem Lane.rowEnd_hands (hk : k.Hands p.link) : k.Hands p.rowEnd.link := by
  unfold Lane.rowEnd
  dsimp only
  repeat' split
  all_goals simp (implicitDefEqProofs := false) [hk]

@[simp] theorem Lane.cutEnd_hands (hk : k.Hands p.link) : k.Hands p.cutEnd.link := by
  unfold Lane.cutEnd
  dsimp only
  repeat' split
  all_goals simp (implicitDefEqProofs := false) [hk]

@[simp] theorem Lane.endPause_hands (hk : k.Hands p.link) (cause : Nat) : k.Hands (p.endPause cause).link := by
  unfold Lane.endPause
  simp [hk]

@[simp] theorem Lane.restartHead_hands (hk : k.Hands p.link) : k.Hands p.restartHead.link := by
  unfold Lane.restartHead
  split <;> simp [hk]

@[simp] theorem Lane.temperatureReading_hands (hk : k.Hands p.link) (t : Int) :
    k.Hands (p.temperatureReading t).link := by
  unfold Lane.temperatureReading
  dsimp only
  split <;> simp (implicitDefEqProofs := false) [hk]

@[simp] theorem Lane.printerInput_hands (hk : k.Hands p.link) (i : PrinterInput) : k.Hands (p.printerInput i).link := by
  unfold Lane.printerInput
  repeat' split
  all_goals simp [hk]

@[simp] theorem Lane.printRestart_hands (hk : k.Hands p.link) : k.Hands p.printRestart.link := by
  unfold Lane.printRestart
  split <;> simp (implicitDefEqProofs := false) [hk]

@[simp] theorem Lane.afterRemoval_hands (hk : k.Hands p.link) (j : Job) : k.Hands (p.afterRemoval j).link := by
  unfold Lane.afterRemoval
  repeat' split
  all_goals simp [hk]

@[simp] theorem Lane.settledEvent_hands (hk : k.Hands p.link) (i : Fin 6) (by_ : SettledBy) (auto : AutoOpen)
    (backlog : Bool) : k.Hands (p.settledEvent i by_ auto backlog).link := by
  unfold Lane.settledEvent
  simp [hk]

@[simp] theorem Lane.settle_hands (hk : k.Hands p.link) (i : Fin 6) (by_ : SettledBy) :
    k.Hands (p.settle i by_).link := by
  rw [Lane.settle_eq]
  refine Link.Hands.event (Lane.placeJob_hands ?_ _ _) _
  have hset : k.Hands (p.setCtx i ((p.ctx i).settled p.clock)).link := hk
  have hleft : k.Hands (if by_ = .total then p.setCtx i ((p.ctx i).settled p.clock)
      else (p.setCtx i ((p.ctx i).settled p.clock)).leaveTender).link := by
    split
    · exact hset
    · exact Lane.leaveTender_hands hset
  simpa using hleft

end

end Sys2Proof.Machine
end

section
/-! PROOFS. Every step keeps the lane link's bounds and one request at a time (R10, R182, R186 to R189). -/

namespace Sys2Proof.Machine

/-! ## Requests and the link -/

section
variable {k : Link} {p : Lane}

theorem checked_hands {l : List (Bool × Answer)} {act : Lane → Lane × Answer} (hk : k.Hands p.link)
    (hact : k.Hands (act p).1.link) : k.Hands (checked l act p).1.link :=
  checked_keeps (I := fun q => k.Hands q.link) hk fun _ => hact

theorem doTotal_hands (hk : k.Hands p.link) : k.Hands (doTotal p).1.link := by
  refine checked_hands hk (checked_hands hk ?_)
  unfold Lane.totalSale
  split
  · exact hk
  dsimp only
  split
  · exact Lane.enterTender_hands (p := p.setSaleState _ _) hk
  · exact Lane.settle_hands hk _ _

theorem doBackToItems_hands (hk : k.Hands p.link) : k.Hands (doBackToItems p).1.link := by
  refine checked_hands hk ?_
  unfold Lane.backToItems
  split
  · exact hk
  · exact Lane.leaveTender_hands (p := p.setSaleState _ _) hk

theorem doCancelSale_hands (hk : k.Hands p.link) : k.Hands (doCancelSale p).1.link := by
  refine checked_hands hk ?_
  unfold Lane.cancelSale
  split
  · exact hk
  have hended := Lane.endCapture_hands hk .cancelled []
  refine Lane.placeJob_hands ?_ _ _
  rw [Lane.setCtx_link]
  split
  · exact Lane.leaveTender_hands hended
  · exact hended

theorem doSuspend_hands (hk : k.Hands p.link) : k.Hands (doSuspend p).1.link := by
  refine checked_hands hk ?_
  unfold Lane.suspendSale
  split
  · exact hk
  · exact Lane.endCapture_hands hk .cancelled []

theorem doWeighCancel_hands (hk : k.Hands p.link) : k.Hands (doWeighCancel p).1.link :=
  checked_hands hk (Lane.endCapture_hands hk .cancelled [])

theorem doCalEnter_hands (hk : k.Hands p.link) : k.Hands (doCalEnter p).1.link :=
  checked_hands hk (hk.event _)

theorem doCalExit_hands (hk : k.Hands p.link) : k.Hands (doCalExit p).1.link := by
  unfold doCalExit
  split
  · exact hk
  · exact Lane.leaveCal_hands hk _
  · exact hk
  · exact hk

theorem doCardDiscard_hands (hk : k.Hands p.link) (n : Nat) : k.Hands (doCardDiscard n p).1.link :=
  checked_hands hk (Lane.promote_hands (p := p.removeCard n) hk)

theorem doDeclineCard_hands (hk : k.Hands p.link) (n : Nat) : k.Hands (doDeclineCard n p).1.link := by
  refine checked_hands hk ?_
  unfold Lane.declineCard
  split
  · exact hk
  · refine Lane.promote_hands ?_
    exact hk.event _

theorem doDrawerSetup_hands (hk : k.Hands p.link) (ms alarm : Nat) (b : Byte) :
    k.Hands (doDrawerSetup ms alarm b p).1.link := by
  refine checked_hands hk (Lane.retime_hands (Lane.retime_hands ?_ _) _)
  exact hk

theorem doPrintAbort_hands (hk : k.Hands p.link) : k.Hands (doPrintAbort p).1.link := by
  refine checked_hands hk ?_
  unfold Lane.abortSlip
  split
  · exact hk
  · rename_i j _
    have hremoved : k.Hands (p.removeSlip j).freePlace.link := by simpa using hk
    exact Lane.afterRemoval_hands (Lane.printAborted_hands hremoved _ _) _

theorem doPrintResume_hands (hk : k.Hands p.link) : k.Hands (doPrintResume p).1.link := by
  refine checked_hands hk ?_
  unfold Lane.resumePrint
  split
  · exact hk
  · exact Lane.endPause_hands hk 1

theorem doReprint_hands (hk : k.Hands p.link) : k.Hands (doReprint p).1.link := by
  refine checked_hands hk ?_
  unfold Lane.reprint
  split
  · exact hk
  · refine Lane.appendJob_hands ?_ _
    exact hk

theorem doSlip_hands (hk : k.Hands p.link) (lines : List Text) : k.Hands (doSlip lines p).1.link := by
  refine checked_hands hk (Lane.appendJob_hands ?_ _)
  exact hk

theorem Lane.takeTender_hands (hk : k.Hands p.link) (t : Tender) (by_ : SettledBy) {stay : Lane → Lane}
    (hstay : ∀ q : Lane, k.Hands q.link → k.Hands (stay q).link) : k.Hands (p.takeTender t by_ stay).1.link := by
  unfold Lane.takeTender
  split
  · exact hk
  dsimp only
  split
  · refine hstay _ ?_
    exact hk
  · refine Lane.settle_hands ?_ _ _
    exact hk

theorem doTenderCash_hands (hk : k.Hands p.link) (amount : Int) : k.Hands (doTenderCash amount p).1.link := by
  rw [doTenderCash, withTenderReply_fst, Lane.cashTender]
  exact checked_hands hk (checked_hands hk (Lane.takeTender_hands hk _ _ fun _ hq => hq))

theorem doTenderCard_hands (hk : k.Hands p.link) (n : Nat) (amount cashback : Int) (approval : Text) :
    k.Hands (doTenderCard n amount cashback approval p).1.link := by
  rw [doTenderCard, withTenderReply_fst, Lane.cardTender]
  refine checked_hands hk (checked_hands hk ?_)
  split
  · exact hk
  · refine checked_hands hk (checked_hands hk (checked_hands hk ?_))
    refine Lane.takeTender_hands ?_ _ _ fun _ hq => Lane.promote_hands hq
    exact hk

end

/-! ## Who starts no write of a number -/

theorem checked_writesNumber {l : List (Bool × Answer)} {act : Lane → Lane × Answer} {p : Lane}
    (hw : p.store.writesNumber = false) (hact : (act p).1.store.writesNumber = false) :
    (checked l act p).1.store.writesNumber = false :=
  checked_keeps (I := fun q => q.store.writesNumber = false) hw fun _ => hact

theorem doCalExit_writesNumber {p : Lane} (hw : p.store.writesNumber = false) :
    (doCalExit p).1.store.writesNumber = false := by
  unfold doCalExit
  split
  · exact hw
  · simpa using hw
  · exact hw
  · exact hw

/-- No request but BEGIN starts the write of a number. -/
theorem serveRequest_writesNumber {c : Instr} (hc : ∀ tag, c ≠ .beginSale tag) {p : Lane}
    (hw : p.store.writesNumber = false) : (serveRequest c p).store.writesNumber = false := by
  have hserve : ∀ {body : Lane → Lane × Answer}, (body p).1.store.writesNumber = false →
      (Lane.serve body p).store.writesNumber = false := fun hb => by simpa [Lane.serve] using hb
  cases c with
  | beginSale tag => exact absurd rfl (hc tag)
  | calEnter => exact hserve (checked_writesNumber hw hw)
  | calExit => exact hserve (doCalExit_writesNumber hw)
  | calZero => exact hserve (checked_writesNumber hw (checked_writesNumber hw hw))
  | calSpan => exact hserve (checked_writesNumber hw (checked_writesNumber hw hw))
  | calSet => exact hserve (checked_writesNumber hw (checked_writesNumber hw hw))
  | calCommit => exact hserve (checked_writesNumber hw (checked_writesNumber hw rfl))
  | _ => simpa [serveRequest, Lane.serve] using hw

theorem Lane.endCommit_writesNumber (outcome : List Field) (p : Lane) :
    (p.endCommit outcome).store.writesNumber = false := by
  unfold Lane.endCommit
  dsimp only
  split
  · rfl
  · rw [Lane.leaveCal_writesNumber]
    rfl
  all_goals rfl

theorem Lane.counterWriteEnd_writesNumber (result : WriteEnd) (p : Lane) :
    (p.counterWriteEnd result).store.writesNumber = p.store.writesNumber := by
  unfold Lane.counterWriteEnd
  split
  · rename_i hwrite
    have hw : p.store.writesNumber = false := by simp [Store.writesNumber, hwrite]
    rw [hw]
    split
    · rfl
    · exact Lane.endCommit_writesNumber _ _
  · rfl

theorem Lane.recordWriteEnd_writesNumber (result : WriteEnd) (p : Lane) :
    (p.recordWriteEnd result).store.writesNumber = p.store.writesNumber := by
  unfold Lane.recordWriteEnd
  split
  · rename_i hwrite
    have hw : p.store.writesNumber = false := by simp [Store.writesNumber, hwrite]
    rw [hw]
    split <;> exact Lane.endCommit_writesNumber _ _
  · rfl

theorem Lane.switchOpens_writesNumber (p : Lane) : p.switchOpens.store.writesNumber = p.store.writesNumber := by
  unfold Lane.switchOpens
  dsimp only
  split
  · rw [Lane.leaveCal_writesNumber]
    rfl
  all_goals rfl

/-! ## A request being served (R182, R185) -/

/-- The link and the request in progress are sound. -/
structure Lane.LinkSound (p : Lane) : Prop where
  link : p.link.sound
  request : p.requestSound

/-- The link while a request is served: the request is in progress and unanswered. -/
structure Link.Serving (l : Link) : Prop where
  sound : l.sound
  busy : l.inProgress ≠ none
  reply : l.reply = none
  sending : l.sendingReply = false

theorem Link.Serving.hands {l m : Link} (h : l.Serving) (hk : l.Hands m) : m.Serving where
  sound := hk.sound h.sound
  busy := by
    rw [hk.inProgress]
    exact h.busy
  reply := (hk.unanswered h.reply h.sending).1
  sending := (hk.unanswered h.reply h.sending).2

theorem Link.Serving.linkSound {p : Lane} (h : p.link.Serving) (hw : p.store.writesNumber = false) : p.LinkSound :=
  ⟨h.sound, fun hnone => absurd hnone h.busy, fun _ => h.reply, fun hwrites => absurd (hw.symm.trans hwrites) (by simp)⟩

/-- A reply handed over leaves the link sound, and one reply. -/
theorem Lane.respond_linkSound {p : Lane} (hl : p.link.Serving) (hw : p.store.writesNumber = false) (a : Answer) :
    (p.respond a).LinkSound := by
  unfold Lane.respond
  split
  · rename_i t ht
    refine ⟨Link.sound_handReply hl.sound _, ?_, ?_, ?_⟩
    · intro hnone
      have hkept : (p.link.handReply ⟨t.code, t.tag, a.allFields⟩).inProgress = p.link.inProgress :=
        Link.pump_inProgress _
      exact absurd (hkept.symm.trans hnone) hl.busy
    · refine Link.OneReply.pump (l := { p.link with reply := some ⟨⟨t.code, t.tag, a.allFields⟩, p.link.events.length⟩ }) ?_
      intro hs
      exact absurd (hl.sending.symm.trans hs) (by simp)
    · intro hwrites
      exact absurd (hw.symm.trans hwrites) (by simp)
  · rename_i hnone
    exact absurd hnone hl.busy

theorem Lane.serve_linkSound {p : Lane} {body : Lane → Lane × Answer} (hl : (body p).1.link.Serving)
    (hw : (body p).1.store.writesNumber = false) : (p.serve body).LinkSound :=
  Lane.respond_linkSound hl hw _

/-- BEGIN is answered, or in progress and unanswered while its number is written (R10). -/
theorem Lane.serveBegin_linkSound {p : Lane} (hl : p.link.Serving) (hw : p.store.writesNumber = false) :
    p.serveBegin.LinkSound := by
  unfold Lane.serveBegin
  split
  · exact Lane.respond_linkSound hl hw _
  · exact ⟨hl.sound, fun hnone => absurd hnone hl.busy, fun _ => hl.reply, fun _ => ⟨hl.busy, hl.reply, hl.sending⟩⟩

theorem checked_serving {l : List (Bool × Answer)} {act : Lane → Lane × Answer} {p : Lane} (hl : p.link.Serving)
    (hact : (∀ x ∈ l, x.1 = false) → (act p).1.link.Serving) : (checked l act p).1.link.Serving :=
  checked_keeps (I := fun q => q.link.Serving) hl hact

theorem doFlagsClear_serving {p : Lane} (hl : p.link.Serving) (set : BitVec 16) :
    (doFlagsClear set p).1.link.Serving := by
  obtain ⟨hevents, hahead, hidle, hflags, henabled, hclock⟩ := hl.sound
  refine checked_serving hl fun _ => ⟨⟨hevents, hahead, hidle, ?_, henabled, hclock⟩, hl.busy, hl.reply, hl.sending⟩
  calc (p.link.flags &&& ~~~set) &&& 0xF800#16 = (p.link.flags &&& 0xF800#16) &&& ~~~set := by
        rw [BitVec.and_assoc, BitVec.and_comm (~~~set), ← BitVec.and_assoc]
    _ = 0#16 := by rw [hflags, BitVec.zero_and]

theorem doEventMask_serving {p : Lane} (hl : p.link.Serving) (set : BitVec 32) :
    (doEventMask set p).1.link.Serving := by
  obtain ⟨hevents, hahead, hidle, hflags, -, hclock⟩ := hl.sound
  refine checked_serving hl fun hchecks => ⟨⟨hevents, hahead, hidle, hflags, ?_, hclock⟩, hl.busy, hl.reply, hl.sending⟩
  simpa using hchecks

theorem doClockSet_serving {p : Lane} (hl : p.link.Serving) (t : DateTime) : (doClockSet t p).1.link.Serving := by
  obtain ⟨hevents, hahead, hidle, hflags, henabled, -⟩ := hl.sound
  refine checked_serving hl fun hchecks => ⟨⟨hevents, hahead, hidle, hflags, henabled, ?_⟩, hl.busy, hl.reply, hl.sending⟩
  rintro u ⟨⟩
  simpa using hchecks

theorem doLinkRate_serving {p : Lane} (hl : p.link.Serving) (r : Byte) : (doLinkRate r p).1.link.Serving := by
  unfold doLinkRate
  split
  · exact hl
  · exact ⟨hl.sound, hl.busy, hl.reply, hl.sending⟩

/-- Every request served leaves the link sound, and one request. -/
theorem serveRequest_linkSound (c : Instr) {p : Lane} (hl : p.link.Serving) (hw : p.store.writesNumber = false) : (serveRequest c p).LinkSound := by
  have hwrites : ∀ {body : Lane → Lane × Answer}, (p.serve body).store.writesNumber = false →
      (body p).1.store.writesNumber = false := fun hb => by simpa [Lane.serve] using hb
  have hhands : ∀ {body : Lane → Lane × Answer}, (p.serve body).store.writesNumber = false →
      p.link.Hands (body p).1.link → (p.serve body).LinkSound := fun hb hk =>
    Lane.serve_linkSound (hl.hands hk) (hwrites hb)
  have hsame : ∀ {body : Lane → Lane × Answer}, (p.serve body).store.writesNumber = false →
      (body p).1.link = p.link → (p.serve body).LinkSound := fun hb hk =>
    hhands hb (hk ▸ .refl)
  by_cases hbegin : ∃ tag, c = .beginSale tag
  · obtain ⟨tag, rfl⟩ := hbegin
    exact Lane.serveBegin_linkSound hl hw
  have hserved : (serveRequest c p).store.writesNumber = false :=
    serveRequest_writesNumber (fun tag ht => hbegin ⟨tag, ht⟩) hw
  have hrefl : p.link.Hands p.link := .refl
  cases c with
  | beginSale tag => exact absurd ⟨tag, rfl⟩ hbegin
  | total => exact hhands hserved (doTotal_hands hrefl)
  | backToItems => exact hhands hserved (doBackToItems_hands hrefl)
  | cancelSale => exact hhands hserved (doCancelSale_hands hrefl)
  | suspend => exact hhands hserved (doSuspend_hands hrefl)
  | weighCancel => exact hhands hserved (doWeighCancel_hands hrefl)
  | calEnter => exact hhands hserved (doCalEnter_hands hrefl)
  | calExit => exact hhands hserved (doCalExit_hands hrefl)
  | cardDiscard _ n => exact hhands hserved (doCardDiscard_hands hrefl n)
  | declineCard _ n => exact hhands hserved (doDeclineCard_hands hrefl n)
  | drawerSetup _ ms a b => exact hhands hserved (doDrawerSetup_hands hrefl ms a b)
  | printAbort => exact hhands hserved (doPrintAbort_hands hrefl)
  | printResume => exact hhands hserved (doPrintResume_hands hrefl)
  | reprint => exact hhands hserved (doReprint_hands hrefl)
  | slip _ lines => exact hhands hserved (doSlip_hands hrefl lines)
  | tenderCash _ a => exact hhands hserved (doTenderCash_hands hrefl a)
  | tenderCard _ n a x code => exact hhands hserved (doTenderCard_hands hrefl n a x code)
  | flagsClear _ set => exact Lane.serve_linkSound (doFlagsClear_serving hl set) (hwrites hserved)
  | eventMask _ set => exact Lane.serve_linkSound (doEventMask_serving hl set) (hwrites hserved)
  | clockSet _ y mo d h mi s => exact Lane.serve_linkSound (doClockSet_serving hl _) (hwrites hserved)
  | linkRate _ r => exact Lane.serve_linkSound (doLinkRate_serving hl r) (hwrites hserved)
  | item | voidItem | resume | dropSuspended | saleStatus | saleItems | zero | tare | tarePreset | tareClear
  | scaleSetup | weightRead | scaleFeed | weigh | calZero | calSpan | calSet | calCommit | identify | readerEnable
  | rangeWrite | rangeMask | rangeRead | cardSetup | cardFetch | cardList | settleSetup | saleTenders | drawerOpen
  | noSale | drawerClearFault | drawerSelect | assistClear | light | drawerStatus | headerSet | headerRead | feed
  | printStatus | status | resetLane | unknownRequest => exact hsame hserved (by simp [doIdentify])
  | _ => exact hl.linkSound hw

theorem serveFrame_linkSound (f : Frame) {p : Lane} (hl : p.link.Serving) (hw : p.store.writesNumber = false) :
    (serveFrame f p).LinkSound := by
  rcases hf : parseRequest f with _ | _ | c
  all_goals simp only [serveFrame, hf]
  · exact Lane.serve_linkSound hl hw
  · exact Lane.serve_linkSound hl hw
  · exact serveRequest_linkSound c hl hw

/-! ## The serial line (R182, R183, R186, R190, R191) -/

namespace Lane.LinkSound

variable {p : Lane}

/-- Events handed over and flags latched, with no number's write begun. -/
theorem hands {q : Lane} (h : p.LinkSound) (hk : p.link.Hands q.link)
    (hw : q.store.writesNumber = p.store.writesNumber) : q.LinkSound := by
  obtain ⟨hsound, hnone, hone, hwrites⟩ := h
  refine ⟨hk.sound hsound, fun hidle => ?_, hk.oneReply hone, fun hq => ?_⟩
  · obtain ⟨hr, hs⟩ := hnone (hk.inProgress ▸ hidle)
    exact hk.unanswered hr hs
  · obtain ⟨hbusy, hr, hs⟩ := hwrites (hw ▸ hq)
    obtain ⟨hr, hs⟩ := hk.unanswered hr hs
    refine ⟨?_, hr, hs⟩
    rw [hk.inProgress]
    exact hbusy

/-- What the receiver collects or holds is no part of the link's soundness. -/
theorem setReceiver (h : p.LinkSound) (r : Receiver) : (p.setReceiver r).LinkSound :=
  ⟨h.link, h.request⟩

theorem byteWhileHeld (h : p.LinkSound) : (p.withLink Link.byteWhileHeld).LinkSound := by
  have hk : ∀ l : Link, l.Hands ((l.handEvent ⟨0x9E#8, 0x00#8, [.name 1]⟩).latch .rxOverrun) := fun l =>
    (Link.Hands.refl.event _).latch _
  rcases hr : p.link.receiver with _ | buffer | ⟨f, _ | _⟩
  case held.false =>
    refine (h.setReceiver (.held f true)).hands (q := p.withLink Link.byteWhileHeld) ?_ rfl
    have heq : (p.withLink Link.byteWhileHeld).link =
        ((p.setReceiver (.held f true)).link.handEvent ⟨0x9E#8, 0x00#8, [.name 1]⟩).latch .rxOverrun := by
      simp [Lane.withLink, Link.byteWhileHeld, hr, Lane.setReceiver]
    rw [heq]
    exact hk _
  all_goals
    have heq : p.withLink Link.byteWhileHeld = p := by simp [Lane.withLink, Link.byteWhileHeld, hr]
    rw [heq]
    exact h

/-- With no request in progress one may be taken; it is then served. -/
theorem take (h : p.LinkSound) (hidle : p.link.inProgress = none) (f : Frame) {serve : Lane → Lane}
    (hs : ∀ q : Lane, q.link.Serving → q.store.writesNumber = false → (serve q).LinkSound) : (p.take f serve).LinkSound := by
  obtain ⟨hsound, hnone, -, hwrites⟩ := h
  obtain ⟨hr, hsend⟩ := hnone hidle
  refine hs _ ⟨hsound, by simp, hr, hsend⟩ ?_
  by_contra hw
  exact (hwrites (by simpa using hw)).1 hidle

theorem arrive (h : p.LinkSound) (f : Frame) {serve : Lane → Lane}
    (hs : ∀ q : Lane, q.link.Serving → q.store.writesNumber = false → (serve q).LinkSound) :
    (p.arrive f serve).LinkSound := by
  unfold Lane.arrive
  split
  · exact h.byteWhileHeld
  all_goals
    split
    · exact h.setReceiver _
    · exact h.take ‹_› f hs

theorem badCrc (h : p.LinkSound) (code tag : Byte) : (p.badCrc code tag).LinkSound :=
  (h.setReceiver .hunt).hands ((Link.Hands.refl.event _).latch _) rfl

theorem abandonFrame (h : p.LinkSound) : p.abandonFrame.LinkSound := by
  unfold Lane.abandonFrame
  split
  · exact h.setReceiver .hunt
  all_goals exact h

theorem abandonByte (h : p.LinkSound) : p.abandonByte.LinkSound := by
  unfold Lane.abandonByte
  split
  · exact h.byteWhileHeld
  all_goals exact h.abandonFrame

theorem frameBadCrc (h : p.LinkSound) (code tag : Byte) : (p.frameBadCrc code tag).LinkSound := by
  unfold Lane.frameBadCrc
  split
  · exact h.byteWhileHeld
  all_goals exact h.badCrc code tag

theorem byteReceived (h : p.LinkSound) (b : Byte) : (p.byteReceived b).LinkSound := by
  unfold Lane.byteReceived
  split
  · split
    · exact h.setReceiver _
    · exact h
  · unfold Lane.collectByte
    split
    · exact h.setReceiver _
    split
    · unfold Lane.frameComplete
      dsimp only
      split
      · exact (h.setReceiver .hunt).arrive _ fun _ => serveFrame_linkSound _
      · exact h.badCrc _ _
    · exact h.setReceiver _
  · exact h.byteWhileHeld

/-- The lane reset of a part that writes no number. -/
theorem laneReset (henabled : p.link.enabled.getLsbD 31 = false) (hclock : ∀ t ∈ p.link.clock, t.valid = true)
    (hw : p.store.writesNumber = false) : p.laneReset.LinkSound := by
  have hlink : p.laneReset.link = p.link.laneReset := by
    unfold Lane.laneReset Lane.cutForReset
    split <;> rfl
  have hstore : p.laneReset.store.writesNumber = false := by simpa [Lane.laneReset] using hw
  refine ⟨?_, ?_, ?_, fun hwrites => absurd (hstore.symm.trans hwrites) (by simp)⟩
  · rw [hlink]
    exact ⟨by simp [Link.laneReset], by simp [Link.laneReset], fun _ => ⟨rfl, rfl⟩, by simp [Link.laneReset], henabled,
      hclock⟩
  · rw [hlink]
    exact fun _ => ⟨rfl, rfl⟩
  · rw [hlink]
    exact fun _ => rfl

end Lane.LinkSound

namespace Lane.LinkSound

variable {p : Lane}

/-- The line becomes free after an event, and the transmitter takes its next frame. -/
theorem eventSent (h : p.LinkSound) : (p.lineFree.withLink Link.pump).LinkSound := by
  obtain ⟨⟨hevents, hahead, -, hflags, henabled, hclock⟩, hnone, -, hwrites⟩ := h
  refine ⟨Link.sound_pump hevents hahead hflags henabled hclock, ?_, ?_, ?_⟩
  · intro hidle
    rw [Lane.withLink_link, Link.pump_inProgress] at hidle
    exact Link.pump_unanswered (hnone hidle).1 rfl
  · exact Link.OneReply.pump (l := { p.link with sending := none }) fun hs => by cases hs
  · intro hw
    obtain ⟨hbusy, hr, -⟩ := hwrites hw
    rw [Lane.withLink_link, Link.pump_inProgress]
    exact ⟨hbusy, Link.pump_unanswered (l := { p.link with sending := none }) hr rfl⟩

/-- The rate change leaves the frames, the flags, the clock and the store. -/
theorem changeRate_keeps (p : Lane) :
    p.changeRate.link = { p.link with
      receiver := p.changeRate.link.receiver, rate := p.changeRate.link.rate, newRate := p.changeRate.link.newRate } ∧
      p.changeRate.store = p.store := by
  unfold Lane.changeRate
  split
  · exact ⟨rfl, rfl⟩
  · unfold Lane.abandonFrame
    split <;> exact ⟨rfl, rfl⟩

theorem replySent (h : p.LinkSound) {m : Message} (hm : p.link.sending = some (.reply m)) :
    (p.replySent m).LinkSound := by
  obtain ⟨⟨hevents, -, -, hflags, henabled, hclock⟩, -, hone, hwrites⟩ := h
  have hsending : p.link.sendingReply = true := by simp [Link.sendingReply, hm]
  have hreply := hone hsending
  have hw : p.store.writesNumber = false := by
    by_contra hw
    have hunsent := (hwrites (by simpa using hw)).2.2
    exact absurd (hunsent.symm.trans hsending) (by simp)
  unfold Lane.replySent
  dsimp only
  split
  · exact laneReset henabled hclock hw
  generalize hfree : (p.lineFree.withLink fun l => { l with inProgress := none }) = q
  obtain ⟨hrate, hstore⟩ := changeRate_keeps q
  have hq : q.link = { p.link with sending := none, inProgress := none } ∧ q.store = p.store := by
    rw [← hfree]
    exact ⟨rfl, rfl⟩
  have hnext : (q.changeRate.withLink Link.pump).LinkSound := by
    have hunanswered : q.changeRate.link.reply = none ∧ q.changeRate.link.sendingReply = false := by
      rw [hrate, hq.1]
      exact ⟨hreply, rfl⟩
    have hpumped := Link.pump_unanswered hunanswered.1 hunanswered.2
    refine ⟨?_, fun _ => hpumped, fun _ => hpumped.1, fun hwrites => ?_⟩
    · rw [Lane.withLink_link]
      refine Link.sound_pump ?_ (by simp [hunanswered.1]) ?_ ?_ ?_
      all_goals rw [hrate, hq.1]
      · exact hevents
      · exact hflags
      · exact henabled
      · exact hclock
    · have hstored : (q.changeRate.withLink Link.pump).store.writesNumber = false := by
        rw [Lane.withLink, hstore, hq.2]
        exact hw
      exact absurd (hstored.symm.trans hwrites) (by simp)
  have hidle : (q.changeRate.withLink Link.pump).link.inProgress = none := by
    rw [Lane.withLink_link, Link.pump_inProgress, hrate, hq.1]
  unfold Lane.takeHeld
  split
  · exact hnext.take hidle _ fun _ => serveFrame_linkSound _
  all_goals exact hnext

theorem frameSent (h : p.LinkSound) : p.frameSent.LinkSound := by
  unfold Lane.frameSent
  split
  · exact h
  · exact h.eventSent
  · exact h.replySent ‹_›

theorem lineEvent (h : p.LinkSound) (c : Instr) : (Machine.lineEvent c p).LinkSound := by
  cases c with
  | laneReset =>
    refine iteInduction (fun _ => h) fun hb => ?_
    obtain ⟨-, -, -, -, henabled, hclock⟩ := h.link
    have hb : p.beginWriting = false := by simpa using hb
    exact laneReset henabled hclock hb
  | linkRateChange => exact iteInduction (fun _ => h.frameSent) fun _ => h
  | heldFrameTaken => exact iteInduction (fun _ => h.frameSent) fun _ => h
  | frameSent => exact h.frameSent
  | frameBadCrc code tag => exact h.frameBadCrc code tag
  | frameLengthAbandon => exact h.abandonByte
  | gapLimitExpiry => exact h.abandonFrame
  | stopBitError => exact h.abandonByte
  | byteWhileHeld => exact h.byteWhileHeld
  | byteReceived byte => exact h.byteReceived byte
  | _ => exact h

end Lane.LinkSound

/-! ## The clock, BEGIN's write, and the other events of the blocks -/

theorem one_le_daysInMonth (year month : Nat) : 28 ≤ daysInMonth year month := by
  unfold daysInMonth
  split_ifs <;> omega

theorem DateTime.valid_iff (t : DateTime) : t.valid = true ↔ t.year ≤ 99 ∧ 1 ≤ t.month ∧ t.month ≤ 12 ∧ 1 ≤ t.day ∧
    t.day ≤ daysInMonth t.year t.month ∧ t.hour ≤ 23 ∧ t.minute ≤ 59 ∧ t.second ≤ 59 := by
  simp only [DateTime.valid, Bool.and_eq_true, decide_eq_true_eq, and_assoc]

theorem DateTime.valid_nextDay {t : DateTime} (h : t.valid = true) : t.nextDay.valid = true := by
  obtain ⟨hyear, hmonth, hmonth', hday, hday', -⟩ := (DateTime.valid_iff t).mp h
  unfold DateTime.nextDay
  dsimp only
  split
  · refine (DateTime.valid_iff _).mpr ⟨hyear, hmonth, hmonth', ?_, ?_, ?_⟩ <;> dsimp only <;> omega
  split
  · have hlength := one_le_daysInMonth t.year (t.month + 1)
    refine (DateTime.valid_iff _).mpr ⟨hyear, ?_, ?_, ?_, ?_, ?_⟩ <;> dsimp only <;> omega
  split
  · have hlength := one_le_daysInMonth (t.year + 1) 1
    refine (DateTime.valid_iff _).mpr ⟨?_, ?_, ?_, ?_, ?_, ?_⟩ <;> dsimp only <;> omega
  · have hlength := one_le_daysInMonth 0 1
    refine (DateTime.valid_iff _).mpr ⟨?_, ?_, ?_, ?_, ?_, ?_⟩ <;> dsimp only <;> omega

theorem DateTime.valid_nextSecond {t : DateTime} (h : t.valid = true) : t.nextSecond.valid = true := by
  obtain ⟨hyear, hmonth, hmonth', hday, hday', hhour, hminute, hsecond⟩ := (DateTime.valid_iff t).mp h
  unfold DateTime.nextSecond
  split
  · refine (DateTime.valid_iff _).mpr ⟨hyear, hmonth, hmonth', hday, hday', hhour, hminute, ?_⟩
    dsimp only
    omega
  split
  · refine (DateTime.valid_iff _).mpr ⟨hyear, hmonth, hmonth', hday, hday', hhour, ?_, ?_⟩ <;> dsimp only <;> omega
  split
  · refine (DateTime.valid_iff _).mpr ⟨hyear, hmonth, hmonth', hday, hday', ?_, ?_, ?_⟩ <;> dsimp only <;> omega
  · exact DateTime.valid_nextDay h

namespace Lane.LinkSound

variable {p : Lane}

theorem clockTick (h : p.LinkSound) : p.clockTick.LinkSound := by
  obtain ⟨⟨hevents, hahead, hidle, hflags, henabled, hclock⟩, hrequest⟩ := h
  refine ⟨⟨hevents, hahead, hidle, hflags, henabled, ?_⟩, hrequest⟩
  intro t ht
  obtain ⟨u, hu, rfl⟩ := Option.mem_map.mp ht
  exact DateTime.valid_nextSecond (hclock u hu)

theorem openSale (hl : p.link.Serving) (hw : p.store.writesNumber = false) (txn : Nat) : (p.openSale txn).LinkSound := by
  unfold Lane.openSale
  dsimp only
  split
  · refine Lane.respond_linkSound ?_ ?_ _
    · simpa using hl
    · simpa using hw
  · refine Lane.respond_linkSound (hl.hands (Lane.applyHeldLoyalty_hands ?_ _)) ?_ _
    · simp
    · simpa using hw

theorem txnWriteEnd (h : p.LinkSound) (result : WriteEnd) : (p.txnWriteEnd result).LinkSound := by
  unfold Lane.txnWriteEnd
  split
  · rename_i n hwrite
    obtain ⟨hbusy, hr, hs⟩ := h.request.2.2 (by simp [Store.writesNumber, hwrite])
    have hserving : p.link.Serving := ⟨h.link, hbusy, hr, hs⟩
    split
    · refine openSale ?_ rfl _
      exact hserving
    · refine Lane.respond_linkSound ?_ rfl _
      exact hserving
  · exact h

theorem startUp (i : ResetInputs) (torn : TornRecord) (n : Nat) {clock : Option DateTime} (m left : Nat) (p : Lane)
    (hclock : ∀ t ∈ clock, t.valid = true) : (p.startUp i torn n clock m left).LinkSound := by
  have hfresh : ((Link.restarted i.straps clock m).counterCheck (p.store.startUp i.switch torn).lastTxn).sound ∧
      ((Link.restarted i.straps clock m).counterCheck (p.store.startUp i.switch torn).lastTxn).inProgress = none ∧
      ((Link.restarted i.straps clock m).counterCheck (p.store.startUp i.switch torn).lastTxn).reply = none ∧
      ((Link.restarted i.straps clock m).counterCheck (p.store.startUp i.switch torn).lastTxn).sendingReply = false := by
    have hrestarted : (Link.restarted i.straps clock m).sound := by
      refine ⟨by simp [Link.restarted, Link.reset], by simp [Link.restarted, Link.reset], fun _ => ⟨rfl, rfl⟩, ?_, ?_, hclock⟩
      · exact (by decide : 0#16 &&& 0xF800#16 = 0#16)
      · exact (by decide : (0x7FFFFFFF#32).getLsbD 31 = false)
    unfold Link.counterCheck
    split
    · exact ⟨hrestarted, rfl, rfl, rfl⟩
    · exact ⟨Link.sound_latch hrestarted _, rfl, rfl, rfl⟩
  obtain ⟨hsound, hidle, hr, hs⟩ := hfresh
  unfold Lane.startUp
  refine hands (p := { p with
      link := (Link.restarted i.straps clock m).counterCheck (p.store.startUp i.switch torn).lastTxn
      store := p.store.startUp i.switch torn }) ?_ (Lane.scaleStateEvent_hands (by simp) _) ?_
  · exact ⟨hsound, fun _ => ⟨hr, hs⟩, fun _ => hr, fun hw => by cases hw⟩
  · simp

theorem blockEvent (h : p.LinkSound) (c : Instr) : (Machine.blockEvent c p).LinkSound := by
  have hrefl : p.link.Hands p.link := .refl
  cases c with
  | powerOn => exact startUp _ _ _ _ _ _ (by simp)
  | resetInput =>
    obtain ⟨-, -, -, -, -, hclock⟩ := h.link
    exact startUp _ _ _ _ _ _ hclock
  | txnNumberWriteEnd result => exact h.txnWriteEnd result
  | clockTick => exact h.clockTick
  | calCounterWriteEnd => exact h.hands (Lane.counterWriteEnd_hands hrefl _) (Lane.counterWriteEnd_writesNumber _ _)
  | calRecordWriteEnd => exact h.hands (Lane.recordWriteEnd_hands hrefl _) (Lane.recordWriteEnd_writesNumber _ _)
  | calSwitchOpening => exact h.hands (Lane.switchOpens_hands hrefl) (Lane.switchOpens_writesNumber _)
  | calSwitchClosing => exact h.hands hrefl rfl
  | _ => exact h.hands (by simp [Machine.blockEvent]) (by simp [Machine.blockEvent])

end Lane.LinkSound

/-- Settles O54: every request, every event of a block and every event of the serial line keeps the link, and so every
step does. -/
theorem linkStaysSound : Obligations.LinkStaysSound := by
  intro s t hl hr hstep
  have h : s.toLane.LinkSound := ⟨hl, hr⟩
  have ht : t.toLane.LinkSound := by
    obtain ht | ⟨c, ⟨f, ht⟩ | ht | ht⟩ := step_cases hstep
    · rw [ht]
      exact ⟨hl, hr⟩
    · rw [ht]
      exact h.arrive f fun _ => serveRequest_linkSound c
    · rw [ht]
      exact h.blockEvent c
    · rw [ht]
      exact h.lineEvent c
  exact ⟨ht.link, ht.request⟩

end Sys2Proof.Machine
end

section
/-! PROOFS. The lane link: requests held and taken, the transmitter, the receiver, and the link's own requests (R8, R181
to R192). -/

namespace Sys2Proof.Machine

/-! ## Requests held (R182, R183) -/

/-- Settles O3: what a complete frame finds of the receiver decides, with a request in progress. -/
theorem requestIsHeldWhileOneIsInProgress : Obligations.RequestIsHeldWhileOneIsInProgress := by
  intro c f t s hf ht
  rw [exec_request hf, State.advance, Lane.arrive]
  rcases hr : s.link.receiver with _ | buffer | ⟨g, _ | _⟩
  · simp only [ht]
    rfl
  · simp only [ht]
    rfl
  · simp only [Link.byteWhileHeld, hr]
    rfl
  · simp only [Link.byteWhileHeld, hr]

/-! ## The transmitter (R186, R187) -/

/-- Settles O5: the enable set, the room and the line decide for an event, the line for a reply. -/
theorem eventsAndRepliesWaitInOrder : Obligations.EventsAndRepliesWaitInOrder := by
  refine ⟨fun m l => ⟨fun hoff => ?_, fun hon hfull => ?_, fun hon hroom hbusy => ?_, fun hon hempty hidle hreply => ?_⟩,
    fun m l => ⟨fun hbusy => ?_, fun hidle hempty => ?_⟩⟩
  · have henables : l.enables m = false := hoff
    simp [Link.handEvent, henables]
  · have henables : l.enables m = true := hon
    simp [Link.handEvent, henables, hfull, Link.latch, Latched.bit]
  · have henables : l.enables m = true := hon
    rw [Link.handEvent, if_pos henables, if_pos hroom]
    exact Link.pump_busy hbusy
  · have henables : l.enables m = true := hon
    simp [Link.handEvent, henables, hempty, Link.pump, hidle, hreply]
  · exact Link.pump_busy hbusy
  · simp [Link.handReply, Link.pump, hidle, hempty]

/-! ## The end of a frame on the line (R182, R186, R190) -/

@[simp] theorem Link.nextFrame_receiver (l : Link) : l.nextFrame.receiver = l.receiver := by
  rw [← Link.pump_free, Link.pump_receiver]

@[simp] theorem Link.nextFrame_inProgress (l : Link) : l.nextFrame.inProgress = l.inProgress := by
  rw [← Link.pump_free, Link.pump_inProgress]

/-- The last byte of a reply with no rate waiting. -/
theorem Lane.replySent_noRate {p : Lane} {m : Message} (hm : m.resetsLane = false) (hrate : p.link.newRate = none) :
    p.replySent m = Lane.takeHeld { p with link := Link.nextFrame { p.link with inProgress := none } } := by
  have hkept : (p.lineFree.withLink fun l => { l with inProgress := none }).changeRate =
      p.lineFree.withLink fun l => { l with inProgress := none } := by
    unfold Lane.changeRate
    simp [Lane.withLink, Lane.lineFree, hrate]
  rw [Lane.replySent, if_neg (by simp [hm]), hkept, ← Link.pump_free]
  rfl

/-- The receiver after a rate change. -/
def Receiver.abandoned : Receiver → Receiver
  | .collect _ => .hunt
  | r => r

/-- The last byte of a reply with a rate waiting: the rate changes, and a frame in COLLECT is abandoned. -/
theorem Lane.replySent_rate {p : Lane} {m : Message} {r : LinkRate} (hm : m.resetsLane = false)
    (hrate : p.link.newRate = some r) :
    p.replySent m = Lane.takeHeld { p with link := Link.nextFrame { p.link with
      inProgress := none, rate := r, newRate := none, receiver := p.link.receiver.abandoned } } := by
  have hchanged : (p.lineFree.withLink fun l => { l with inProgress := none }).changeRate =
      { p with link := { p.link with
        sending := none, inProgress := none, rate := r, newRate := none, receiver := p.link.receiver.abandoned } } := by
    unfold Lane.changeRate Lane.abandonFrame
    rcases hreceiver : p.link.receiver <;>
      simp [Lane.withLink, Lane.lineFree, Lane.setReceiver, hrate, hreceiver, Receiver.abandoned]
  rw [Lane.replySent, if_neg (by simp [hm]), hchanged, ← Link.pump_free]
  rfl

theorem Lane.takeHeld_of_not_holding {p : Lane} (h : p.link.holding = false) : p.takeHeld = p := by
  unfold Lane.takeHeld
  split
  · rename_i hr
    simp [Link.holding, hr] at h
  all_goals rfl

/-- What the request in a frame does to a state: the request's own command, UNKNOWN_REQUEST or BAD_VALUE (R184). -/
def State.carries (f : Frame) (t : State) : Host.Outcome State Fault Refusal :=
  match parseRequest f with
  | .request c => exec c t
  | .unknown => exec (.unknownRequest f.code f.tag f.payload) t
  | .unreadable => t.says f.code f.tag [.status .badValue]

theorem advance_take_serveFrame {s : State} (f : Frame) (hp : s.link.inProgress = none) (hr : s.link.receiver = .hunt) :
    s.advance (Lane.take f (serveFrame f)) = s.carries f :=
  take_serveFrame f s hp hr

/-- Taking the held frame is what its request does in HUNT with none in progress. -/
theorem advance_takeHeld {s : State} {l : Link} {f : Frame} {o : Bool} (hr : l.receiver = .held f o)
    (hp : l.inProgress = none) :
    s.advance (fun p => Lane.takeHeld { p with link := l }) =
      State.carries f { s with link := { l with receiver := .hunt } } := by
  rw [← advance_take_serveFrame (s := { s with link := { l with receiver := .hunt } }) f hp rfl]
  simp only [State.advance, Lane.takeHeld, hr]
  rfl

theorem exec_frameSent_reply {s : State} {m : Message} (hs : s.link.sending = some (.reply m)) :
    exec .frameSent s = s.advance (Lane.replySent m) := by
  have hframe : s.toLane.frameSent = s.toLane.replySent m := by simp [Lane.frameSent, hs]
  exact congrArg (fun p => Host.Outcome.next { s with toLane := p }) hframe

theorem exec_linkRateChange_eq (s : State) :
    exec .linkRateChange s =
      if s.link.sendingReply = true ∧ s.link.newRate.isSome = true then exec .frameSent s else .next s := by
  change s.advance _ = _
  unfold State.advance
  split <;> rfl

theorem exec_heldFrameTaken_eq (s : State) :
    exec .heldFrameTaken s =
      if s.link.sendingReply = true ∧ s.link.holding = true then exec .frameSent s else .next s := by
  change s.advance _ = _
  unfold State.advance
  split <;> rfl

theorem Link.sendingReply_of {l : Link} {m : Message} (h : l.sending = some (.reply m)) : l.sendingReply = true := by
  simp [Link.sendingReply, h]

theorem Link.holding_of {l : Link} {f : Frame} {o : Bool} (h : l.receiver = .held f o) : l.holding = true := by
  simp [Link.holding, h]

/-- With no frame held the receiver is in HUNT after a rate change. -/
theorem Receiver.abandoned_of_not_holding {l : Link} (h : l.holding = false) : l.receiver.abandoned = .hunt := by
  rcases hr : l.receiver with _ | b | ⟨f, o⟩
  · rfl
  · rfl
  · simp [Link.holding, hr] at h

/-- Settles O6: what was being sent, the rate waiting and the frame held decide. -/
theorem frameSentStartsWhatFollows : Obligations.FrameSentStartsWhatFollows := by
  refine ⟨fun s => ⟨fun hs => ?_, fun m hs => ?_, fun m hs hm hrate hhold => ?_⟩,
    fun s => ⟨fun m r hs hm hrate hhold => ?_, fun hrate => ?_, fun hs => ?_⟩,
    fun s => ⟨⟨fun m f o hs hm hrate hr => ?_, fun m f o r hs hm hrate hr => ?_⟩, fun hs hrate => ?_, fun hs hhold => ?_,
      fun hhold => ?_, fun hs => ?_⟩⟩
  · have hframe : s.toLane.frameSent = s.toLane := by simp [Lane.frameSent, hs]
    exact congrArg (fun p => Host.Outcome.next { s with toLane := p }) hframe
  · have hframe : s.toLane.frameSent = { s.toLane with link := s.link.nextFrame } := by
      simp only [Lane.frameSent, hs, ← Link.pump_free]
      rfl
    exact congrArg (fun p => Host.Outcome.next { s with toLane := p }) hframe
  · have hnext : (Link.nextFrame { s.link with inProgress := none }).holding = false := by
      simpa [Link.holding] using hhold
    rw [exec_frameSent_reply hs, State.advance, Lane.replySent_noRate hm hrate, Lane.takeHeld_of_not_holding hnext]
    rfl
  · rw [exec_linkRateChange_eq, if_pos ⟨Link.sendingReply_of hs, by simp [hrate]⟩, exec_frameSent_reply hs, State.advance,
      Lane.replySent_rate hm hrate, Receiver.abandoned_of_not_holding hhold, Lane.takeHeld_of_not_holding]
    · rfl
    · simp [Link.holding]
  · rw [exec_linkRateChange_eq, if_neg (by simp [hrate])]
  · rw [exec_linkRateChange_eq, if_neg (by simp [hs])]
  · rw [exec_heldFrameTaken_eq, if_pos ⟨Link.sendingReply_of hs, Link.holding_of hr⟩, exec_frameSent_reply hs, State.advance,
      Lane.replySent_noRate hm hrate]
    refine advance_takeHeld (o := o) ?_ ?_
    · simpa using hr
    · simp
  · rw [exec_heldFrameTaken_eq, if_pos ⟨Link.sendingReply_of hs, Link.holding_of hr⟩, exec_frameSent_reply hs, State.advance,
      Lane.replySent_rate hm hrate]
    have hheld : s.link.receiver.abandoned = s.link.receiver := by simp [hr, Receiver.abandoned]
    rw [hheld]
    refine advance_takeHeld (o := o) ?_ ?_
    · simpa using hr
    · simp
  · rw [exec_linkRateChange_eq, if_pos ⟨hs, by simpa [Option.isSome_iff_ne_none] using hrate⟩]
  · rw [exec_heldFrameTaken_eq, if_pos ⟨hs, hhold⟩]
  · rw [exec_heldFrameTaken_eq, if_neg (by simp [hhold])]
  · rw [exec_heldFrameTaken_eq, if_neg (by simp [hs])]

/-! ## The receiver (R182, R183) -/

theorem exec_byteWhileHeld_eq (s : State) :
    exec .byteWhileHeld s =
      match s.link.receiver with
      | .held f false =>
        s.linked ((({ s.link with receiver := .held f true }).saying 0x9E#8 [.name 1]).latch .rxOverrun)
      | _ => .next s := by
  change s.linked s.link.byteWhileHeld = _
  rcases hr : s.link.receiver with _ | buffer | ⟨f, _ | _⟩
  · have hsame : s.link.byteWhileHeld = s.link := by simp only [Link.byteWhileHeld, hr]
    exact congrArg (fun l => s.linked l) hsame
  · have hsame : s.link.byteWhileHeld = s.link := by simp only [Link.byteWhileHeld, hr]
    exact congrArg (fun l => s.linked l) hsame
  · have hfirst : s.link.byteWhileHeld =
        (({ s.link with receiver := .held f true }).saying 0x9E#8 [.name 1]).latch .rxOverrun := by
      rw [Link.byteWhileHeld, hr]
      exact Eq.refl _
    exact congrArg (fun l => s.linked l) hfirst
  · have hsame : s.link.byteWhileHeld = s.link := by simp only [Link.byteWhileHeld, hr]
    exact congrArg (fun l => s.linked l) hsame

theorem advance_eq {s : State} {f : Lane → Lane} {q : Lane} (h : f s.toLane = q) :
    s.advance f = .next { s with toLane := q } := by
  rw [State.advance, h]

/-- A step of the part that amounts to a new link. -/
theorem advance_linked {s : State} {f : Lane → Lane} {l : Link} (h : f s.toLane = { s.toLane with link := l }) :
    s.advance f = s.linked l :=
  advance_eq h

theorem advance_same {s : State} {f : Lane → Lane} (h : f s.toLane = s.toLane) : s.advance f = .next s :=
  advance_eq h

/-- The last byte of a frame: a CRC that disagrees discards it, otherwise the frame is held or taken. -/
theorem advance_frameComplete (s : State) (bytes : List Byte) :
    s.advance (Lane.frameComplete bytes) =
      if crcAgrees bytes = false then s.linked (s.link.discards (bufferFrame bytes).code (bufferFrame bytes).tag)
      else if s.link.inProgress.isSome = true then s.linked { s.link with receiver := .held (bufferFrame bytes) false }
      else State.carries (bufferFrame bytes) { s with link := { s.link with receiver := .hunt } } := by
  rcases hcrc : crcAgrees bytes with _ | _
  · rw [if_pos rfl]
    exact advance_linked (by simp only [Lane.frameComplete, hcrc]; rfl)
  · rw [if_neg (by simp)]
    rcases hp : s.link.inProgress with _ | t
    · rw [if_neg (by simp), ← advance_take_serveFrame (s := { s with link := { s.link with receiver := .hunt } }) _ hp rfl]
      simp only [State.advance, Lane.frameComplete, hcrc, if_true, Lane.arrive, Lane.setReceiver, Lane.withLink, hp]
    · rw [if_pos (by simp)]
      exact advance_linked (by
        simp only [Lane.frameComplete, hcrc, if_true, Lane.arrive, Lane.setReceiver, Lane.withLink, hp])

/-- A byte in COLLECT (R182). -/
theorem advance_collectByte (s : State) (bytes : List Byte) :
    s.advance (Lane.collectByte bytes) =
      if bytes.length = 3 ∧ 1400 < payloadLength bytes then s.linked { s.link with receiver := .hunt }
      else if 3 ≤ bytes.length ∧ bytes.length = 7 + payloadLength bytes then
        if crcAgrees bytes = false then s.linked (s.link.discards (bufferFrame bytes).code (bufferFrame bytes).tag)
        else if s.link.inProgress.isSome = true then s.linked { s.link with receiver := .held (bufferFrame bytes) false }
        else State.carries (bufferFrame bytes) { s with link := { s.link with receiver := .hunt } }
      else s.linked { s.link with receiver := .collect bytes } := by
  rw [← advance_frameComplete]
  unfold State.advance Lane.collectByte
  split
  · rfl
  split
  · rfl
  · rfl

theorem exec_byteReceived_eq (b : Byte) (s : State) :
    exec (.byteReceived b) s =
      match s.link.receiver with
      | .hunt => if b = 0x5A#8 then s.linked { s.link with receiver := .collect [0x5A#8] } else .next s
      | .held _ _ => exec .byteWhileHeld s
      | .collect buffer => s.advance (Lane.collectByte (buffer ++ [b])) := by
  change s.advance (Lane.byteReceived b) = _
  rcases hr : s.link.receiver with _ | buffer | ⟨f, o⟩
  · dsimp only
    split
    · rename_i hb
      exact advance_linked (by simp only [Lane.byteReceived, hr, hb, if_true]; rfl)
    · rename_i hb
      exact advance_same (by simp only [Lane.byteReceived, hr, hb, if_false])
  · simp only [State.advance, Lane.byteReceived, hr]
  · have hheld : s.toLane.byteReceived b = s.toLane.withLink Link.byteWhileHeld := by simp only [Lane.byteReceived, hr]
    exact advance_eq hheld

/-- With no frame held, abandoning a frame leaves the receiver in HUNT. -/
theorem Lane.abandonFrame_of_not_holding {p : Lane} (h : p.link.holding = false) :
    p.abandonFrame = { p with link := { p.link with receiver := .hunt } } := by
  rcases hr : p.link.receiver with _ | b | ⟨f, o⟩
  · have hsame : { p.link with receiver := .hunt } = p.link := by rw [← hr]
    rw [Lane.abandonFrame, hr, hsame]
  · rw [Lane.abandonFrame, hr]
    rfl
  · simp [Link.holding, hr] at h

theorem Lane.abandonByte_of_not_holding {p : Lane} (h : p.link.holding = false) :
    p.abandonByte = { p with link := { p.link with receiver := .hunt } } := by
  rw [← Lane.abandonFrame_of_not_holding h]
  unfold Lane.abandonByte
  split
  · rename_i hr
    simp [Link.holding, hr] at h
  all_goals rfl

/-- Settles O9: the receiver's state decides what a byte or the end of a frame does. -/
theorem receiverTakesAndDiscardsBytes : Obligations.ReceiverTakesAndDiscardsBytes := by
  refine ⟨fun b s => ?_, exec_byteWhileHeld_eq, fun code tag s => ⟨fun hhold => ?_, fun hhold => ?_⟩⟩
  · rw [exec_byteReceived_eq]
    rcases s.link.receiver with _ | buffer | ⟨f, o⟩
    · rfl
    · exact advance_collectByte s (buffer ++ [b])
    · rfl
  · refine ⟨advance_linked ?_, advance_linked ?_, advance_linked ?_, advance_linked ?_⟩
    · rw [Lane.frameBadCrc]
      split
      · rename_i hr
        simp [Link.holding, hr] at hhold
      all_goals rfl
    · exact Lane.abandonByte_of_not_holding hhold
    · exact Lane.abandonFrame_of_not_holding hhold
    · exact Lane.abandonByte_of_not_holding hhold
  · rcases hr : s.link.receiver with _ | b | ⟨f, o⟩
    · simp [Link.holding, hr] at hhold
    · simp [Link.holding, hr] at hhold
    · have hbyte : s.toLane.abandonByte = s.toLane.withLink Link.byteWhileHeld := by
        simp only [Lane.abandonByte, hr]
      have hbad : s.toLane.frameBadCrc code tag = s.toLane.withLink Link.byteWhileHeld := by
        simp only [Lane.frameBadCrc, hr]
      have hframe : s.toLane.abandonFrame = s.toLane := by simp only [Lane.abandonFrame, hr]
      exact ⟨advance_eq hbad, advance_eq hbyte, advance_same hframe, advance_eq hbyte⟩

/-! ## The link's requests (R187 to R192) -/

theorem exec_flagsClear {s : State} (h : s.takes) (tag : Byte) (set : BitVec 16) :
    exec (.flagsClear tag set) s = s.answering (doFlagsClear set (s.toLane.begun 0x71#8 tag)) :=
  request_answering (f := ⟨0x71#8, tag, put16 set.toNat⟩) h rfl (doFlagsClear set)

theorem exec_eventMask {s : State} (h : s.takes) (tag : Byte) (set : BitVec 32) :
    exec (.eventMask tag set) s = s.answering (doEventMask set (s.toLane.begun 0x75#8 tag)) :=
  request_answering (f := (requestFrame (.eventMask tag set)).getD ⟨0, 0, []⟩) h rfl (doEventMask set)

/-- A request answered after a change of the link alone, which leaves the receiver and the request in progress. -/
theorem answering_linked {s : State} {code tag : Byte} {p : Lane} {l : Link}
    (h : p = { s.toLane with link := l.taking code tag }) (a : Answer) :
    s.answering (p, a) = s.linked (l.answered code tag [] a.allFields) := by
  rw [h]
  rfl

/-- Settles O10: one check each, then the set written. -/
theorem flagsAndEnableSetAreWritten : Obligations.FlagsAndEnableSetAreWritten := by
  refine ⟨fun tag set s hs => ?_, fun tag set s hs => ?_⟩
  · rw [exec_flagsClear hs]
    refine answering_check (by simp) rfl fun _ => ?_
    exact answering_linked (l := { s.link with flags := s.link.flags &&& ~~~set }) rfl _
  · rw [exec_eventMask hs]
    refine answering_check Iff.rfl rfl fun _ => ?_
    exact answering_linked (l := { s.link with enabled := set }) rfl _

theorem exec_clockSet {s : State} (h : s.takes) (tag : Byte) (t : DateTime) :
    exec (.clockSet tag t.year t.month t.day t.hour t.minute t.second) s =
      s.answering (doClockSet t (s.toLane.begun 0x72#8 tag)) :=
  request_answering (f := (requestFrame (.clockSet tag t.year t.month t.day t.hour t.minute t.second)).getD ⟨0, 0, []⟩)
    h rfl (doClockSet t)

/-- Settles O11: CLOCK_SET's one check, then the clock written; CLOCK_TICK by the cases of the calendar. -/
theorem clockIsSetAndAdvances : Obligations.ClockIsSetAndAdvances := by
  refine ⟨fun tag y mo d h mi sec s hs => ?_, fun s => ⟨s.link.clock.map DateTime.nextSecond, rfl, ?_, ?_⟩⟩
  · have hvalid := DateTime.valid_iff ⟨y, mo, d, h, mi, sec⟩
    rw [exec_clockSet hs tag ⟨y, mo, d, h, mi, sec⟩]
    refine Eq.trans ?_ (ite_not _ _ _)
    refine answering_check (Iff.trans (by simp) (not_congr hvalid)) rfl fun _ => ?_
    exact answering_linked
      (l := { s.link with clock := some ⟨y, mo, d, h, mi, sec⟩, nextSecond := s.now + 1000000 }) rfl _
  · intro hnone
    rw [hnone]
    rfl
  · intro t ht
    rw [ht]
    refine ⟨fun hs => ?_, fun hs hm => ?_, fun hs hm hh => ?_, fun hs hm hh => ⟨fun hd => ?_, fun hd hmo => ?_,
      fun hd hmo hy => ?_, fun hd hmo hy => ?_⟩⟩
    · simp [DateTime.nextSecond, hs]
    · simp [DateTime.nextSecond, hs, hm]
    · simp [DateTime.nextSecond, hs, hm, hh]
    · simp [DateTime.nextSecond, DateTime.nextDay, hs, hm, hh, hd]
    · simp [DateTime.nextSecond, DateTime.nextDay, hs, hm, hh, hd, hmo]
    · simp [DateTime.nextSecond, DateTime.nextDay, hs, hm, hh, hd, hmo, hy, daysInMonth]
    · simp [DateTime.nextSecond, DateTime.nextDay, hs, hm, hh, hd, hmo, hy, daysInMonth]

theorem exec_linkRate {s : State} (h : s.takes) (tag b : Byte) :
    exec (.linkRate tag b) s = s.answering (doLinkRate b (s.toLane.begun 0x73#8 tag)) :=
  request_answering (f := ⟨0x73#8, tag, [b]⟩) h rfl (doLinkRate b)

theorem exec_resetLane {s : State} (h : s.takes) (tag : Byte) :
    exec (.resetLane tag) s = s.answering (doResetLane (s.toLane.begun 0x74#8 tag)) :=
  request_answering (f := ⟨0x74#8, tag, []⟩) h rfl doResetLane

theorem exec_unknownRequest {s : State} (h : s.takes) (code tag : Byte) (payload : Text) :
    exec (.unknownRequest code tag payload) s = s.answering (doUnknownRequest (s.toLane.begun code tag)) :=
  request_answering (f := ⟨code, tag, payload⟩) h rfl doUnknownRequest

theorem Message.resetsLane_reply (tag : Byte) : Message.resetsLane ⟨0x74#8, tag, [.status .ok]⟩ = true := by
  simp [Message.resetsLane]

/-- Settles O12: the byte of LINK_RATE names a rate or none; the end of RESET_LANE's reply is the lane reset. -/
theorem linkRequestsAreAnswered : Obligations.LinkRequestsAreAnswered := by
  refine ⟨fun code tag payload s hs => ?_, fun tag b s hs => ⟨?_, ?_⟩, fun tag s hs => ?_⟩
  · rw [exec_unknownRequest hs]
    exact answering_same _ _ _ _
  · rw [exec_linkRate hs, doLinkRate, rateOf]
    have hrate : ∀ r : LinkRate, s.answering
        ((s.toLane.begun 0x73#8 tag).withLink fun l => { l with newRate := some r }, ok []) =
        s.linked (Link.answered { s.link with newRate := some r } 0x73#8 tag [] [.status .ok]) := fun r =>
      answering_linked (l := { s.link with newRate := some r }) rfl _
    split_ifs
    · exact hrate _
    · exact hrate _
    · exact hrate _
    · exact hrate _
    · exact answering_same _ _ _ _
  · rw [exec_resetLane hs]
    exact answering_same _ _ _ _
  · have hframe : exec .frameSent s = s.becomes s.toLane.laneReset :=
      (exec_frameSent_reply hs).trans (advance_eq (Lane.replySent_resetsLane _ _ (Message.resetsLane_reply tag)))
    refine ⟨hframe, fun hwrite => ?_⟩
    have hno : s.toLane.beginWriting = false := by
      unfold Lane.beginWriting
      split
      · exact absurd ‹_› (hwrite _)
      · rfl
    rw [hframe]
    refine (advance_eq (f := fun p => if p.beginWriting then p else p.laneReset) ?_).symm
    simp [hno]

/-! ## The state after reset (R24, R195) -/

/-- The link after reset sends the weighing unit's first event. -/
theorem Link.reset_sound : Link.reset.sound := by
  refine ⟨Nat.zero_le 16, by simp [Link.reset], by simp [Link.reset], by decide, by decide, by simp [Link.reset]⟩

theorem Till.reset_sound : Till.reset.sound := by
  refine Till.sound_of_idle (fun d => ?_) rfl rfl rfl rfl rfl
  cases d <;> decide

/-- Settles O60: the reset values meet each condition, block by block. -/
theorem resetIsSound : Obligations.ResetIsSound := by
  obtain ⟨hbacklog, hroles⟩ := (Lane.rolesHeld_iff Lane.reset).mp (Lane.rolesHeld_of_freed rfl rfl rfl rfl rfl rfl)
  refine ⟨Link.reset_sound, by simp [Lane.requestSound, State.reset, Lane.reset, Link.reset, Link.sendingReply, Store.reset,
      Store.writesNumber], hbacklog, hroles, Lane.amountsSound_of_freed rfl rfl, Till.reset_sound,
    Printer.sound_of_idle rfl rfl rfl ⟨rfl, rfl, rfl, rfl, rfl⟩, by simp [State.reset, Lane.reset, Cards.sound, Cards.reset]⟩

end Sys2Proof.Machine
end

section
/-! PROOFS. The requests of chapter 1 that open, end and move sales: BEGIN and its write, TOTAL, RESUME, DROP_SUSPENDED and
CANCEL_SALE. -/

namespace Sys2Proof.Machine

/-! ## BEGIN (R10) -/

/-- A request taken at once is served with the receiver in HUNT and the request in progress. -/
theorem Lane.arrive_takes {s : State} (h : s.takes) (f : Frame) (serve : Lane → Lane) :
    s.toLane.arrive f serve = serve (s.toLane.begun f.code f.tag) := by
  obtain ⟨hfree, hhold⟩ := h
  rcases hr : s.link.receiver with _ | buffer | ⟨g, o⟩
  · simp only [Lane.arrive, hr, hfree]
    rfl
  · simp only [Lane.arrive, hr, hfree]
    rfl
  · simp [Link.holding, hr] at hhold

/-- The checks of a request whose reply comes later: the first that fails is answered, otherwise q is what follows. -/
def Lane.refusedOr (l : List (Bool × Answer)) (q p : Lane) : Lane :=
  match firstFailing l with
  | some a => p.respond a
  | none => q

theorem becomes_refusedOr {s : State} {code tag : Byte} {b : Bool} {a : Answer} {l : List (Bool × Answer)} {q : Lane}
    {c : Prop} [Decidable c] {fields : List Field} {rest : Host.Outcome State Fault Refusal} (hb : b = true ↔ c)
    (ha : a.allFields = fields) (hrest : s.becomes (Lane.refusedOr l q (s.toLane.begun code tag)) = rest) :
    s.becomes (Lane.refusedOr ((b, a) :: l) q (s.toLane.begun code tag)) =
      if c then s.says code tag fields else rest := by
  cases b with
  | true =>
    rw [if_pos (hb.mp rfl), ← ha]
    rfl
  | false =>
    rw [if_neg fun hc => Bool.false_ne_true (hb.mpr hc), ← hrest]
    rfl

theorem exec_beginSale {s : State} (h : s.takes) (tag : Byte) :
    exec (.beginSale tag) s = s.becomes (s.toLane.begun 0x10#8 tag).serveBegin :=
  advance_eq (Lane.arrive_takes h ⟨0x10#8, tag, []⟩ Lane.serveBegin)

/-- No context can be had: none is FREE, and the LAST_PRINTED one, if any, is pinned (R10 step 5). -/
theorem Lane.obtainable_eq_false_iff (p : Lane) :
    (!p.obtainable) = true ↔
      p.firstOf .free = none ∧ ∀ i, p.firstOf .lastPrinted = some i → (p.ctx i).pin ≠ 0 := by
  rcases hlast : p.firstOf .lastPrinted with _ | i <;> simp [Lane.obtainable, Lane.reclaimable, hlast]

theorem nextTxn_eq (n : Nat) : nextTxn n = if n < 65535 then n + 1 else 1 := by
  unfold nextTxn
  split_ifs <;> omega

/-- Settles O13: the five checks one after another, then the write. -/
theorem beginWritesTheNextNumber : Obligations.BeginWritesTheNextNumber := by
  intro tag s hs
  have hchecks : (s.toLane.begun 0x10#8 tag).serveBegin =
      Lane.refusedOr (s.toLane.begun 0x10#8 tag).beginChecks
        { s.toLane.begun 0x10#8 tag with
          store := { s.store with write := some (.txnNumber (nextTxn s.sale.counter)) } } (s.toLane.begun 0x10#8 tag) := rfl
  rw [exec_beginSale hs, hchecks, Lane.beginChecks]
  refine becomes_refusedOr (Store.inCal_iff _) rfl ?_
  refine becomes_refusedOr (by simp [Lane.noSaleOpen, Option.isSome_iff_ne_none]) rfl ?_
  refine becomes_refusedOr (Till.locked_iff _) rfl ?_
  refine becomes_refusedOr (by simp [Till.interlocked, DrawerRecord.isOpen, or_assoc]) rfl ?_
  refine becomes_refusedOr (Lane.obtainable_eq_false_iff _) rfl ?_
  rw [nextTxn_eq]
  rfl

/-! ## The end of BEGIN's write (R9, R10) -/

theorem Lane.obtain_of_free {p : Lane} {i : Fin 6} (h : p.firstOf .free = some i) : p.obtain = p := by
  rw [Lane.obtain, h]

theorem Lane.obtain_of_lastPrinted {p : Lane} {i : Fin 6} (hfree : p.firstOf .free = none)
    (hlast : p.firstOf .lastPrinted = some i) (hpin : (p.ctx i).pin = 0) : p.obtain = p.freeCtx i := by
  simp [Lane.obtain, Lane.reclaimable, hfree, hlast, hpin]

/-- The context just freed is the only FREE one. -/
theorem Lane.firstOf_free_freeCtx {p : Lane} (i : Fin 6) (h : p.firstOf .free = none) :
    (p.freeCtx i).firstOf .free = some i := by
  have hctx : ∀ j, (p.freeCtx i).ctx j = if i = j then Context.freed else p.ctx j := fun j => Lane.ctx_setCtx p i j Context.freed
  rcases hfound : (p.freeCtx i).firstOf .free with _ | j
  · exact absurd (by simp [hctx, Context.freed]) (Lane.role_ne_of_firstOf_none hfound i)
  · by_cases hj : i = j
    · rw [hj]
    · have hrole := Lane.firstOf_role hfound
      rw [hctx, if_neg hj] at hrole
      exact absurd hrole (Lane.role_ne_of_firstOf_none h j)

/-- The part with a sale begun in a context (R10). -/
def Lane.begins (i : Fin 6) (c : Context) (p : Lane) : Lane :=
  { p with sale := { p.sale with restartPending := false, contexts := p.sale.contexts.set i c } }

theorem Lane.ctx_begins (p : Lane) (i : Fin 6) (c : Context) : (p.begins i c).ctx i = c :=
  Lane.ctx_setCtx_same p i c

theorem Lane.begins_setLoyalty (p : Lane) (i : Fin 6) (c : Context) (a : Text) :
    (p.begins i c).setLoyalty i a = p.begins i { c with loyalty := some a } := by
  rw [Lane.setLoyalty, Lane.ctx_begins]
  simp [Lane.begins, Lane.setCtx]

/-- Of a context freed first, only the stack shows it. -/
theorem Lane.begins_freeCtx (p : Lane) (i : Fin 6) (c : Context) :
    (p.freeCtx i).begins i c = (p.setStack (p.sale.stack.filter fun j => j ≠ i)).begins i c := by
  simp [Lane.begins, Lane.freeCtx, Lane.setStack, Lane.setCtx]

theorem Lane.openSale_eq {p q : Lane} {i : Fin 6} (hq : p.obtain = q) (hi : q.firstOf .free = some i) (txn : Nat) :
    p.openSale txn = ((q.begins i (q.newSale txn)).applyHeldLoyalty i).respond (ok [.u8 i, .u16 txn]) := by
  subst hq
  rw [Lane.openSale, hi]
  rfl

/-- With no HELD LOYALTY entry the sale begins without a loyalty number (R9). -/
theorem Lane.applyHeldLoyalty_of_none {p : Lane} (h : p.cards.queue.find? CardEntry.heldLoyalty = none) (i : Fin 6)
    (c : Context) : (p.begins i c).applyHeldLoyalty i = p.begins i c := by
  have hqueue : (p.begins i c).cards.queue.find? CardEntry.heldLoyalty = none := h
  rw [Lane.applyHeldLoyalty, hqueue]

theorem Lane.promote_of_unmarked {p : Lane} (h : p.cards.tenderMark = false) : p.promote = p := by
  simp [Lane.promote, h]

@[simp] theorem Lane.ctx_setQueue (p : Lane) (q : List CardEntry) (i : Fin 6) : (p.setQueue q).ctx i = p.ctx i :=
  rfl

/-- A HELD LOYALTY entry is taken with LOYALTY_APPLIED, and outside TENDER no card is promoted (R9). -/
theorem Lane.applyHeldLoyalty_of_some {p : Lane} {e : CardEntry} {d : FullData}
    (h : p.cards.queue.find? CardEntry.heldLoyalty = some e) (hd : e.full = some d) (hm : p.cards.tenderMark = false)
    (i : Fin 6) (c : Context) :
    (p.begins i c).applyHeldLoyalty i =
      ((p.begins i { c with loyalty := some d.account }).setQueue (p.cards.queue.eraseP CardEntry.heldLoyalty)).loyaltyEvent
        (c.txn.getD 0) e.masked e.head := by
  have hqueue : (p.begins i c).cards.queue.find? CardEntry.heldLoyalty = some e := h
  rw [Lane.applyHeldLoyalty, hqueue]
  simp only [hd, Lane.begins_setLoyalty]
  refine Eq.trans (Lane.promote_of_unmarked ?_) ?_
  · exact hm
  rw [Lane.ctx_setQueue, Lane.ctx_begins]
  rfl

theorem becomes_respond {s : State} {p : Lane} {t : Ticket} (h : p.link.inProgress = some t) (a : Answer) :
    s.becomes (p.respond a) = s.becomes { p with link := p.link.handReply ⟨t.code, t.tag, a.allFields⟩ } := by
  rw [Lane.respond_eq h]

/-- The part when the write of a number ended OK (R10). -/
def Lane.written (n : Nat) (p : Lane) : Lane :=
  { p with
    store := { p.store with txnRecord := .valid n, write := none }
    sale := { p.sale with counter := n } }

theorem exec_txnNumberWriteEnd_ok {s : State} {n : Nat} (h : s.store.write = some (.txnNumber n)) :
    exec (.txnNumberWriteEnd .ok) s = s.becomes ((s.toLane.written n).openSale n) := by
  refine advance_eq ?_
  rw [Lane.txnWriteEnd, h]
  rfl

/-- What a failed write leaves of a record (R193). -/
def failedRecord {α : Type} : Unreadable → Stored α
  | .erased => .erased
  | .corrupt => .corrupt

theorem exec_txnNumberWriteEnd_fail {s : State} {n : Nat} (h : s.store.write = some (.txnNumber n)) (left : Unreadable) :
    exec (.txnNumberWriteEnd (.fail left)) s =
      s.becomes (Lane.respond (refusedWith .storeFail) { s.toLane with
        store := { s.store with txnRecord := failedRecord left, write := none } }) := by
  refine advance_eq ?_
  rw [Lane.txnWriteEnd, h]
  cases left <;> rfl

/-- Settles O14: a context is FREE or is freed first; a HELD LOYALTY entry is applied to it or there is none. -/
theorem beginOpensASaleOrIsRefused : Obligations.BeginOpensASaleOrIsRefused := by
  refine ⟨fun n i tag s hw ht hfree hcard => ?_, ⟨fun n i tag s hw ht hfree hlast hpin hcard => ?_,
    fun n i tag s e d hw ht hfree hcard hd hm => ?_, fun n i tag s e d hw ht hfree hlast hpin hcard hd hm => ?_⟩,
    fun n tag left w s => ⟨fun hw ht => ?_, fun hno => ?_⟩⟩
  · rw [exec_txnNumberWriteEnd_ok hw, Lane.openSale_eq (Lane.obtain_of_free (p := s.toLane.written n) hfree) hfree,
      Lane.applyHeldLoyalty_of_none (p := s.toLane.written n) hcard]
    rw [becomes_respond (t := ⟨0x10#8, tag⟩)]
    · rfl
    · exact ht
  · have hobtain := Lane.obtain_of_lastPrinted (p := s.toLane.written n) hfree hlast hpin
    rw [exec_txnNumberWriteEnd_ok hw, Lane.openSale_eq hobtain (Lane.firstOf_free_freeCtx i hfree),
      Lane.applyHeldLoyalty_of_none (p := (s.toLane.written n).freeCtx i) hcard, Lane.begins_freeCtx]
    rw [becomes_respond (t := ⟨0x10#8, tag⟩)]
    · rfl
    · exact ht
  · rw [exec_txnNumberWriteEnd_ok hw, Lane.openSale_eq (Lane.obtain_of_free (p := s.toLane.written n) hfree) hfree,
      Lane.applyHeldLoyalty_of_some (p := s.toLane.written n) hcard hd hm]
    rw [becomes_respond (t := ⟨0x10#8, tag⟩)]
    · rfl
    · exact (Link.handEvent_inProgress _ _).trans ht
  · have hobtain := Lane.obtain_of_lastPrinted (p := s.toLane.written n) hfree hlast hpin
    rw [exec_txnNumberWriteEnd_ok hw, Lane.openSale_eq hobtain (Lane.firstOf_free_freeCtx i hfree),
      Lane.applyHeldLoyalty_of_some (p := (s.toLane.written n).freeCtx i) hcard hd hm, Lane.begins_freeCtx]
    rw [becomes_respond (t := ⟨0x10#8, tag⟩)]
    · rfl
    · exact (Link.handEvent_inProgress _ _).trans ht
  · rw [exec_txnNumberWriteEnd_fail hw, becomes_respond (t := ⟨0x10#8, tag⟩)]
    · cases left <;> rfl
    · exact ht
  · refine advance_same ?_
    unfold Lane.txnWriteEnd
    split
    · exact absurd ‹_› (hno _)
    · rfl

/-! ## TOTAL (R14) -/

theorem exec_total {s : State} (h : s.takes) (tag : Byte) :
    exec (.total tag) s = s.answering (doTotal (s.toLane.begun 0x13#8 tag)) :=
  request_answering (f := ⟨0x13#8, tag, []⟩) h rfl doTotal

/-- A body whose answers are completed by g. -/
def completing (g : Answer → Answer) (body : Lane → Lane × Answer) (p : Lane) : Lane × Answer :=
  ((body p).1, g (body p).2)

/-- The answers of checks, each completed by g. -/
def completed (g : Answer → Answer) (l : List (Bool × Answer)) : List (Bool × Answer) :=
  l.map fun c => (c.1, g c.2)

@[simp] theorem completed_nil (g : Answer → Answer) : completed g [] = [] := rfl

@[simp] theorem completed_cons (g : Answer → Answer) (b : Bool) (a : Answer) (l : List (Bool × Answer)) :
    completed g ((b, a) :: l) = (b, g a) :: completed g l := rfl

/-- A body that makes checks first, its answers completed. -/
theorem completing_checked (g : Answer → Answer) (l : List (Bool × Answer)) (act : Lane → Lane × Answer) (p : Lane) :
    completing g (checked l act) p = checked (completed g l) (completing g act) p := by
  rw [completing]
  induction l with
  | nil => rfl
  | cons c l ih =>
    obtain ⟨b, a⟩ := c
    cases b
    · exact ih
    · rfl

/-- The oldest card that promotion can take, when no card is READY or FETCHED (R105). -/
def Cards.nextOffered (c : Cards) : Option CardEntry :=
  if c.queue.any CardEntry.offered = true then none else c.queue.find? CardEntry.promotable

theorem Lane.enterTender_of_none {p : Lane} (h : p.cards.nextOffered = none) : p.enterTender = p.setTenderMark true := by
  have hqueue : (p.setTenderMark true).cards.queue = p.cards.queue := rfl
  unfold Cards.nextOffered at h
  unfold Lane.enterTender Lane.promote
  rw [hqueue]
  split_ifs at h with hany
  · simp [hany]
  · simp [h]

theorem Lane.enterTender_of_some {p : Lane} {e : CardEntry} (h : p.cards.nextOffered = some e) :
    p.enterTender = ((p.setTenderMark true).setQueue
      (updateFirst CardEntry.promotable (fun x => { x with state := .ready }) p.cards.queue)).cardReadyEvent e := by
  have hqueue : (p.setTenderMark true).cards.queue = p.cards.queue := rfl
  have hmark : (p.setTenderMark true).cards.tenderMark = true := rfl
  unfold Cards.nextOffered at h
  unfold Lane.enterTender Lane.promote
  rw [hqueue, hmark]
  split_ifs at h with hany
  simp [hany, h]

/-- TOTAL makes its checks, and then enters TENDER or settles. -/
theorem doTotal_eq (p : Lane) :
    doTotal p = checked (completed (Answer.withTotal p.currentCtx.subtotal) p.itemChecks)
      (completing (Answer.withTotal p.currentCtx.subtotal) (checked
        [(p.currentCtx.items.isEmpty, refusedWith .empty),
         (p.backlogged, refusedWith .printBacklog),
         (p.currentCtx.subtotal < -999999, refusedWith .changeLimit)] Lane.totalSale)) p :=
  completing_checked _ _ _ p

/-- The reply of a TOTAL that enters TENDER: the subtotal is neither negative nor 0. -/
theorem withTotal_tender {x : Int} (h : 0 < x) :
    (ok [.name SaleState.tender.code, .money x, .money 0]).withTotal x =
      ⟨.ok, none, [.money x, .name 1, .money x, .money 0, .flag false, .flag false, .flag false]⟩ := by
  have hnegative : ¬x < 0 := by omega
  have hzero : x ≠ 0 := by omega
  simp [Answer.withTotal, ok, resultFlags, saleLimit, SaleState.code, hnegative, hzero]

/-- Settles O17: the seven checks one after another, then TENDER or the settlement by the sign of the subtotal. -/
theorem totalEndsItemEntry : Obligations.TotalEndsItemEntry := by
  intro tag s hs
  rw [exec_total hs, doTotal_eq]
  rcases hc : s.toLane.current with _ | i
  · exact answering_check_fails ((Lane.noSaleOpen_iff _).mpr hc)
  have hbegun : (s.toLane.begun 0x13#8 tag).current = some i := hc
  have hcur : (s.toLane.begun 0x13#8 tag).currentCtx = s.toLane.ctx i := Lane.currentCtx_eq hc
  have hopen : (s.toLane.begun 0x13#8 tag).noSaleOpen = false := Lane.noSaleOpen_eq_false hc
  rw [Lane.itemChecks, hcur]
  simp only [completed_cons, completed_nil]
  rw [checked_passes hopen]
  refine answering_check (by simp) rfl fun _ => ?_
  refine answering_check (Till.locked_iff _) rfl fun _ => ?_
  refine answering_check (by simp [Option.isSome_iff_ne_none]) rfl fun _ => ?_
  rw [checked_nil, completing_checked]
  simp only [completed_cons, completed_nil]
  refine answering_check (by simp) rfl fun _ => ?_
  refine answering_check (Lane.backlogged_iff _) rfl fun _ => ?_
  refine answering_check (by simp) rfl fun _ => ?_
  rw [checked_nil, completing, Lane.totalSale, hbegun]
  by_cases hpos : 0 < (s.toLane.ctx i).subtotal
  · have hstill : 0 < ((s.toLane.begun 0x13#8 tag).ctx i).subtotal := hpos
    dsimp only
    rw [if_pos hstill, if_pos hpos]
    refine (congrArg (fun a => s.answering (_, a)) (withTotal_tender hpos)).trans ?_
    rcases hnext : s.cards.nextOffered with _ | e
    · have hnone : (if s.cards.queue.any CardEntry.offered = true then none
          else s.cards.queue.find? CardEntry.promotable) = none := hnext
      rw [hnone, Lane.enterTender_of_none (p := (s.toLane.begun 0x13#8 tag).setSaleState i .tender) hnext]
      exact answering_changed rfl _
    · have hsome : (if s.cards.queue.any CardEntry.offered = true then none
          else s.cards.queue.find? CardEntry.promotable) = some e := hnext
      rw [hsome, Lane.enterTender_of_some (p := (s.toLane.begun 0x13#8 tag).setSaleState i .tender) hnext]
      exact answering_after_events rfl _
  · have hstill : ¬0 < ((s.toLane.begun 0x13#8 tag).ctx i).subtotal := hpos
    dsimp only
    rw [if_neg hstill, if_neg hpos]
    rfl

/-! ## RESUME and DROP_SUSPENDED (R19, R20) -/

theorem exec_resume {s : State} (h : s.takes) (tag : Byte) :
    exec (.resume tag) s = s.answering (doResume (s.toLane.begun 0x17#8 tag)) :=
  request_answering (f := ⟨0x17#8, tag, []⟩) h rfl doResume

/-- Settles O20: the checks one after another, then the top context made CURRENT. -/
theorem resumeTakesTheTopOfTheStack : Obligations.ResumeTakesTheTopOfTheStack := by
  intro tag s hs
  rw [exec_resume hs, doResume]
  refine answering_check (Store.inCal_iff _) rfl fun _ => ?_
  refine answering_check (by simp [Lane.noSaleOpen, Option.isSome_iff_ne_none]) rfl fun _ => ?_
  refine answering_check (Till.locked_iff _) rfl fun _ => ?_
  rcases htop : s.sale.stack.getLast? with _ | i
  · have hempty : s.sale.stack = [] := List.getLast?_eq_none_iff.mp htop
    exact answering_check_fails (by simp [hempty])
  · have hnonempty : s.sale.stack ≠ [] := by
      rintro hempty
      simp [hempty] at htop
    have htopBegun : (s.toLane.begun 0x17#8 tag).sale.stack.getLast? = some i := htop
    have hread : (((s.toLane.begun 0x17#8 tag).setRole i .current).setStack s.sale.stack.dropLast).ctx i =
        { s.toLane.ctx i with role := .current } := Lane.ctx_setCtx_same (s.toLane.begun 0x17#8 tag) i _
    rw [checked_passes (by simpa using hnonempty), checked_nil, Lane.resumeSale, htopBegun]
    simp only [Lane.begun_sale, hread]
    exact answering_changed rfl _

theorem exec_dropSuspended {s : State} (h : s.takes) (tag : Byte) :
    exec (.dropSuspended tag) s = s.answering (doDropSuspended (s.toLane.begun 0x18#8 tag)) :=
  request_answering (f := ⟨0x18#8, tag, []⟩) h rfl doDropSuspended

/-- Settles O21: the stack's bottom context, its one check, then the context freed. -/
theorem dropSuspendedFreesTheBottom : Obligations.DropSuspendedFreesTheBottom := by
  intro tag s hs
  rw [exec_dropSuspended hs, doDropSuspended]
  rcases hstack : s.sale.stack with _ | ⟨i, rest⟩
  · simp only [Lane.begun_sale, hstack]
    exact answering_same _ _ _ _
  · simp only [Lane.begun_sale, hstack]
    refine answering_check (by simp [Till.manager]) rfl fun _ => ?_
    rw [← hstack, checked_nil]
    exact answering_changed rfl _

/-! ## CANCEL_SALE (R16) -/

theorem exec_cancelSale {s : State} (h : s.takes) (tag : Byte) :
    exec (.cancelSale tag) s = s.answering (doCancelSale (s.toLane.begun 0x15#8 tag)) :=
  request_answering (f := ⟨0x15#8, tag, []⟩) h rfl doCancelSale

/-- WEIGH_DONE of a pending capture that is ended CANCELLED (R61). -/
def Lane.captureCancelled (p : Lane) : List Message :=
  match p.scale.capture with
  | none => []
  | some k => [eventOf 0x82#8 [.name 1, .u8 k.context, .u16 k.txn, .text k.description, .money k.unitPrice,
      .u16 (256 - p.held)]]

theorem Lane.endCapture_cancelled (p : Lane) :
    p.endCapture .cancelled [] =
      { p with scale := { p.scale with capture := none }, link := p.link.handEvents p.captureCancelled } := by
  rcases hk : p.scale.capture with _ | k
  · have hsame : { p.scale with capture := none } = p.scale := by rw [← hk]
    rw [Lane.endCapture_of_none hk, Lane.captureCancelled, hk, hsame]
    rfl
  · rw [Lane.endCapture_of_some hk, Lane.captureCancelled, hk]
    rfl

@[simp] theorem Lane.leaveTender_clock (p : Lane) : p.leaveTender.clock = p.clock := by
  have hlink : p.leaveTender.link = _ := Lane.sends_leaveTender p
  rw [Lane.clock, hlink]
  rfl

@[simp] theorem Lane.leaveTender_ctx (p : Lane) (i : Fin 6) : p.leaveTender.ctx i = p.ctx i :=
  Lane.ctx_congr (by simp) i

theorem Link.handEvents_clock (l : Link) (events : List Message) : (l.handEvents events).clock = l.clock := by
  induction events generalizing l with
  | nil => rfl
  | cons m events ih => exact (ih (l.handEvent m)).trans (Link.handEvent_clock l m)

theorem Context.cardTendered_iff (c : Context) :
    c.cardTendered = true ↔ c.saleState = some .tender ∧ ∃ t ∈ c.tenders, t.card ≠ none := by
  simp [Context.cardTendered, Tender.isCash, Option.isSome_iff_ne_none]

/-- The part when the capture of a sale to be cancelled has ended. -/
def Lane.cancelling (p : Lane) : Lane :=
  { p with scale := { p.scale with capture := none }, link := p.link.handEvents p.captureCancelled }

@[simp] theorem Lane.cancelling_ctx (p : Lane) (i : Fin 6) : p.cancelling.ctx i = p.ctx i := rfl

@[simp] theorem Lane.cancelling_clock (p : Lane) : p.cancelling.clock = p.clock := Link.handEvents_clock _ _

theorem Lane.cancelSale_eq {p : Lane} {i : Fin 6} (h : p.current = some i) :
    p.cancelSale =
      (((if (p.ctx i).saleState = some .tender then p.cancelling.leaveTender else p.cancelling).setCtx i
        { p.ctx i with saleState := some .cancelled, closeTime := p.clock, role := .printHeld }).placeJob .voidSlip i,
        ok [.u16 ((p.ctx i).txn.getD 0)]) := by
  rw [Lane.cancelSale, h, Lane.endCapture_cancelled, ← Lane.cancelling]
  simp only [Lane.cancelling_ctx]
  by_cases hstate : (p.ctx i).saleState = some .tender
  · simp [hstate]
  · simp [hstate]

/-- Settles O22: the four checks one after another, then the capture, the classifier and the sale. -/
theorem cancelSaleEndsTheSaleUnpaid : Obligations.CancelSaleEndsTheSaleUnpaid := by
  intro tag s hs
  rw [exec_cancelSale hs]
  rcases hc : s.toLane.current with _ | i
  · exact answering_check_fails ((Lane.noSaleOpen_iff _).mpr hc)
  have hbegun : (s.toLane.begun 0x15#8 tag).current = some i := hc
  have hcur : (s.toLane.begun 0x15#8 tag).currentCtx = s.toLane.ctx i := Lane.currentCtx_eq hc
  have hopen : (s.toLane.begun 0x15#8 tag).noSaleOpen = false := Lane.noSaleOpen_eq_false hc
  rw [doCancelSale, checked_passes hopen, hcur]
  refine answering_check (Context.cardTendered_iff _) rfl fun _ => ?_
  refine answering_check (by simp [Till.manager]) rfl fun _ => ?_
  refine answering_check (Lane.backlogged_iff _) rfl fun _ => ?_
  rw [checked_nil, Lane.cancelSale_eq hbegun]
  rfl

end Sys2Proof.Machine
end

section
/-! PROOFS. The reports of chapter 1 and of chapter 5: SALE_STATUS, SALE_ITEMS, SALE_TENDERS (R21, R22, R127). -/

namespace Sys2Proof.Machine

theorem exec_saleStatus {s : State} (h : s.takes) (tag : Byte) :
    exec (.saleStatus tag) s = s.answering (doSaleStatus (s.toLane.begun 0x19#8 tag)) :=
  request_answering (f := ⟨0x19#8, tag, []⟩) h rfl doSaleStatus

theorem exec_saleItems {s : State} (h : s.takes) (tag : Byte) (first count : Nat) :
    exec (.saleItems tag first count) s = s.answering (doSaleItems first count (s.toLane.begun 0x1A#8 tag)) :=
  request_answering (f := (requestFrame (.saleItems tag first count)).getD ⟨0, 0, []⟩) h rfl (doSaleItems first count)

theorem exec_saleTenders {s : State} (h : s.takes) (tag : Byte) (txn : Nat) :
    exec (.saleTenders tag txn) s = s.answering (doSaleTenders txn (s.toLane.begun 0x4C#8 tag)) :=
  request_answering (f := (requestFrame (.saleTenders tag txn)).getD ⟨0, 0, []⟩) h rfl (doSaleTenders txn)

/-- A reply without a change of the part, its fields in whatever form. -/
theorem answering_fields {s : State} {code tag : Byte} {a : Answer} {fields : List Field} (h : a.allFields = fields) :
    s.answering (s.toLane.begun code tag, a) = s.says code tag fields := by
  rw [answering_same, h]

/-- The records of a range of item numbers, each with its number. -/
theorem numbered_range (first count : Nat) (hfirst : 1 ≤ first) {α : Type} (xs : List α) :
    ((numbered 1 xs).drop (first - 1)).take count =
      (((xs.drop (first - 1)).take count).zipIdx first).map Prod.swap := by
  refine List.ext_getElem? fun k => ?_
  have hnumber : 1 + (first - 1 + k) = first + k := by omega
  by_cases hk : k < count
  · simp [hk, getElem_numbered, List.getElem?_take_of_lt, Function.comp_def, hnumber]
  · simp [hk]

/-- The lowest-numbered context with a property. -/
theorem find_contextNumbers {test : Fin 6 → Bool} {i : Fin 6} (hi : test i = true)
    (hbefore : ∀ j, j < i → test j = false) : contextNumbers.find? test = some i := by
  have hmem : ∀ j, j ∈ contextNumbers := by decide
  have hsorted : contextNumbers.Pairwise (· < ·) := by decide
  rcases hfound : contextNumbers.find? test with _ | j
  · exact absurd hi (List.find?_eq_none.mp hfound i (hmem i))
  · obtain ⟨hj, before, after, hlist, hno⟩ := List.find?_eq_some_iff_append.mp hfound
    rcases lt_trichotomy j i with hlt | heq | hgt
    · exact absurd hj (by simp [hbefore j hlt])
    · rw [heq]
    · have hplace : i ∈ before ++ j :: after := hlist ▸ hmem i
      rw [hlist, List.pairwise_append, List.pairwise_cons] at hsorted
      obtain ⟨-, ⟨hafter, -⟩, -⟩ := hsorted
      rcases List.mem_append.mp hplace with hin | hin
      · exact absurd hi (by simpa using hno i hin)
      rcases List.mem_cons.mp hin with heq | hin
      · rw [heq]
      · exact absurd (hafter i hin) hgt.asymm

theorem Lane.saleOf_eq_none {p : Lane} {txn : Nat} (h : ∀ i, ¬((p.ctx i).role ≠ .free ∧ (p.ctx i).txn = some txn)) :
    p.saleOf txn = none :=
  List.find?_eq_none.mpr fun i _ => by simpa using h i

theorem Lane.saleOf_eq_some {p : Lane} {txn : Nat} {i : Fin 6} (hi : (p.ctx i).role ≠ .free ∧ (p.ctx i).txn = some txn)
    (hbefore : ∀ j, j < i → ¬((p.ctx j).role ≠ .free ∧ (p.ctx j).txn = some txn)) : p.saleOf txn = some i :=
  find_contextNumbers (by simpa using hi) fun j hj => by simpa using hbefore j hj

/-- A context in SALE_STATUS, its three optional fields together (R21). -/
theorem Context.statusFields_eq (c : Context) :
    c.statusFields = .name c.role.code ::
      (if c.role = .free then [.absent, .absent, .absent]
       else [.present, .u16 (c.txn.getD 0), .present, stateField c, .present, .u8 c.pin]) := by
  by_cases hfree : c.role = .free
  · simp [Context.statusFields, Context.taken, optional, hfree]
  · simp [Context.statusFields, Context.taken, optional, hfree]

/-- SALE_STATUS on a CURRENT sale (R21). -/
theorem currentFields_some (i : Fin 6) (c : Context) :
    currentFields (some i) (some c) =
      [.present, .u8 i, .present, .u8 c.items.length, .present, .u8 c.tenders.length, .present, .money c.subtotal,
        .present, .money c.tenderSum, .present, .money (c.subtotal - c.tenderSum), .present, .money c.changeDue,
        .present, .name (drawerCode c.drawer)] ++ stampField c.beginTime ++ [.present, .flag c.restarted] ++
        textField (c.loyalty.map lastFour) := by
  simp [currentFields, optional, Context.balance, Context.loyaltyDigits]

/-- The parts of SALE_STATUS's reply (R21). -/
theorem Lane.saleReport_eq (p : Lane) :
    (ok p.saleReport).allFields = [.status .ok] ++
      contextNumbers.flatMap (fun i => .name (p.ctx i).role.code ::
        (if (p.ctx i).role = .free then [.absent, .absent, .absent]
         else [.present, .u16 ((p.ctx i).txn.getD 0), .present, stateField (p.ctx i), .present, .u8 (p.ctx i).pin])) ++
      [.count p.sale.stack.length] ++ p.sale.stack.map (fun i => .u8 i) ++
      [.u16 p.poolFree, .flag p.sale.backlog.isSome, .flag p.scale.capture.isSome] ++
      currentFields p.current (p.current.map fun i => p.ctx i) := by
  simp [Answer.allFields, ok, Lane.saleReport, Context.statusFields_eq, listed, List.map_eq_flatMap, Lane.backlogged]

/-- What a CARD tender shows beyond every tender's fields (R112). -/
def Tender.cardFields (t : Tender) : List Field :=
  match t.card with
  | none => []
  | some k => [.u8 k.handle, .name (headCode k.head), .name k.cls.code, .text k.lastDigits, .text k.approval,
      .money k.cashback]

theorem Tender.fields_eq (t : Tender) :
    t.fields = [.name (if t.card = none then 0 else 1), .money t.amount] ++ stampField t.time ++ t.cardFields := by
  unfold Tender.fields Tender.cardFields
  rcases t.card with _ | k
  · simp
  · simp

theorem textField_map_lastFour (n : Option Text) :
    textField (n.map lastFour) = optional (fun n => [.text (n.drop (n.length - 4))]) n := by
  rcases n with _ | n
  · rfl
  · rfl

/-- SALE_TENDERS's reply: the sale's figures, its tenders, and whether its job is in the settlement backlog (R127). -/
theorem Lane.tendersReport_fields (i : Fin 6) (p : Lane) :
    (ok (p.tendersReport i)).allFields =
      [.status .ok, .name (p.ctx i).role.code, stateField (p.ctx i), .money (p.ctx i).subtotal, .money (p.ctx i).tenderSum,
        .money ((p.ctx i).subtotal - (p.ctx i).tenderSum), .money (p.ctx i).changeDue,
        .name (drawerCode (p.ctx i).drawer)] ++ stampField (p.ctx i).closeTime ++ [.count (p.ctx i).tenders.length] ++
        (p.ctx i).tenders.flatMap (fun t => [.name (if t.card = none then 0 else 1), .money t.amount] ++
          stampField t.time ++ t.cardFields) ++ [.flag (p.backlogHolds i)] := by
  simp [Answer.allFields, ok, Lane.tendersReport, listed, Context.balance, funext Tender.fields_eq]

/-- The records of SALE_ITEMS's reply, each with its number, the fields of every record and those of its kind (R22). -/
theorem itemReports_fields (first : Nat) (found : List ItemRecord) :
    (ok (listed itemReport ((found.zipIdx first).map Prod.swap))).allFields =
      [.status .ok, .count found.length] ++ (found.zipIdx first).flatMap (fun x =>
        [.u8 x.2, .name x.1.detail.code, .text x.1.description, .money x.1.amount] ++ stampField x.1.time ++
          [.flag x.1.voided] ++ x.1.detail.fields) := by
  simp [Answer.allFields, ok, listed, List.flatMap_map, itemReport]

/-- Settles O23: the fields of each report, part by part. -/
theorem saleReportsChangeNothing : Obligations.SaleReportsChangeNothing := by
  intro tag first count txn s hs opt time at_ state
  have hopt : ∀ {α : Type} (x : Option α) (f : α → List Field), opt x f = optional f x := by
    rintro α (_ | x) f
    · rfl
    · rfl
  have htime : ∀ x, time x = stampField x := fun x => hopt x _
  refine ⟨?_, ?_, fun hbad => ?_, ?_⟩
  · rw [exec_saleStatus hs]
    refine answering_fields ?_
    rw [Lane.saleReport_eq]
    refine congrArg₂ (fun x y : List Field => x ++ y) rfl ?_
    rcases hc : s.toLane.current with _ | i
    · have hbegun : (s.toLane.begun 0x19#8 tag).current = none := hc
      rw [hbegun]
      rfl
    · have hbegun : (s.toLane.begun 0x19#8 tag).current = some i := hc
      rw [hbegun]
      refine (currentFields_some i _).trans ?_
      simp only [htime, hopt]
      exact congrArg₂ (fun x y : List Field => x ++ y) rfl (textField_map_lastFour _)
  · rw [exec_saleItems hs, doSaleItems]
    rcases hc : s.toLane.current with _ | i
    · exact answering_check_fails ((Lane.noSaleOpen_iff _).mpr hc)
    have hcur : (s.toLane.begun 0x1A#8 tag).currentCtx = s.toLane.ctx i := Lane.currentCtx_eq hc
    have hopen : (s.toLane.begun 0x1A#8 tag).noSaleOpen = false := Lane.noSaleOpen_eq_false hc
    rw [checked_passes hopen]
    refine answering_check (by simp [or_assoc]) rfl fun hrange => ?_
    rw [checked_nil, numbered_range first count (by omega), hcur]
    refine answering_fields ?_
    simp only [htime]
    exact itemReports_fields first _
  · rw [exec_saleTenders hs, doSaleTenders, if_pos hbad]
    exact answering_same _ _ _ _
  · intro holds hlow hhigh
    have hrange : ¬(txn < 1 ∨ 65535 < txn) := by omega
    rw [exec_saleTenders hs, doSaleTenders, if_neg hrange]
    refine ⟨fun hno => ?_, fun i hi hbefore => ?_⟩
    · rw [Lane.saleOf_eq_none (p := s.toLane.begun 0x4C#8 tag) hno]
      exact answering_same _ _ _ _
    · rw [Lane.saleOf_eq_some (p := s.toLane.begun 0x4C#8 tag) hi hbefore]
      refine answering_fields ?_
      simp only [htime]
      exact Lane.tendersReport_fields i _

end Sys2Proof.Machine
end

section
/-! PROOFS. The classifier's part in a sale: leaving TENDER and promotion (R105). -/

namespace Sys2Proof.Machine

theorem CardEntry.isFetched_withdrawn (e : CardEntry) : e.withdrawn.isFetched = e.isFetched := by
  unfold CardEntry.withdrawn CardEntry.isFetched
  split
  · simp_all
  · rfl

theorem CardEntry.withdrawn_of_fetched {e : CardEntry} (h : e.isFetched = true) : e.withdrawn = e := by
  have hstate : e.state = .fetched := by simpa [CardEntry.isFetched] using h
  simp [CardEntry.withdrawn, hstate]

/-- The FETCHED entry is found in the queue whose READY entries returned to HELD (R105). -/
theorem find_fetched_withdrawn {q : List CardEntry} {e : CardEntry} (h : q.find? CardEntry.isFetched = some e) :
    (q.map CardEntry.withdrawn).find? CardEntry.isFetched = some e := by
  have htest : CardEntry.isFetched ∘ CardEntry.withdrawn = CardEntry.isFetched := funext CardEntry.isFetched_withdrawn
  rw [List.find?_map, htest, h, Option.map_some, CardEntry.withdrawn_of_fetched (List.find?_some h)]

/-- Leaving TENDER with a FETCHED entry removes it with CARD_REMOVED SALE_CLOSED (R105). -/
theorem Lane.leaveTender_of_fetched {p : Lane} {e : CardEntry} (h : p.cards.queue.find? CardEntry.isFetched = some e) :
    p.leaveTender =
      ((p.setTenderMark false).setQueue ((p.cards.queue.map CardEntry.withdrawn).eraseP CardEntry.isFetched)).event 0x8F#8
        [.u8 e.handle, .text e.masked, .name 0] := by
  have hfound := find_fetched_withdrawn h
  simp only [Lane.leaveTender, Lane.setTenderMark_queue, hfound]

/-- Promotion with nothing to promote. -/
theorem Lane.promote_of_none {p : Lane} (h : p.cards.queue.find? CardEntry.promotable = none) : p.promote = p := by
  unfold Lane.promote
  rw [h]
  split
  · rfl
  · rfl

/-- With a card READY or FETCHED, none is promoted. -/
theorem Lane.promote_of_offered {p : Lane} (h : p.cards.queue.any CardEntry.offered = true) : p.promote = p := by
  simp [Lane.promote, h]

/-- The first entry that a test finds is the one changed. -/
theorem updateFirst_append {α : Type} {test : α → Bool} {f : α → α} {before after : List α} {x : α}
    (hbefore : ∀ y ∈ before, test y = false) (hx : test x = true) :
    updateFirst test f (before ++ x :: after) = before ++ f x :: after := by
  induction before with
  | nil => simp [updateFirst, hx]
  | cons y before ih =>
    obtain ⟨hy, hrest⟩ := List.forall_mem_cons.mp hbefore
    simp [updateFirst, hy, ih hrest]

theorem CardEntry.promotable_eq_false {e : CardEntry} (h : e.state = .held → e.cls = .loyalty ∨ e.cls = .blocked) :
    e.promotable = false := by
  by_cases hstate : e.state = .held
  · rcases h hstate with hcls | hcls
    · simp [CardEntry.promotable, CardClass.payment, hcls]
    · simp [CardEntry.promotable, CardClass.payment, hcls]
  · simp [CardEntry.promotable, hstate]

theorem CardEntry.promotable_eq_true {e : CardEntry} (hstate : e.state = .held) (hloyalty : e.cls ≠ .loyalty)
    (hblocked : e.cls ≠ .blocked) : e.promotable = true := by
  unfold CardEntry.promotable CardClass.payment
  rcases hcls : e.cls <;> simp_all

/-- Settles O25: whether a card is FETCHED decides for leaving TENDER; the mark, a card offered and the first payment card
decide for promotion. -/
theorem leavingTenderAndPromotionMoveCards : Obligations.LeavingTenderAndPromotionMoveCards := by
  refine ⟨fun p => ?_, fun p => ⟨?_, fun before after e hm hq hheld hbefore hloyalty hblocked => ?_⟩⟩
  · intro back
    refine ⟨fun hno => ?_, fun e he => ?_⟩
    · rw [Lane.leaveTender_of_not_fetched (by simpa using hno)]
      rfl
    · rw [Lane.leaveTender_of_fetched he]
      rfl
  · rintro (hm | ⟨e, he, hoffered⟩ | hno)
    · exact Lane.promote_of_unmarked hm
    · exact Lane.promote_of_offered (List.any_eq_true.mpr ⟨e, he, by simpa [CardEntry.offered] using hoffered⟩)
    · exact Lane.promote_of_none (List.find?_eq_none.mpr fun e he => by
        simp [CardEntry.promotable_eq_false (hno e he)])
  · have hstate : e.state = .held := hheld e (by simp)
    have htest : e.promotable = true := CardEntry.promotable_eq_true hstate hloyalty hblocked
    have hnot : ∀ x ∈ before, x.promotable = false := fun x hx => CardEntry.promotable_eq_false fun _ => hbefore x hx
    have hnone : p.cards.queue.any CardEntry.offered = false := by
      rw [hq]
      exact List.any_eq_false.mpr fun x hx => by simp [CardEntry.offered, hheld x hx]
    have hfirst : p.cards.queue.find? CardEntry.promotable = some e := by
      rw [hq]
      exact List.find?_eq_some_iff_append.mpr ⟨htest, before, after, rfl, fun x hx => by simp [hnot x hx]⟩
    unfold Lane.promote
    rw [hfirst, hnone, hm, hq, updateFirst_append hnot htest]
    rfl

end Sys2Proof.Machine
end

section
/-! PROOFS. Settlement and its parts (R119 to R126), and the tenders (R114 to R117). -/

namespace Sys2Proof.Machine

/-! ## The grant and auto-open (R121, R122) -/

/-- What auto-open answers for a drawer in a state, the key not at LOCKED. -/
def DrawerState.autoOpens : DrawerState → AutoOpen
  | .absent => .refused .absent
  | .fault => .refused .fault
  | .closed => .kickStarted
  | _ => .refused .busy

/-- What auto-open answers. -/
def Lane.autoOpens (d : Drawer) (p : Lane) : AutoOpen :=
  if p.till.key = .locked then .refused .keyPosition else (p.drawer d).state.autoOpens

theorem Lane.autoKick_setGrant_eq (d : Drawer) (p : Lane) :
    (p.setGrant d).autoKick d =
      (if p.till.key ≠ .locked ∧ (p.drawer d).state = .closed then (p.setGrant d).acceptKick .grant .settlement d
       else p.setGrant d, p.autoOpens d) := by
  rw [Lane.autoKick_setGrant, Lane.autoOpens]
  by_cases hkey : p.till.key = .locked
  · simp [hkey]
  · rcases hstate : (p.drawer d).state <;> simp [hkey, DrawerState.autoOpens]

/-- The part with the grant of a settlement set when it is due. -/
def Lane.granted (c : Context) (p : Lane) : Lane :=
  if c.grantDue = true then p.setGrant c.drawer else p

/-- The grant is set when it is due; auto-open is asked when it is due and the setting is ON. -/
theorem Lane.grantAndOpen_eq (c : Context) (p : Lane) :
    p.grantAndOpen c =
      (if (c.grantDue && p.sale.autoOpen) = true ∧ p.till.key ≠ .locked ∧ (p.drawer c.drawer).state = .closed then
         (p.granted c).acceptKick .grant .settlement c.drawer
       else p.granted c,
       if (c.grantDue && p.sale.autoOpen) = false then .notAsked else p.autoOpens c.drawer) := by
  unfold Lane.grantAndOpen Lane.granted
  by_cases hdue : c.grantDue = true
  · by_cases hon : p.sale.autoOpen = true
    · simp [hdue, hon, Lane.autoKick_setGrant_eq]
    · simp [hdue, hon]
  · simp [hdue]

/-- The part after the figures of a settlement are fixed and TENDER is left (R119, R120). -/
def Lane.leaving (i : Fin 6) (by_ : SettledBy) (p : Lane) : Lane :=
  if by_ = .total then p.setCtx i ((p.ctx i).settled p.clock) else (p.setCtx i ((p.ctx i).settled p.clock)).leaveTender

theorem Lane.leaving_eq (i : Fin 6) (by_ : SettledBy) (p : Lane) :
    (p.leaving i by_).now = p.now ∧ (p.leaving i by_).till = p.till ∧ (p.leaving i by_).printer = p.printer ∧
      (p.leaving i by_).composer = p.composer ∧ (p.leaving i by_).sale = (p.setCtx i ((p.ctx i).settled p.clock)).sale ∧
      p.link.sends (p.leaving i by_).link ∧
      (p.leaving i by_).cards = (if by_ = .total then p else p.leaveTender).cards := by
  unfold Lane.leaving
  by_cases hby : by_ = .total
  · rw [if_pos hby, if_pos hby]
    exact ⟨rfl, rfl, rfl, rfl, rfl, rfl, rfl⟩
  · rw [if_neg hby, if_neg hby]
    refine ⟨by simp, by simp, by simp, by simp, by simp, Lane.sends_leaveTender _, ?_⟩
    rw [Lane.leaveTender_cards, Lane.leaveTender_cards]
    rfl

/-- The grant and auto-open of a settlement. -/
theorem Lane.grantAndOpen_leaving (i : Fin 6) (by_ : SettledBy) (p : Lane) :
    let c := (p.ctx i).settled p.clock
    (p.leaving i by_).grantAndOpen c =
      (if (c.grantDue && p.sale.autoOpen) = true ∧ p.till.key ≠ .locked ∧ (p.drawer c.drawer).state = .closed then
         ((p.leaving i by_).granted c).acceptKick .grant .settlement c.drawer
       else (p.leaving i by_).granted c,
       if (c.grantDue && p.sale.autoOpen) = false then .notAsked else p.autoOpens c.drawer) := by
  intro c
  obtain ⟨-, htill, -, -, hsale, -, -⟩ := Lane.leaving_eq i by_ p
  have hauto : (p.leaving i by_).sale.autoOpen = p.sale.autoOpen := by rw [hsale]; rfl
  have hopens : (p.leaving i by_).autoOpens c.drawer = p.autoOpens c.drawer := by
    simp only [Lane.autoOpens, Lane.drawer, htill]
  rw [Lane.grantAndOpen_eq, hauto, hopens, Lane.drawer, htill]
  rfl

/-- The bytes of the auto-open outcome (R122). -/
theorem autoOpen_fields (asked : Bool) (d : Drawer) (p : Lane) :
    (if asked = false then AutoOpen.notAsked else p.autoOpens d).fields =
      if asked = false then [.name 0]
      else if p.till.key = .locked then [.name 2, .reason .keyPosition]
      else (p.drawer d).state.autoOpens.fields := by
  unfold Lane.autoOpens
  split_ifs
  · rfl
  · rfl
  · rfl

/-- The part of a settlement before its receipt job is placed. -/
def Lane.settling (i : Fin 6) (by_ : SettledBy) (p : Lane) : Lane :=
  ((p.leaving i by_).grantAndOpen ((p.ctx i).settled p.clock)).1.setCtx i
    { (p.ctx i).settled p.clock with role := .printHeld }

/-- After that, the job is placed and SETTLED handed over. -/
theorem Lane.settle_eq_settling (i : Fin 6) (by_ : SettledBy) (p : Lane) :
    ∃ fields, p.settle i by_ = ((p.settling i by_).placeJob .receipt i).event 0x91#8 fields :=
  ⟨_, Lane.settle_eq i by_ p⟩

theorem Lane.settling_eq (i : Fin 6) (by_ : SettledBy) (p : Lane) :
    (p.settling i by_).printer = p.printer ∧ (p.settling i by_).composer = p.composer ∧
      (p.settling i by_).sale = { p.sale with contexts := (p.settling i by_).sale.contexts } ∧
      p.link.sends (p.settling i by_).link ∧
      (p.settling i by_).cards = (if by_ = .total then p else p.leaveTender).cards ∧
      ((p.settling i by_).ctx i).txn = (p.ctx i).txn := by
  obtain ⟨-, -, hprinter, hcomposer, hsale, hlink, hcards⟩ := Lane.leaving_eq i by_ p
  obtain ⟨-, hglink, hgsale, -, -, -, hgcards, hgcomposer, hgprinter⟩ :=
    Lane.grantAndOpen_frame ((p.ctx i).settled p.clock) (p.leaving i by_)
  refine ⟨hgprinter.trans hprinter, hgcomposer.trans hcomposer, ?_, hglink.symm ▸ hlink, hgcards.trans hcards, ?_⟩
  · simp only [Lane.settling, Lane.setCtx, hgsale, hsale]
  · have hctx : (p.settling i by_).ctx i = { (p.ctx i).settled p.clock with role := .printHeld } :=
      Lane.ctx_setCtx_same _ i _
    rw [hctx]
    rfl

theorem Lane.settling_till (i : Fin 6) (by_ : SettledBy) (p : Lane) :
    (p.settling i by_).till = ((p.leaving i by_).grantAndOpen ((p.ctx i).settled p.clock)).1.till := rfl

/-- A grant that is due is set, whatever auto-open did (R121). -/
theorem Lane.grant_grantAndOpen {c : Context} (h : c.grantDue = true) (p : Lane) :
    ((p.grantAndOpen c).1.drawer c.drawer).grant = true := by
  have hset : ((p.setGrant c.drawer).drawer c.drawer).grant = true := by
    rw [Lane.setGrant, Lane.onDrawer, Lane.drawer_setDrawer]
  unfold Lane.grantAndOpen
  rw [if_pos h]
  dsimp only
  split
  · rw [Lane.grant_autoKick]
    exact hset
  · exact hset

theorem Lane.setGrant_till {p q : Lane} (htill : p.till = q.till) (hnow : p.now = q.now) (d : Drawer) :
    (p.setGrant d).till = (q.setGrant d).till := by
  simp only [Lane.setGrant, Lane.onDrawer, Lane.setDrawer, Lane.withTill, Lane.drawer, htill, hnow]

theorem Context.grantDue_settled (c : Context) (t : Option DateTime) :
    (c.settled t).grantDue = true ↔ (∃ x ∈ c.tenders, x.card = none) ∨ 0 < c.tenderSum - c.subtotal := by
  simp [Context.grantDue, Context.settled, Tender.isCash]

/-- A settlement's till controller: the grant and auto-open (R121, R122). -/
theorem Lane.settle_till (i : Fin 6) (by_ : SettledBy) (p : Lane) :
    (p.settle i by_).till = ((p.leaving i by_).grantAndOpen ((p.ctx i).settled p.clock)).1.till := by
  obtain ⟨fields, hsettle⟩ := Lane.settle_eq_settling i by_ p
  rw [hsettle, ← Lane.settling_till]
  simp

/-- Settles O24: the expression of the settlement, and then what each of its parts leaves. -/
theorem settlementFixesAndReportsTheSale : Obligations.SettlementFixesAndReportsTheSale := by
  refine ⟨fun i by_ p => ?_, fun i by_ p => ?_⟩
  · intro c change due figures left granted asked state kicked auto
    refine (Lane.settle_eq i by_ p).trans ?_
    have hopened := Lane.grantAndOpen_leaving i by_ p
    have hauto : auto = (if asked = false then AutoOpen.notAsked else p.autoOpens c.drawer).fields := by
      refine Eq.trans ?_ (autoOpen_fields asked c.drawer p).symm
      dsimp only [auto, state]
      rcases (p.drawer c.drawer).state <;> rfl
    rw [hauto]
    dsimp only at hopened ⊢
    rw [← Lane.leaving, hopened]
    rfl
  · intro c t due named
    obtain ⟨fields, hsettle⟩ := Lane.settle_eq_settling i by_ p
    obtain ⟨hprinter, hcomposer, hsale, hlink, hcards, htxn⟩ := Lane.settling_eq i by_ p
    obtain ⟨hjlink, hjcomposer, hjsale, hfull, hroom⟩ := Lane.placeJob_cases .receipt i (p.settling i by_)
    obtain ⟨hnow, hltill, -⟩ := Lane.leaving_eq i by_ p
    have hdue : ((p.ctx i).settled p.clock).grantDue = true ↔ due := Context.grantDue_settled c p.clock
    have htill : t.till = _ := Lane.settle_till i by_ p
    refine ⟨?_, fun j hj => ?_, ?_, fun h => ?_, fun h => ?_, fun h hoff => ?_, fun h => ?_, fun h => ?_, ?_, ?_, ?_, ?_⟩
    · exact (Lane.ctx_settle i i by_ p).trans (if_pos rfl)
    · exact (Lane.ctx_settle i j by_ p).trans (if_neg hj)
    · simp only [t, hsettle, Lane.event_cards, Lane.placeJob_frame, hcards]
    · rw [Lane.drawer, htill]
      exact Lane.grant_grantAndOpen (hdue.mpr h) _
    · rw [htill, Lane.grantAndOpen, if_neg fun hd => h (hdue.mp hd)]
      exact hltill
    · have hauto : ((p.leaving i by_).setGrant c.drawer).sale.autoOpen = false := by
        obtain ⟨-, -, -, -, hlsale, -⟩ := Lane.leaving_eq i by_ p
        simpa [hlsale] using hoff
      have hopened : (p.leaving i by_).grantAndOpen ((p.ctx i).settled p.clock) =
          ((p.leaving i by_).setGrant c.drawer, .notAsked) := by
        rw [Lane.grantAndOpen, if_pos (hdue.mpr h)]
        exact if_neg (by rw [show ((p.ctx i).settled p.clock).drawer = c.drawer from rfl, hauto]; simp)
      rw [htill, hopened]
      exact Lane.setGrant_till hltill hnow _
    · have hplaced := hfull (hprinter ▸ h)
      refine ⟨?_, ?_, ?_⟩
      · simp only [t, hsettle, hplaced, Lane.event_printer, hprinter]
      · simp only [t, hsettle, hplaced, Lane.event_composer, hcomposer]
      · simp only [t, hsettle, hplaced, Lane.event_sale]
    · obtain ⟨hjobs, hbacklog, hbusy⟩ := hroom (hprinter ▸ h)
      refine ⟨?_, ?_, fun hengine => ?_⟩
      · rw [hprinter, htxn] at hjobs
        simp only [t, hsettle, Lane.event_printer]
        exact hjobs
      · simp only [t, hsettle, Lane.event_sale, hbacklog]
        rw [hsale]
      · have hplaced := hbusy (hprinter ▸ hengine)
        refine ⟨?_, ?_⟩
        · simp only [t, hsettle, hplaced, Lane.event_composer, hcomposer]
        · simp only [t, hsettle, hplaced, Lane.event_printer, hprinter, htxn]
          rfl
    · simp only [t, hsettle, Lane.event_sale]
      rw [hjsale, hsale]
    · simp only [t, hsettle, Lane.event_composer]
      rw [hjcomposer, hcomposer]
    · have hsends : p.link.sends (p.settle i by_).link := by
        rw [hsettle]
        exact Link.sends_trans (Link.sends_trans hlink hjlink) (Lane.sends_event _ _ _)
      exact hsends
    · exact Lane.settle_frame i by_ p

end Sys2Proof.Machine
end

section
/-! PROOFS. TENDER_CASH and TENDER_CARD (R113 to R117). -/

namespace Sys2Proof.Machine

/-- A body that makes checks first: one that fails is answered with the totals as they stand, since nothing was done. -/
theorem withTenderReply_checked {f act : Lane → Lane × Answer} {l : List (Bool × Answer)} {p : Lane} {i : Fin 6}
    (hp : p.current = some i) (hf : f p = checked l act p) :
    withTenderReply f p = checked (completed (Answer.withTenderTotals (p.ctx i)) l) (withTenderReply act) p := by
  rw [withTenderReply, hp, hf]
  clear hf
  induction l with
  | nil =>
    rw [completed_nil, checked_nil, checked_nil, withTenderReply, hp]
  | cons c l ih =>
    obtain ⟨b, a⟩ := c
    cases b
    · exact ih
    · rfl

/-- The checks that TENDER_CASH and TENDER_CARD make first, with no sale open (R114, R115). -/
theorem answering_tenderChecks_none {s : State} {code tag : Byte} {f act : Lane → Lane × Answer}
    (h : s.toLane.current = none)
    (hf : f (s.toLane.begun code tag) = checked (s.toLane.begun code tag).tenderChecks act (s.toLane.begun code tag)) :
    s.answering (withTenderReply f (s.toLane.begun code tag)) =
      s.says code tag (refusal .noSaleOpen ++ [.flag false]) := by
  have hbegun : (s.toLane.begun code tag).current = none := h
  have hclosed : (s.toLane.begun code tag).noSaleOpen = true := (Lane.noSaleOpen_iff _).mpr h
  rw [withTenderReply, hbegun, hf, Lane.tenderChecks, checked_cons, if_pos hclosed]
  exact answering_same _ _ _ _

/-- The checks that TENDER_CASH and TENDER_CARD make first, with a CURRENT sale (R114, R115). -/
theorem answering_tenderChecks_some {s : State} {code tag : Byte} {f act : Lane → Lane × Answer} {i : Fin 6}
    {rest : Host.Outcome State Fault Refusal} (h : s.toLane.current = some i)
    (hf : f (s.toLane.begun code tag) = checked (s.toLane.begun code tag).tenderChecks act (s.toLane.begun code tag))
    (hrest : s.answering (withTenderReply act (s.toLane.begun code tag)) = rest) :
    s.answering (withTenderReply f (s.toLane.begun code tag)) =
      if (s.toLane.ctx i).saleState ≠ some .tender then
        s.says code tag (.status .wrongState :: (s.toLane.ctx i).tenderFields [] false)
      else if s.till.key = .locked then
        s.says code tag (refusal .keyPosition ++ (s.toLane.ctx i).tenderFields [] false)
      else if s.sale.backlog ≠ none then
        s.says code tag (refusal .printBacklog ++ (s.toLane.ctx i).tenderFields [] false)
      else rest := by
  have hcur : (s.toLane.begun code tag).currentCtx = s.toLane.ctx i := Lane.currentCtx_eq h
  have hopen : (s.toLane.begun code tag).noSaleOpen = false := Lane.noSaleOpen_eq_false h
  have hbegun : (s.toLane.begun code tag).current = some i := h
  rw [withTenderReply_checked hbegun hf, Lane.tenderChecks, hcur]
  simp only [completed_cons, completed_nil]
  rw [checked_passes hopen]
  refine answering_check (by simp) rfl fun _ => ?_
  refine answering_check (Till.locked_iff _) rfl fun _ => ?_
  exact answering_check (Lane.backlogged_iff _) rfl fun _ => hrest

theorem exec_tenderCash {s : State} (h : s.takes) (tag : Byte) (amount : Int) :
    exec (.tenderCash tag amount) s =
      s.answering (withTenderReply (Lane.cashTender amount) (s.toLane.begun 0x48#8 tag)) :=
  request_answering (f := (requestFrame (.tenderCash tag amount)).getD ⟨0, 0, []⟩) h rfl (doTenderCash amount)

/-- When an amount is not that of a tender (R112). -/
theorem not_tenderAmountOk (x : Int) : (!tenderAmountOk x) = true ↔ x < 1 ∨ 99999999 < x := by
  simp [tenderAmountOk]

/-- The part after a tender joined the list of a context: the balance decides whether the sale stays in TENDER. -/
def Lane.tendered (i : Fin 6) (c : Context) (by_ : SettledBy) (stay : Lane → Lane) (p : Lane) : Lane :=
  if 0 < c.subtotal - c.tenderSum then stay (p.setCtx i c) else (p.setCtx i c).settle i by_

/-- What a tender request does at last. -/
theorem answering_takeTender {s : State} {p q : Lane} {i : Fin 6} {c : Context} {t : Tender} {by_ : SettledBy} {n : Nat}
    {stay : Lane → Lane} {act : Lane → Lane × Answer} (hp : p.current = some i) (hact : act p = q.takeTender t by_ stay)
    (hq : q.current = some i) (hc : (q.ctx i).addTender t = c) (hn : c.tenders.length = n) :
    s.answering (withTenderReply act p) =
      s.becomes ((q.tendered i c by_ stay).respond
        (ok (((q.tendered i c by_ stay).ctx i).tenderFields [.u8 n] false))) := by
  rw [withTenderReply, hp, hact, Lane.takeTender, hq, ← hn, ← hc]
  rfl

/-- Settles O26: the eight checks one after another, then the tender taken. -/
theorem tenderCashAddsACashTender : Obligations.TenderCashAddsACashTender := by
  intro tag amount s hs
  rw [exec_tenderCash hs]
  rcases hc : s.toLane.current with _ | i
  · exact answering_tenderChecks_none hc rfl
  have hbegun : (s.toLane.begun 0x48#8 tag).current = some i := hc
  have hcur : (s.toLane.begun 0x48#8 tag).currentCtx = s.toLane.ctx i := Lane.currentCtx_eq hc
  refine answering_tenderChecks_some hc rfl ?_
  rw [withTenderReply_checked hbegun rfl, hcur]
  simp only [completed_cons, completed_nil]
  refine answering_check (not_tenderAmountOk amount) rfl fun _ => ?_
  refine answering_check (by simp) rfl fun _ => ?_
  refine answering_check (by simp) rfl fun _ => ?_
  refine answering_check (by simp) rfl fun _ => ?_
  rw [checked_nil, answering_takeTender (act := fun p => p.takeTender ⟨amount, p.clock, none⟩ .tenderCash id) hbegun rfl
    hbegun rfl List.length_append, Lane.tendered]
  refine (apply_ite (fun t : Lane => s.becomes (t.respond (ok ((t.ctx i).tenderFields
    [.u8 ((s.toLane.ctx i).tenders.length + 1)] false)))) _ _ _).trans ?_
  refine ite_agree (fun _ => ?_) fun _ => rfl
  rw [id, Lane.ctx_setCtx_same]
  exact answering_changed rfl _

/-! ## TENDER_CARD (R115 to R117) -/

theorem exec_tenderCard {s : State} (h : s.takes) (tag : Byte) (n : Nat) (amount cashback : Int) (code : Text) :
    exec (.tenderCard tag n amount cashback code) s =
      s.answering (withTenderReply (Lane.cardTender n amount cashback code) (s.toLane.begun 0x49#8 tag)) :=
  request_answering (f := (requestFrame (.tenderCard tag n amount cashback code)).getD ⟨0, 0, []⟩) h rfl
    (doTenderCard n amount cashback code)

theorem not_handleOk (n : Nat) : (!handleOk n) = true ↔ n < 1 ∨ 255 < n := by
  simp [handleOk]

theorem not_cashbackOk (x : Int) : (!cashbackOk x) = true ↔ x < 0 ∨ 50000 < x := by
  simp [cashbackOk]

theorem cardOperands_bad (n : Nat) (amount cashback : Int) (code : Text) :
    (!handleOk n || !tenderAmountOk amount || !cashbackOk cashback || !approvalOk code) = true ↔
      n < 1 ∨ 255 < n ∨ amount < 1 ∨ 99999999 < amount ∨ cashback < 0 ∨ 50000 < cashback ∨ approvalOk code = false := by
  rw [Bool.or_eq_true, Bool.or_eq_true, Bool.or_eq_true, not_handleOk, not_tenderAmountOk, not_cashbackOk]
  simp [or_assoc]

theorem Lane.cardIs_of_none {p : Lane} {n : Nat} (h : p.cards.queue.find? (CardEntry.named n) = none) (x : CardState) :
    p.cardIs n x = false := by
  simp [Lane.cardIs, Lane.card, h]

theorem Lane.cardIs_of_some {p : Lane} {n : Nat} {e : CardEntry} (h : p.cards.queue.find? (CardEntry.named n) = some e)
    (x : CardState) : p.cardIs n x = decide (e.state = x) := by
  simp [Lane.cardIs, Lane.card, h]

theorem CardEntry.handle_of_find {q : List CardEntry} {n : Nat} {e : CardEntry}
    (h : q.find? (CardEntry.named n) = some e) : e.handle = n := by
  simpa [CardEntry.named] using List.find?_some h

/-- A tender request's reply depends on its body at the part it starts from. -/
theorem withTenderReply_congr {f g : Lane → Lane × Answer} {p : Lane} (h : f p = g p) :
    withTenderReply f p = withTenderReply g p := by
  simp only [withTenderReply, h]

/-- Settles O27: the checks one after another, the entry found on the way, then the tender taken. -/
theorem tenderCardAddsACardTender : Obligations.TenderCardAddsACardTender := by
  intro tag n amount cashback code s hs
  rw [exec_tenderCard hs]
  rcases hc : s.toLane.current with _ | i
  · exact answering_tenderChecks_none hc rfl
  have hbegun : (s.toLane.begun 0x49#8 tag).current = some i := hc
  have hcur : (s.toLane.begun 0x49#8 tag).currentCtx = s.toLane.ctx i := Lane.currentCtx_eq hc
  dsimp only
  refine answering_tenderChecks_some hc rfl ?_
  rw [withTenderReply_checked hbegun rfl]
  simp only [completed_cons, completed_nil]
  refine answering_check (cardOperands_bad n amount cashback code) rfl fun _ => ?_
  rcases hcard : s.cards.queue.find? (CardEntry.named n) with _ | e
  · have hno : (s.toLane.begun 0x49#8 tag).cardIs n .fetched = false := Lane.cardIs_of_none hcard _
    exact answering_check_fails (by rw [hno]; rfl)
  have his : (s.toLane.begun 0x49#8 tag).cardIs n .fetched = decide (e.state = .fetched) := Lane.cardIs_of_some hcard _
  have hfound : (s.toLane.begun 0x49#8 tag).card n = some e := hcard
  have hhandle : e.handle = n := CardEntry.handle_of_find hcard
  refine answering_check (by rw [his]; simp) rfl fun _ => ?_
  have hentry : withTenderReply (fun p => match p.card n with
      | none => (p, refusedWith .noCard)
      | some e => p.tenderEntry e amount cashback code) (s.toLane.begun 0x49#8 tag) =
      withTenderReply (Lane.tenderEntry e amount cashback code) (s.toLane.begun 0x49#8 tag) :=
    withTenderReply_congr (by simp only [hfound])
  rw [checked_nil]
  refine (congrArg s.answering hentry).trans ?_
  rw [withTenderReply_checked (f := Lane.tenderEntry e amount cashback code) hbegun rfl, hcur]
  simp only [completed_cons, completed_nil]
  refine answering_check (by simp) rfl fun _ => ?_
  refine answering_check decide_eq_true_iff rfl fun _ => ?_
  rw [checked_nil, withTenderReply_checked hbegun rfl, cashbackChecks]
  simp only [completed_cons, completed_nil]
  refine answering_check (by simp) rfl fun _ => ?_
  refine answering_check (by simp) rfl fun _ => ?_
  refine answering_check (by simp) rfl fun _ => ?_
  refine answering_check ((Bool.and_eq_true _ _).to_iff.trans (and_congr decide_eq_true_iff decide_eq_true_iff)) rfl
    fun _ => ?_
  rw [checked_nil, withTenderReply_checked hbegun rfl]
  simp only [completed_cons, completed_nil]
  refine answering_check (by simp) rfl fun _ => ?_
  rw [checked_nil, ← hhandle, answering_takeTender
    (act := fun p => (p.removeCard e.handle).takeTender (cardTenderOf e amount cashback code p.clock) .tenderCard
      Lane.promote)
    hbegun rfl hbegun rfl List.length_append]
  rfl

end Sys2Proof.Machine
end

section
/-! PROOFS. The card queue's requests and its expiry (R102 to R109, R118), and the settings of chapters 6 and 7 (R106,
R122). -/

namespace Sys2Proof.Machine

/-! ## SETTLE_SETUP, CARD_SETUP and CARD_LIST -/

theorem exec_settleSetup {s : State} (h : s.takes) (tag b : Byte) :
    exec (.settleSetup tag b) s = s.answering (doSettleSetup b (s.toLane.begun 0x4B#8 tag)) :=
  request_answering (f := ⟨0x4B#8, tag, [b]⟩) h rfl (doSettleSetup b)

theorem exec_cardSetup {s : State} (h : s.takes) (tag : Byte) (tens : Nat) :
    exec (.cardSetup tag tens) s = s.answering (doCardSetup tens (s.toLane.begun 0x43#8 tag)) :=
  request_answering (f := (requestFrame (.cardSetup tag tens)).getD ⟨0, 0, []⟩) h rfl (doCardSetup tens)

theorem exec_cardList {s : State} (h : s.takes) (tag : Byte) :
    exec (.cardList tag) s = s.answering (doCardList (s.toLane.begun 0x45#8 tag)) :=
  request_answering (f := ⟨0x45#8, tag, []⟩) h rfl doCardList

/-- An optional field of an entry, as its option tells. -/
theorem optional_eq {α : Type} (f : α → List Field) (x : Option α) :
    optional f x = x.elim [.absent] fun a => .present :: f a := by
  cases x
  · rfl
  · rfl

/-- The fields of an entry in CARD_LIST (R108). -/
theorem CardEntry.listFields_eq (now : Nat) (e : CardEntry) :
    e.listFields now =
      [.u8 e.handle, .name e.state.code, .name (headCode e.head)] ++
        e.swipeTime.elim [.absent] (fun t => [.present, .stamp t]) ++
        [.name e.cls.code, .u8 e.rangeIndex, .text e.masked, .u8 e.accountLength] ++
        e.expiry.elim [.absent] (fun x => [.present, .text x]) ++
        [.flag e.reversed, .flag e.holder.isSome, .flag e.full.isSome] ++
        e.expiresAt.elim [.absent] (fun t => [.present, .u32 ((t - now + 999999) / 1000000)]) := by
  rw [CardEntry.listFields, stampField, textField, optional_eq, optional_eq, optional_eq]
  rfl

theorem cardReport_fields (mark : Bool) (now : Nat) (q : List CardEntry) :
    (ok ([.flag mark] ++ listed (CardEntry.listFields now) q)).allFields =
      [.status .ok, .flag mark, .count q.length] ++ q.flatMap (CardEntry.listFields now) := rfl

/-- Settles O28: a check each, then the setting written; the entries of CARD_LIST field by field. -/
theorem autoOpenAndHoldTimeAreSetAndCardsListed : Obligations.AutoOpenAndHoldTimeAreSetAndCardsListed := by
  refine ⟨fun tag b s hs => ?_, fun tag tens s hs => ⟨?_, ?_⟩⟩
  · rw [exec_settleSetup hs, doSettleSetup]
    rcases settingOf_cases b with ⟨hnone, hbad⟩ | ⟨hsome, hgood⟩
    · rw [hnone, if_pos hbad]
      exact answering_same _ _ _ _
    · rw [hsome, if_neg hgood]
      exact answering_changed rfl _
  · rw [exec_cardSetup hs, doCardSetup]
    refine answering_check (by simp) rfl fun _ => ?_
    exact answering_changed rfl _
  · rw [exec_cardList hs]
    refine answering_fields ((cardReport_fields _ _ _).trans ?_)
    refine congrArg₂ (fun x y : List Field => x ++ y) rfl (List.flatMap_congr fun e _ => ?_)
    refine (CardEntry.listFields_eq _ e).trans ?_
    rcases e.swipeTime with _ | _ <;> rcases e.expiry with _ | _ <;> rcases e.expiresAt with _ | _ <;> rfl

/-! ## CARD_FETCH (R107) -/

theorem exec_cardFetch {s : State} (h : s.takes) (tag : Byte) (n : Nat) :
    exec (.cardFetch tag n) s = s.answering (doCardFetch n (s.toLane.begun 0x44#8 tag)) :=
  request_answering (f := (requestFrame (.cardFetch tag n)).getD ⟨0, 0, []⟩) h rfl (doCardFetch n)

/-- Settles O29: the handle, the entry and its state one after another, then the entry fetched. -/
theorem cardFetchReleasesAReadyCard : Obligations.CardFetchReleasesAReadyCard := by
  intro tag n s hs
  rw [exec_cardFetch hs, doCardFetch]
  refine answering_check (not_handleOk n) rfl fun _ => ?_
  rcases hcard : s.cards.queue.find? (CardEntry.named n) with _ | e
  · exact answering_check_fails (by simp [Lane.noCard, Lane.card, hcard])
  have hfound : (s.toLane.begun 0x44#8 tag).card n = some e := hcard
  have hready : (s.toLane.begun 0x44#8 tag).cardIs n .ready = decide (e.state = .ready) := Lane.cardIs_of_some hcard _
  rw [checked_passes (by simp [Lane.noCard, hfound])]
  refine answering_check (by rw [hready]; simp) rfl fun _ => ?_
  rw [checked_nil, Lane.fetchCard, hfound]
  exact answering_changed rfl _

/-! ## CARD_DISCARD, DECLINE_CARD and CARD_EXPIRED (R106, R109, R118) -/

theorem exec_cardDiscard {s : State} (h : s.takes) (tag : Byte) (n : Nat) :
    exec (.cardDiscard tag n) s = s.answering (doCardDiscard n (s.toLane.begun 0x46#8 tag)) :=
  request_answering (f := (requestFrame (.cardDiscard tag n)).getD ⟨0, 0, []⟩) h rfl (doCardDiscard n)

theorem exec_declineCard {s : State} (h : s.takes) (tag : Byte) (n : Nat) :
    exec (.declineCard tag n) s = s.answering (doDeclineCard n (s.toLane.begun 0x4A#8 tag)) :=
  request_answering (f := (requestFrame (.declineCard tag n)).getD ⟨0, 0, []⟩) h rfl (doDeclineCard n)

/-- Settles O30: the checks one after another, then the entry removed; an expiry by the entry and its timer. -/
theorem cardsAreRemovedOnRequestAndExpiry : Obligations.CardsAreRemovedOnRequestAndExpiry := by
  refine ⟨fun tag n s hs => ?_, fun n s => ?_⟩
  · intro q
    refine ⟨?_, ?_⟩
    · rw [exec_cardDiscard hs, doCardDiscard]
      refine answering_check (not_handleOk n) rfl fun _ => ?_
      refine answering_check (by simp [Lane.noCard, Lane.card]) rfl fun _ => ?_
      rfl
    · rw [exec_declineCard hs, doDeclineCard]
      refine answering_check (not_handleOk n) rfl fun _ => ?_
      rcases hcard : s.cards.queue.find? (CardEntry.named n) with _ | e
      · exact answering_check_fails (by simp [Lane.noCard, Lane.card, hcard])
      have hfound : (s.toLane.begun 0x4A#8 tag).card n = some e := hcard
      have hheld : (s.toLane.begun 0x4A#8 tag).cardIs n .held = decide (e.state = .held) := Lane.cardIs_of_some hcard _
      rw [checked_passes (by simp [Lane.noCard, hfound])]
      refine answering_check (by rw [hheld]; simp) rfl fun _ => ?_
      rw [checked_nil, Lane.declineCard, hfound]
      rfl
  · rcases hcard : s.cards.queue.find? (CardEntry.named n) with _ | e
    · have hfound : s.toLane.card n = none := hcard
      exact advance_same (by simp only [Lane.expireCard, hfound])
    have hfound : s.toLane.card n = some e := hcard
    rcases ht : e.expiresAt with _ | t
    · refine (advance_same (f := Lane.expireCard n) (by simp only [Lane.expireCard, hfound, ht])).trans ?_
      simp only [ht]
    · have hexpired : s.toLane.expireCard n = (((s.toLane.elapseTo t).removeCard n).event 0x8E#8
          [.u8 n, .name e.cls.code, .text e.masked]).promote := by simp only [Lane.expireCard, hfound, ht]
      refine (advance_eq hexpired).trans ?_
      simp only [ht]
      rfl

end Sys2Proof.Machine
end

section
/-! PROOFS. The range table's requests (R95, R98, R99). -/

namespace Sys2Proof.Machine

theorem exec_rangeWrite {s : State} (h : s.takes) (tag : Byte) (n : Nat) (e : RangeFields) :
    exec (.rangeWrite tag n e) s = s.answering (doRangeWrite n e (s.toLane.begun 0x40#8 tag)) :=
  request_answering (f := (requestFrame (.rangeWrite tag n e)).getD ⟨0, 0, []⟩) h rfl (doRangeWrite n e)

theorem exec_rangeMask {s : State} (h : s.takes) (tag : Byte) (ps : List Nat) :
    exec (.rangeMask tag ps) s = s.answering (doRangeMask ps (s.toLane.begun 0x41#8 tag)) :=
  request_answering (f := (requestFrame (.rangeMask tag ps)).getD ⟨0, 0, []⟩) h rfl (doRangeMask ps)

theorem exec_rangeRead {s : State} (h : s.takes) (tag : Byte) (n : Nat) :
    exec (.rangeRead tag n) s = s.answering (doRangeRead n (s.toLane.begun 0x42#8 tag)) :=
  request_answering (f := (requestFrame (.rangeRead tag n)).getD ⟨0, 0, []⟩) h rfl (doRangeRead n)

/-! ## The parts of the third check of RANGE_WRITE (R98) -/

theorem classOf_eq_none_iff (b : Byte) : classOf b = none ↔ 4#8 < b := by
  revert b
  decide +kernel

theorem rangeDigitsOk_iff (digits : Option Text) :
    rangeDigitsOk digits = true ↔
      ∃ ds, digits = some ds ∧ 1 ≤ ds.length ∧ ds.length ≤ 8 ∧ ∀ d ∈ ds, 0x30 ≤ d.toNat ∧ d.toNat ≤ 0x39 := by
  rcases digits with _ | ds
  · simp [rangeDigitsOk]
  · simp [rangeDigitsOk, isDigit, and_assoc]

theorem rangeLengthsOk_iff (lo hi : Option Nat) :
    rangeLengthsOk lo hi = true ↔ ∃ l h, lo = some l ∧ hi = some h ∧ 12 ≤ l ∧ l ≤ h ∧ h ≤ 19 := by
  rcases lo with _ | l
  · simp [rangeLengthsOk]
  rcases hi with _ | h
  · simp [rangeLengthsOk]
  · simp [rangeLengthsOk]
    omega

theorem ownMaskOk_iff (n : Nat) (mask : Option (List Nat)) :
    ownMaskOk n mask = true ↔ ∀ ps, mask = some ps → 22 ≤ n ∧ ∀ p ∈ ps, 1 ≤ p ∧ p ≤ 8 := by
  rcases mask with _ | ps
  · simp [ownMaskOk]
  · simp [ownMaskOk]

/-- The class is named, and DEBIT when cashback is allowed (R98). -/
theorem rangeClass_iff {e : RangeFields} (h : e.cashbackAllowed = 0#8 ∨ e.cashbackAllowed = 1#8) :
    (rangeClass e).isSome = true ∧ (e.cashbackAllowed = 0#8 ∨ rangeClass e = some .debit) ↔
      ∃ b k, e.cls = some b ∧ classOf b = some k ∧ (e.cashbackAllowed = 1#8 → k = .debit) := by
  unfold rangeClass
  rcases e.cls with _ | b
  · simp
  rcases hk : classOf b with _ | k
  · simp [hk]
  rcases h with h | h
  · simp [hk, h]
  · simp [hk, h]

theorem rangeFieldsOk_iff {n : Nat} {e : RangeFields} (h : e.cashbackAllowed = 0#8 ∨ e.cashbackAllowed = 1#8) :
    rangeFieldsOk n e = true ↔
      (∃ ds, e.digits = some ds ∧ 1 ≤ ds.length ∧ ds.length ≤ 8 ∧ ∀ d ∈ ds, 0x30 ≤ d.toNat ∧ d.toNat ≤ 0x39) ∧
      (∃ b k, e.cls = some b ∧ classOf b = some k ∧ (e.cashbackAllowed = 1#8 → k = .debit)) ∧
      (∃ lo hi, e.lengthMin = some lo ∧ e.lengthMax = some hi ∧ 12 ≤ lo ∧ lo ≤ hi ∧ hi ≤ 19) ∧
      0 ≤ e.cashbackLimit ∧ e.cashbackLimit ≤ 50000 ∧
      (∀ ps, e.ownMask = some ps → 22 ≤ n ∧ ∀ p ∈ ps, 1 ≤ p ∧ p ≤ 8) := by
  rw [← rangeDigitsOk_iff, ← rangeLengthsOk_iff, ← ownMaskOk_iff, ← rangeClass_iff h]
  simp only [rangeFieldsOk, Bool.and_eq_true, Bool.or_eq_true, decide_eq_true_eq]
  tauto

/-- When the entry cannot be read (R184). -/
theorem not_rangeReadable (e : RangeFields) :
    (!rangeReadable e) = true ↔
      (e.valid ≠ 0#8 ∧ e.valid ≠ 1#8) ∨ (e.cashbackAllowed ≠ 0#8 ∧ e.cashbackAllowed ≠ 1#8) ∨
        (e.cls.any fun b => 4#8 < b) = true := by
  have hsetting : ∀ b : Byte, (settingOf b).isSome = false ↔ b ≠ 0#8 ∧ b ≠ 1#8 := fun b => by
    rw [← settingOf_isNone, Option.isSome_eq_false_iff]
  have hclass : (e.cls.all fun b => (classOf b).isSome) = false ↔ (e.cls.any fun b => 4#8 < b) = true := by
    rcases e.cls with _ | b
    · simp
    · simp [← classOf_eq_none_iff]
  simp only [rangeReadable, Bool.not_eq_true', Bool.and_eq_false_iff, hsetting, hclass, or_assoc]

/-- Settles O31: RANGE_WRITE's checks one after another; the parts of its third check; RANGE_MASK and RANGE_READ. -/
theorem rangeTableIsWrittenAndRead : Obligations.RangeTableIsWrittenAndRead := by
  refine ⟨⟨fun tag n e s hs => ?_, fun n e h => rangeFieldsOk_iff h, by decide, fun b hb => (classOf_eq_none_iff b).mpr hb⟩,
    fun tag n ps s hs => ⟨?_, ?_⟩⟩
  · rw [exec_rangeWrite hs, doRangeWrite, answering_ite, if_congr (not_rangeReadable e) rfl rfl]
    refine ite_agree (fun _ => answering_same _ _ _ _) fun _ => ?_
    refine answering_check (by simp [Till.manager]) rfl fun _ => ?_
    by_cases hn : n < 24
    · rw [dif_pos hn, checked_passes (by simpa using hn)]
      refine answering_check (by simp) rfl fun _ => ?_
      refine answering_check (by simp [Lane.fetchedAt, CardEntry.isFetched]) rfl fun _ => ?_
      rw [checked_nil, Lane.writeRange, dif_pos hn]
      exact answering_changed rfl _
    · rw [dif_neg hn]
      exact answering_check_fails (by simpa using hn)
  · rw [exec_rangeMask hs, doRangeMask]
    refine answering_check (by simp [Till.manager]) rfl fun _ => ?_
    refine answering_check (by simp [imp_iff_or_not, or_comm]) rfl fun _ => ?_
    exact answering_changed rfl _
  · rw [exec_rangeRead hs, doRangeRead]
    by_cases hn : n < 24
    · rw [dif_pos hn, dif_pos hn]
      refine answering_fields ?_
      simp [ok, Answer.allFields, Lane.rangeReport, listed, List.map_eq_flatMap]
    · rw [dif_neg hn, dif_neg hn]
      exact answering_same _ _ _ _

end Sys2Proof.Machine
end

section
/-! PROOFS. The three resets (R24, R46, R66, R93, R111, R128, R148, R149, R163, R179, R191, R195). -/

namespace Sys2Proof.Machine

/-! ## Power-on and the reset input, block by block -/

/-- The lane link: the weighing unit's event goes out at once, and COUNTER_LOST is latched when no number is stored. -/
theorem Link.startUp_eq (straps : Byte) (clock : Option DateTime) (second u left : Nat) (st : Store) :
    ((Link.restarted straps clock second).counterCheck st.lastTxn).handEvent ⟨0x80#8, 0x00#8, [.name u, .name left]⟩ =
      { receiver := .hunt, inProgress := none, reply := none
        sending := some (.event (eventOf 0x80#8 [.name u, .name left])), events := []
        enabled := 0x7FFFFFFF#32
        flags := (match st.txnRecord with | .valid _ => 0x0000#16 | .erased | .corrupt => 0x0001#16)
        rate := .baud115200, newRate := none, clock := clock, nextSecond := second, identity := straps } := by
  unfold Store.lastTxn
  cases st.txnRecord <;>
    simp [Link.counterCheck, Link.restarted, Link.reset, Link.handEvent, Link.enables, Link.pump, Link.latch, Latched.bit,
      eventOf]

theorem Sale.startUp_eq (st : Store) :
    Sale.startUp st.lastTxn =
      { contexts := Vector.replicate 6 Context.freed, stack := []
        counter := (match st.txnRecord with | .valid n => n | .erased | .corrupt => 0)
        restartPending := (match st.txnRecord with | .valid _ => false | .erased | .corrupt => true)
        backlog := none, autoOpen := false } := by
  unfold Store.lastTxn
  cases st.txnRecord <;> rfl

theorem Store.startUp_eq (switch : SwitchLevel) (torn : TornRecord) (st : Store) :
    st.startUp switch torn =
      { calRecord := (match st.write with
          | some (.calRecord r) => tornTo torn st.calRecord r | _ => st.calRecord)
        counterRecord := (match st.write with
          | some (.calCounter n) => tornTo torn st.counterRecord n | _ => st.counterRecord)
        txnRecord := (match st.write with
          | some (.txnNumber n) => tornTo torn st.txnRecord n | _ => st.txnRecord)
        mirror := (match (st.startUp switch torn).counterRecord with | .valid n => n | .erased => 0 | .corrupt => 9999)
        counterValid := (match (st.startUp switch torn).counterRecord with | .valid _ | .erased => true | .corrupt => false)
        calState := .out, switch := switch, working := none, leaveCause := none, commitTime := none, write := none } := by
  have hmirror : ∀ r : Stored Nat, mirrorOf r =
      ((match r with | .valid n => n | .erased => 0 | .corrupt => 9999),
        (match r with | .valid _ | .erased => true | .corrupt => false)) := by
    intro r
    cases r <;> rfl
  have hcounter : (st.startUp switch torn).counterRecord = (st.interrupted torn).counterRecord := rfl
  rw [hcounter, Store.startUp, hmirror]
  unfold Store.interrupted
  rcases st.write with _ | (_ | _ | _) <;> rfl

theorem drawerAtReset_eq (now : Nat) (tray : TrayLevel) (closed : ClosedLevel) :
    drawerAtReset now tray closed =
      match tray, closed with
      | .removed, _ => ⟨.absent, tray, closed, false, none, none, none, none, none, none⟩
      | .present, .shut => ⟨.closed, tray, closed, false, none, none, none, none, none, none⟩
      | .present, .opened =>
        ⟨.opened, tray, closed, false, none, none, none, some now, some (now + 30000000), none⟩ := by
  cases tray <;> cases closed <;> rfl

theorem Printer.startUp_eq (now : Nat) (i : ResetInputs) :
    Printer.startUp now i =
      { queue := [], slip := none, engine := .idle, draining := false, restartDue := false, line := none
        lineNumber := 0, phase := .line, row := 0, tailRows := 0, figures := none, cutUntil := none, feed := none
        limit := 64
        temperature := if -20 ≤ i.temperature ∧ i.temperature ≤ 120 then i.temperature else 25
        sensorValid := -20 ≤ i.temperature ∧ i.temperature ≤ 120
        lastReading := i.temperature, nextReading := now + 100000, paper := i.paper, nearEnd := i.nearEnd
        cover := i.cover, supply := i.supply, cutterHome := i.cutterHome } := by
  have hvalid : readingValid i.temperature = true ↔ -20 ≤ i.temperature ∧ i.temperature ≤ 120 := by
    simp [readingValid]
  unfold Printer.startUp Printer.read
  by_cases h : -20 ≤ i.temperature ∧ i.temperature ≤ 120
  · rw [if_pos (hvalid.mpr h), if_pos h, decide_eq_true h]
    rfl
  · rw [if_neg fun hv => h (hvalid.mp hv), if_neg h, decide_eq_false h]
    rfl

/-- A restart outside CAL: the calibration values and the zero are those of the record, or the defaults (R26). -/
theorem Lane.restarted_scale {p : Lane} (h : p.store.inCal = false) :
    p.restarted.scale = { p.scale with
      atRestart := p.store.recordValues, unit := if p.store.recordValid then .starting else .recordInvalid
      z := p.store.recordValues.z0, zpu := p.store.recordValues.z0, tare := 0, history := [], window := [], rail := 0
      chain := none, conditions := { Conditions.clear with hold := p.scale.conditions.hold } } := by
  have hforce : Lane.inForce { p with scale := { p.scale with atRestart := p.store.recordValues } } =
      p.store.recordValues := by
    rcases hrecord : p.store.calRecord <;>
      simp [Lane.inForce, h, Lane.inForceOutsideCal, Store.recordValid, Store.recordValues, hrecord]
  simp only [Lane.restarted, hforce]

/-- The weighing unit after the start-up check, by its calibration record. -/
theorem Lane.restarted_startUp_scale {p : Lane} (h : p.store.inCal = false) {next : Nat}
    (hscale : p.scale = { Scale.reset with nextSample := next }) :
    let v : CalValues := match p.store.calRecord with | .valid r => r.values | .erased | .corrupt => ⟨0, 65536, 8, 8, true⟩
    p.restarted.scale =
      { unit := (match p.store.calRecord with | .valid _ => .starting | .erased | .corrupt => .recordInvalid)
        atRestart := v, z := v.z0, zpu := v.z0, tare := 0, history := [], window := [], rail := 0, chain := none
        conditions := ⟨false, false, false, false⟩, joltExpiry := none, autoClear := false, timeoutTenths := 30
        feed := false, lastReport := none, lastSend := none, capture := none, latch := false
        nextSample := next } := by
  rw [Lane.restarted_scale h, hscale]
  unfold Store.recordValid Store.recordValues
  cases p.store.calRecord <;> rfl

/-- The part of a start-up before the weighing unit's restart. -/
def Lane.started (i : ResetInputs) (torn : TornRecord) (now : Nat) (clock : Option DateTime) (second : Nat) (p : Lane) :
    Lane :=
  { now := now
    link := (Link.restarted i.straps clock second).counterCheck (p.store.startUp i.switch torn).lastTxn
    sale := Sale.startUp (p.store.startUp i.switch torn).lastTxn
    scale := { Scale.reset with nextSample := now + 12500 }
    store := p.store.startUp i.switch torn
    swipe := Swipe.reset
    cards := Cards.reset
    till := Till.startUp now i
    composer := Composer.reset
    printer := Printer.startUp now i }

theorem Lane.startUp_eq_started (i : ResetInputs) (torn : TornRecord) (now : Nat) (clock : Option DateTime)
    (second left : Nat) (p : Lane) :
    p.startUp i torn now clock second left = (p.started i torn now clock second).restarted.scaleStateEvent left := rfl

/-- Settles O32: both resets are a start-up, and each block has its values. -/
theorem powerOnAndResetInputStartEveryBlock : Obligations.PowerOnAndResetInputStartEveryBlock := by
  intro i torn c now second clock s h
  obtain ⟨left, hexec, hleft⟩ : ∃ left, exec c s = s.becomes (s.toLane.startUp i torn now clock second left) ∧
      (c = .resetInput i torn → left = s.scale.unit.code) := by
    rcases h with ⟨rfl, rfl, rfl, rfl⟩ | ⟨rfl, rfl, rfl, rfl⟩
    · exact ⟨_, rfl, by simp⟩
    · exact ⟨_, rfl, fun _ => rfl⟩
  refine ⟨{ s with toLane := s.toLane.startUp i torn now clock second left }, left, hexec, rfl, rfl, hleft, ?_, ?_, ?_, ?_, rfl,
    rfl, ?_, rfl, ?_⟩
  · exact Link.startUp_eq _ _ _ _ _ _
  · exact Sale.startUp_eq _
  · exact Lane.restarted_startUp_scale (p := s.toLane.started i torn now clock second) rfl rfl
  · exact Store.startUp_eq _ _ _
  · intro drawer
    have hdrawer : ∀ tray closed, drawerAtReset now tray closed = drawer tray closed := drawerAtReset_eq now
    change Till.startUp now i = _
    rw [Till.startUp, hdrawer, hdrawer]
    rfl
  · exact Printer.startUp_eq _ _

/-! ## The lane reset -/

theorem Till.judgeLight_of_shown {t : Till} (h : t.judgedLight = t.shown) (now : Nat) : t.judgeLight now = t :=
  if_pos h

/-- The drive report of a drawer once a running pulse was cut (R148). -/
def Till.cutDrive (now : Nat) (t : Till) (d : Drawer) : Option DriveReport :=
  match t.driver with
  | some ⟨g, since⟩ =>
    if g = d then some ⟨(t.drawer d).pulse, drivenMs (t.drawer d).pulse since now, .cut⟩ else (t.drawer d).drive
  | none => (t.drawer d).drive

/-- The till controller once a running pulse was cut. -/
def Till.cut (now : Nat) (t : Till) : Till :=
  { t with
    drawerA := { t.drawerA with drive := t.cutDrive now .a }
    drawerB := { t.drawerB with drive := t.cutDrive now .b } }

theorem Till.cut_of_idle {t : Till} (h : t.driver = none) (now : Nat) : t.cut now = t := by
  have hdrive : ∀ d, t.cutDrive now d = (t.drawer d).drive := fun d => by simp [Till.cutDrive, h]
  rw [Till.cut, hdrive, hdrive]
  rfl

/-- Cutting the pulse touches the till controller and the weighing unit's jolt hold alone. -/
theorem Lane.cutForReset_eq {p : Lane} (h : p.till.judgedLight = p.till.shown) :
    p.cutForReset = { p with
      till := p.till.cut p.now
      scale := { p.scale with
        joltExpiry := if p.till.driver = none then p.scale.joltExpiry else some (p.now + 400000)
        window := if p.till.driver = none then p.scale.window else [] } } := by
  have hcut : ∀ d r, ((p.till.drawer d).state = r.state) →
      (p.till.setDrawer d r).judgeLight p.now = p.till.setDrawer d r := by
    intro d r hstate
    refine Till.judgeLight_of_shown ?_ _
    cases d
    · have hsame : p.till.drawerA.state = r.state := hstate
      simpa [Till.setDrawer, Till.judgedLight, ← hsame] using h
    · have hsame : p.till.drawerB.state = r.state := hstate
      simpa [Till.setDrawer, Till.judgedLight, ← hsame] using h
  rcases hdriver : p.till.driver with _ | ⟨_ | _, since⟩
  · rw [Lane.cutForReset, hdriver, Till.cut_of_idle hdriver]
    rfl
  · simp [Lane.cutForReset, hdriver, Till.cut, Till.cutDrive, Lane.writeDrive, Lane.onDrawer, Lane.setDrawer, Lane.withTill,
      Lane.drawer, hcut, Lane.joltHold]
    simp [Till.setDrawer, Till.drawer, hdriver]
  · simp [Lane.cutForReset, hdriver, Till.cut, Till.cutDrive, Lane.writeDrive, Lane.onDrawer, Lane.setDrawer, Lane.withTill,
      Lane.drawer, hcut, Lane.joltHold]
    simp [Till.setDrawer, Till.drawer, hdriver]

/-- A drawer's lane-reset values: kept in FAULT, taken from the sensors otherwise (R148). -/
theorem Till.drawerReset_eq (now : Nat) (t : Till) (r : DrawerRecord) :
    t.drawerReset now r =
      if r.state = .fault then { r with grant := false }
      else
        { r with
          grant := false, kick := none, confirmUntil := none
          state := match r.tray, r.closed with
            | .removed, _ => .absent | .present, .shut => .closed | .present, .opened => .opened
          openSince := if r.tray = .present ∧ r.closed = .opened then some now else none
          alarmAt :=
            if r.tray = .present ∧ r.closed = .opened ∧ t.alarmSeconds ≠ 0 then some (now + t.alarmSeconds * 1000000)
            else none } := by
  rw [Till.drawerReset]
  refine ite_congr rfl (fun _ => rfl) fun _ => ?_
  rcases htray : r.tray <;> rcases hclosed : r.closed <;>
    simp [DrawerRecord.fromSensors, htray, hclosed, Till.alarmFrom]

theorem exec_laneReset {s : State} (h : ∀ n, s.store.write ≠ some (.txnNumber n)) :
    exec .laneReset s = s.becomes s.toLane.laneReset := by
  have hno : s.toLane.beginWriting = false := by
    unfold Lane.beginWriting
    split
    · exact absurd ‹_› (h _)
    · rfl
  exact advance_eq (f := fun p => if p.beginWriting then p else p.laneReset) (by simp [hno])

/-- Settles O33: the cut of a running pulse, and then each block's values. -/
theorem laneResetTakesItsValues : Obligations.LaneResetTakesItsValues := by
  refine ⟨fun s hwrite hlight => ?_, fun n s hwrite => ?_⟩
  · have hcut := Lane.cutForReset_eq (p := s.toLane) hlight
    refine ⟨{ s with toLane := s.toLane.laneReset }, exec_laneReset hwrite, rfl, ?_⟩
    rw [Lane.laneReset, hcut]
    refine ⟨rfl, rfl, rfl, rfl, rfl, rfl, rfl, ?_, rfl, rfl⟩
    intro drawer till
    have hdrawer : ∀ d, Till.drawerReset s.now (s.till.cut s.now) ((s.till.cut s.now).drawer d) = drawer d := by
      intro d
      rw [Till.drawerReset_eq]
      cases d <;> rfl
    have htill : Till.laneReset s.now (s.till.cut s.now) = till := by
      rw [Till.laneReset, show (s.till.cut s.now).drawerA = (s.till.cut s.now).drawer .a from rfl,
        show (s.till.cut s.now).drawerB = (s.till.cut s.now).drawer .b from rfl, hdrawer, hdrawer]
      rfl
    exact congrArg (Till.judgeLight s.now) htill
  · have hwriting : s.toLane.beginWriting = true := by simp [Lane.beginWriting, hwrite]
    exact advance_same (f := fun p => if p.beginWriting then p else p.laneReset) (by simp [hwriting])

end Sys2Proof.Machine
end

section
/-! PROOFS. A sample of the weighing unit (R28 to R39). -/

namespace Sys2Proof.Machine

/-! ## The chain and the conditions (R30 to R36) -/

theorem divisionOf_eq (net : Int) : divisionOf net = if net.natAbs ≤ 60000 then 20 else 50 :=
  if_congr (within_eq_true 60000 net) rfl rfl

/-- The part after the stages that compute the chain, the window and the conditions (R28 to R36). -/
theorem Lane.computeChain_eq (n : Int) (p : Lane) :
    (p.enterHistory n).computeChain =
      let v := p.inForce
      let history := newest 16 (p.scale.history ++ [n])
      let chain := chainOf (filtered v.filterLength history) p.scale.z v.gain p.scale.tare
      let window := newest v.windowLength
        (if p.scale.joltExpiry.isSome then p.scale.window else p.scale.window ++ [chain.count])
      { p with scale := { p.scale with
          history := history, chain := some chain, window := window
          conditions := ⟨stableAt window v.windowLength p.scale.z v.gain, overloadAt chain.gross, underloadAt chain.gross,
            p.scale.joltExpiry.isSome⟩ } } := by
  have hforce : (p.enterHistory n).inForce = p.inForce := rfl
  rw [Lane.computeChain, hforce]
  rfl

/-- The chain is there once it was computed, so the later stages are made. -/
theorem Lane.processSample_eq (n : Int) (p : Lane) :
    ∃ chain, (p.enterHistory n).computeChain.scale.chain = some chain ∧
      p.processSample n = ((((p.enterHistory n).computeChain).zeroStage chain).captureStage chain).feedStage :=
  ⟨_, by rw [Lane.computeChain_eq], by rw [Lane.processSample, Lane.computeChain_eq]⟩

/-! ## The zero (R37, R39) -/

theorem Lane.powerUpZero_eq (chain : Chain) (p : Lane) :
    p.powerUpZero chain =
      if (unitsFrom chain.count p.inForce.z0 p.inForce.gain).natAbs ≤ 15000 then
        { p with
          scale := { p.scale with unit := .ready, z := chain.count, zpu := chain.count }
          link := p.link.saying 0x80#8 [.name 2, .name p.scale.unit.code] }
      else if p.scale.unit = .starting then
        { p with scale := { p.scale with unit := .zeroFault }, link := p.link.saying 0x80#8 [.name 1, .name 0] }
      else p := by
  refine (if_congr (within_eq_true 15000 _) rfl rfl).trans ?_
  refine ite_congr rfl (fun _ => rfl) fun _ => ite_congr rfl (fun hunit => ?_) fun _ => rfl
  rw [Lane.enterUnit, hunit]
  rfl

theorem Lane.trackZero_eq (chain : Chain) (p : Lane) :
    p.trackZero chain =
      if p.inForce.tracking = true ∧ p.scale.conditions.stable = true ∧ p.scale.tare = 0 ∧ p.scale.capture = none ∧
          chain.gross.natAbs ≤ 10 ∧ (unitsFrom chain.count p.scale.zpu p.inForce.gain).natAbs ≤ 3000 then
        p.setZero chain.count
      else p := by
  rw [Lane.trackZero]
  have hgross : within 10 chain.gross = true ↔ chain.gross.natAbs ≤ 10 := within_eq_true 10 _
  have hrange : p.inZeroRange chain.count = true ↔ (unitsFrom chain.count p.scale.zpu p.inForce.gain).natAbs ≤ 3000 :=
    within_eq_true 3000 _
  refine if_congr ?_ rfl rfl
  simp [hgross, hrange, and_assoc]

/-- The zero stage: the power-up zero test, zero tracking, or nothing (R37, R39). -/
theorem Lane.zeroStage_eq (chain : Chain) (p : Lane) :
    p.zeroStage chain =
      if (p.scale.unit = .starting ∨ p.scale.unit = .zeroFault) ∧ p.scale.conditions.stable = true then p.powerUpZero chain
      else if p.scale.unit = .ready then p.trackZero chain
      else p := by
  rcases hunit : p.scale.unit <;> simp [Lane.zeroStage, hunit]

/-! ## A restart (R26) -/

/-- The zero of a restart: the working set's in CAL, the record's or the default otherwise. -/
def Lane.restartZero (p : Lane) : Int :=
  match p.store.working with
  | some w => if p.store.calState = .out then p.store.recordValues.z0 else w.z0
  | none => p.store.recordValues.z0

theorem Store.inCal_eq_false_iff (s : Store) : s.inCal = false ↔ s.calState = .out := by
  simpa using (Store.inCal_iff s).not

theorem Lane.restarted_eq (p : Lane) :
    p.restarted = { p with scale := { p.scale with
      unit := if p.store.recordValid then .starting else .recordInvalid
      atRestart := p.store.recordValues, z := p.restartZero, zpu := p.restartZero, tare := 0, history := [], window := []
      rail := 0, chain := none, conditions := ⟨false, false, false, p.scale.conditions.hold⟩ } } := by
  have hforce : (Lane.inForce { p with scale := { p.scale with atRestart := p.store.recordValues } }).z0 =
      p.restartZero := by
    have hout : (Lane.inForceOutsideCal { p with scale := { p.scale with atRestart := p.store.recordValues } }).z0 =
        p.store.recordValues.z0 := by
      rcases hrecord : p.store.calRecord <;>
        simp [Lane.inForceOutsideCal, Store.recordValid, Store.recordValues, hrecord]
    unfold Lane.inForce Lane.restartZero
    rcases hworking : p.store.working with _ | w
    · rcases hcal : p.store.inCal <;> simpa [hcal, hworking] using hout
    · rcases hcal : p.store.inCal
      · have hstate := (Store.inCal_eq_false_iff _).mp hcal
        simpa [hcal, hworking, hstate] using hout
      · have hstate := (Store.inCal_iff _).mp hcal
        simp [hstate]
  simp only [Lane.restarted, hforce, Conditions.clear]

/-! ## Each outcome of the rail test (R29) -/

theorem exec_adcSample_eq (n : Int) (s : State) : exec (.adcSample n) s = s.becomes (s.toLane.sample n) := rfl

/-- Outside ADC_FAULT a sample that does not end eight on the rail is processed. -/
theorem Lane.sample_processes {p : Lane} {n : Int} (hunit : p.scale.unit ≠ .adcFault)
    (hrail : railCount n = false ∨ p.scale.rail < 7) :
    p.sample n = ((p.samplePeriod).setRail (if railCount n then p.scale.rail + 1 else 0)).processSample n := by
  have hother : p.samplePeriod.scale.unit ≠ .adcFault := hunit
  rw [Lane.sample]
  rw [if_neg hother]
  rcases hn : railCount n with _ | _
  · rfl
  · have hroom : p.samplePeriod.scale.rail + 1 < 8 := by
      rcases hrail with h | h
      · simp [hn] at h
      · exact Nat.succ_lt_succ h
    rw [if_pos rfl, if_pos hroom]
    rfl

theorem Lane.sample_fails {p : Lane} {n : Int} (hunit : p.scale.unit ≠ .adcFault) (hn : railCount n = true)
    (hrail : 7 ≤ p.scale.rail) : p.sample n = p.samplePeriod.enterAdcFault.feedStage := by
  have hother : p.samplePeriod.scale.unit ≠ .adcFault := hunit
  have hfull : ¬p.samplePeriod.scale.rail + 1 < 8 := by
    have hsame : p.samplePeriod.scale.rail = p.scale.rail := rfl
    omega
  rw [Lane.sample]
  rw [if_neg hother, if_pos hn, if_neg hfull]

theorem Lane.sample_inFault {p : Lane} {n : Int} (hunit : p.scale.unit = .adcFault) :
    p.sample n =
      if railCount n then (p.samplePeriod.setRail 0).feedStage
      else if p.scale.rail < 7 then (p.samplePeriod.setRail (p.scale.rail + 1)).feedStage
      else p.samplePeriod.restart.processSample n := by
  have hfault : p.samplePeriod.scale.unit = .adcFault := hunit
  have hsame : p.samplePeriod.scale.rail = p.scale.rail := rfl
  rw [Lane.sample]
  rw [if_pos hfault, hsame]
  refine ite_congr rfl (fun _ => rfl) fun _ => if_congr ?_ rfl rfl
  omega

/-- The eighth sample on the rail: a pending capture ends, then ADC_FAULT is entered (R29, R59). -/
theorem Lane.enterAdcFault_eq (p : Lane) :
    p.enterAdcFault = { p with
      scale := { p.scale with
        unit := .adcFault, capture := none, history := [], window := [], rail := 0, chain := none
        conditions := ⟨false, false, false, p.scale.conditions.hold⟩ }
      link := (match p.scale.capture with
        | none => p.link
        | some c => p.link.saying 0x82#8 [.name 5, .u8 c.context, .u16 c.txn, .text c.description, .money c.unitPrice,
            .u16 (256 - p.held)]).saying 0x80#8 [.name 3, .name p.scale.unit.code] } := by
  rcases hk : p.scale.capture with _ | k
  · rw [Lane.enterAdcFault, Lane.endCapture_of_none hk]
    simp only [Lane.enterUnit, Lane.scaleStateEvent, Lane.event, Conditions.clear, ← hk]
    rfl
  · rw [Lane.enterAdcFault, Lane.endCapture_of_some hk]
    rfl

theorem roundTo_nearest {e : Nat} (h : 0 < e) (x : Int) :
    (e : Int) ∣ roundTo e x ∧ 2 * (x - roundTo e x).natAbs ≤ e ∧
      (2 * (x - roundTo e x).natAbs = e → x.natAbs < (roundTo e x).natAbs) :=
  ⟨Dvd.intro_left _ rfl, roundHalfAway_nearest x e h⟩

/-- A restart at the end of a sample period is one before it. -/
theorem Lane.restart_samplePeriod (p : Lane) : p.samplePeriod.restart = p.restart.samplePeriod.setRail 0 := by
  rw [Lane.restart, Lane.restart, Lane.restarted_eq, Lane.restarted_eq]
  rfl

/-- Settles O34: the rail test decides; the chain, the window and the conditions are then those stated, and the zero stage
is the power-up zero test or zero tracking. -/
theorem sampleRunsTheChain : Obligations.SampleRunsTheChain := by
  refine ⟨fun n stable s hunit hrail => ?_, ⟨fun n s => ?_, fun p => ?_⟩, fun num den h => roundHalfAway_nearest num den h,
    fun e x h => roundTo_nearest h x, fun count zero gain => rfl, railCount_iff⟩
  · intro v history held count gross net e chain hold window hstable far scale q r
    have hgross : gross = fun c => grossOf c s.scale.z v.gain := funext fun c => (grossOf_eq c s.scale.z v.gain).symm
    have hchain : chain = chainOf count s.scale.z v.gain s.scale.tare := by
      have he : e = divisionOf net := (divisionOf_eq net).symm
      dsimp only [chain]
      rw [he]
      dsimp only [net]
      rw [hgross]
      rfl
    have hstableAt : stable = stableAt window v.windowLength s.scale.z v.gain := by
      rw [hgross] at hstable
      exact Bool.eq_iff_iff.mpr (hstable.trans (stableAt_eq_true _ _ _ _).symm)
    have hq : ((s.toLane.samplePeriod.setRail (if railCount n then s.scale.rail + 1 else 0)).enterHistory n).computeChain =
        q := by
      rw [Lane.computeChain_eq]
      dsimp only [q, scale]
      rw [hchain, hstableAt, hgross]
      rfl
    have hr : q.zeroStage chain = r := by
      rw [Lane.zeroStage_eq, Lane.powerUpZero_eq, Lane.trackZero_eq]
      exact ite_congr rfl (fun _ => rfl) fun _ => (ite_and _ _ _ _).symm
    rw [exec_adcSample_eq, Lane.sample_processes hunit hrail]
    refine congrArg (fun p => s.becomes p) ?_
    simp only [Lane.processSample]
    rw [show s.toLane.scale.rail = s.scale.rail from rfl, hq, ← hr]
  · intro now q
    refine ⟨fun hunit hn hrail => ?_, fun hunit hn => ?_, fun hunit hn hrail => ?_, fun hunit hn hrail => ?_⟩
    · intro ended
      rw [exec_adcSample_eq, Lane.sample_fails hunit hn hrail, Lane.enterAdcFault_eq]
      rfl
    · rw [exec_adcSample_eq, Lane.sample_inFault hunit, if_pos hn]
      rfl
    · rw [exec_adcSample_eq, Lane.sample_inFault hunit, if_neg (by simp [hn]), if_pos hrail]
      rfl
    · have hrestarted : s.toLane.restart.scale.unit ≠ .adcFault := by
        rw [Lane.restart, Lane.restarted_eq]
        cases s.store.recordValid <;> simp [Lane.scaleStateEvent]
      rw [exec_adcSample_eq, exec_adcSample_eq, Lane.sample_inFault hunit, if_neg (by simp [hn]), if_neg (by omega),
        Lane.sample_processes hrestarted (.inl hn), hn, Lane.restart_samplePeriod]
      rfl
  · intro v u z0
    have hv : p.store.recordValues = v := by
      dsimp only [v, Store.recordValues]
      cases p.store.calRecord <;> rfl
    have hu : (if p.store.recordValid then UnitState.starting else .recordInvalid) = u := by
      rcases hrecord : p.store.calRecord <;> simp [u, Store.recordValid, hrecord]
    have hz : p.restartZero = z0 := by
      rcases hworking : p.store.working <;> simp [z0, Lane.restartZero, hv, hworking]
    rw [Lane.restart, Lane.restarted_eq, hv, hu, hz]
    rfl

end Sys2Proof.Machine
end

section
/-! PROOFS. The capture stage and the feed (R44, R45, R50 to R55, R63), and what the weighing unit is asked (R38 to R62). -/

namespace Sys2Proof.Machine

/-! ## The capture stage (R50 to R55, R63) -/

/-- The capture request with the obstacle of an unfit sample (R51). -/
def Lane.waitsFor (o : Obstacle) (c : Capture) (p : Lane) : Lane :=
  { p with scale := { p.scale with capture := some { c with obstacle := o } } }

theorem Lane.judge_eq (c : Capture) (chain : Chain) (p : Lane) :
    p.judge c chain =
      let amount := weighedAmount chain.netGrams c.unitPrice
      let subtotal := (p.ctx c.context).subtotal
      let weighed : List Field := [.money amount, .u16 chain.netGrams.toNat, .u16 (chain.division / 10)]
      if p.scale.conditions.hold = true then p.waitsFor .hold c
      else if p.scale.conditions.overload = true then p.waitsFor .overload c
      else if p.scale.conditions.underload = true then p.waitsFor .underload c
      else if p.scale.conditions.stable = false then p.waitsFor .motion c
      else if chain.netRounded < 400 then p.waitsFor .underMinimum c
      else if 150000 < chain.netRounded then p.waitsFor .overMaximum c
      else if 9999999 < amount then p.endCapture .priceLimit (weighed ++ resultFlags subtotal true)
      else if 99999999 < subtotal + amount then
        p.endCapture .totalLimit (weighed ++ [.money subtotal] ++ resultFlags subtotal true)
      else p.makeCapture c chain amount := by
  unfold Lane.judge obstacleOf
  simp only [Bool.not_eq_true']
  split_ifs <;> rfl

/-- The latch is tested first (R63). -/
def Lane.latchTested (chain : Chain) (p : Lane) : Lane :=
  { p with scale := { p.scale with latch := if chain.gross < 400 then false else p.scale.latch } }

theorem Lane.captureStage_eq (chain : Chain) (p : Lane) :
    p.captureStage chain =
      match p.scale.capture with
      | some c => (p.latchTested chain).judge c chain
      | none => p.latchTested chain := by
  have hlatch : (if chain.gross < 400 then { p with scale := { p.scale with latch := false } } else p) =
      p.latchTested chain := by
    unfold Lane.latchTested
    split_ifs
    · rfl
    · rfl
  rw [Lane.captureStage, hlatch]
  cases hcapture : p.scale.capture <;> simp [Lane.latchTested, hcapture]

/-- The capture made: the WEIGHED record appended, the latch set, and WEIGH_DONE CAPTURED (R54, R55). -/
theorem Lane.makeCapture_eq (c : Capture) (chain : Chain) (amount : Int) (p : Lane) :
    p.makeCapture c chain amount =
      let b := (p.ctx c.context).append (weighedRecord c chain amount p.clock)
      let q : Lane := { p.setCtx c.context b with scale := { p.scale with
        latch := true, tare := if p.scale.autoClear then 0 else p.scale.tare, capture := none } }
      q.event 0x82#8 ([.name 0, .u8 c.context, .u16 c.txn, .text c.description, .money c.unitPrice, .u16 (256 - q.held)] ++
        [.u8 ((p.ctx c.context).items.length + 1), .u16 chain.netGrams.toNat, .u16 (chain.tare / 10),
          .u16 (chain.division / 10)] ++ stampField p.clock ++
        [.money amount, .money b.subtotal, .flag (b.subtotal < 0), .flag (b.subtotal = 0), .flag false]) := by
  have hlength : ((p.ctx c.context).append (weighedRecord c chain amount p.clock)).items.length =
      (p.ctx c.context).items.length + 1 := List.length_append
  rw [Lane.makeCapture, hlength]
  refine congrArg (fun fields => Lane.event 0x82#8 fields _) ?_
  simp only [List.append_assoc, resultFlags]
  rfl

/-- Settles O35: the latch, the obstacles in order, the two limits, and then the record appended. -/
theorem captureStageJudgesTheSample : Obligations.CaptureStageJudgesTheSample := by
  intro chain p
  rw [Lane.captureStage_eq]
  rcases hcapture : p.scale.capture with _ | c
  · rfl
  · dsimp only
    have hlatched : (p.latchTested chain).scale.capture = some c := hcapture
    refine (Lane.judge_eq c chain (p.latchTested chain)).trans ?_
    refine ite_congr rfl (fun _ => rfl) fun _ => ?_
    refine ite_congr rfl (fun _ => rfl) fun _ => ?_
    refine ite_congr rfl (fun _ => rfl) fun _ => ?_
    refine ite_congr rfl (fun _ => rfl) fun _ => ?_
    refine ite_congr rfl (fun _ => rfl) fun _ => ?_
    refine ite_congr rfl (fun _ => rfl) fun _ => ?_
    refine ite_congr rfl (fun _ => ?_) fun _ => ?_
    · rw [Lane.endCapture_of_some hlatched]
      rfl
    refine ite_congr rfl (fun _ => ?_) fun _ => ?_
    · rw [Lane.endCapture_of_some hlatched]
      rfl
    · rw [Lane.makeCapture_eq]
      rfl

end Sys2Proof.Machine
end

section
/-! PROOFS. The live feed and the weighing unit's requests (R38 to R49, R56, R57, R62). -/

namespace Sys2Proof.Machine

/-! ## The feed (R44, R45) -/

theorem Scale.displayed_eq (s : Scale) :
    s.displayed =
      if s.unit = .ready ∧ s.conditions.overload = false ∧ s.conditions.underload = false then s.chain else none := by
  simp [Scale.displayed]

theorem optional_map {α β : Type} (f : β → List Field) (g : α → β) (x : Option α) :
    optional f (x.map g) = optional (fun a => f (g a)) x := by
  cases x
  · rfl
  · rfl

theorem Lane.feedSpaced_iff (p : Lane) :
    p.feedSpaced = true ↔ ∀ t, p.scale.lastSend = some t → t + 100000 ≤ p.now := by
  rcases hsend : p.scale.lastSend with _ | t <;> simp [Lane.feedSpaced, hsend]

/-- What the feed hands over (R45). -/
theorem Scale.report_fields (s : Scale) :
    s.report.fields =
      [.name s.unit.code] ++ optional (fun c => [.i16 (c.netRounded / 10)]) s.displayed ++ [.u16 s.reportedTare] ++
        optional (fun c => [.u16 (c.division / 10)]) s.displayed ++
        [.flag s.conditions.stable, .flag s.conditions.overload, .flag s.conditions.underload,
          .flag s.conditions.hold] := by
  rw [FeedReport.fields, Scale.report]
  dsimp only
  rw [optional_map, optional_map]
  rfl

theorem Lane.feedStage_eq (p : Lane) :
    p.feedStage =
      if p.scale.feed = true ∧ p.scale.lastReport ≠ some p.scale.report ∧
          (∀ t, p.scale.lastSend = some t → t + 100000 ≤ p.now) ∧ p.link.events.length < 12 then
        { p with
          scale := { p.scale with lastReport := some p.scale.report, lastSend := some p.now }
          link := p.link.saying 0x81#8 p.scale.report.fields }
      else p := by
  rw [Lane.feedStage]
  exact if_congr (by rw [Lane.feedSpaced_iff]) rfl rfl

theorem exec_scaleFeed {s : State} (h : s.takes) (tag b : Byte) :
    exec (.scaleFeed tag b) s = s.answering (doScaleFeed b (s.toLane.begun 0x26#8 tag)) :=
  request_answering (f := ⟨0x26#8, tag, [b]⟩) h rfl (doScaleFeed b)

theorem exec_scaleSetup {s : State} (h : s.takes) (tag b : Byte) (tenths : Nat) :
    exec (.scaleSetup tag b tenths) s = s.answering (doScaleSetup b tenths (s.toLane.begun 0x24#8 tag)) :=
  request_answering (f := (requestFrame (.scaleSetup tag b tenths)).getD ⟨0, 0, []⟩) h rfl (doScaleSetup b tenths)

/-- Settles O36: the report compared, and then the settings and the end of the hold. -/
theorem feedHandsOverANewReport : Obligations.FeedHandsOverANewReport := by
  refine ⟨fun p => ?_, fun tag b tenths s hs => ⟨?_, ?_⟩, fun s => ?_⟩
  · intro k shown tare report
    have hshown : p.scale.displayed = shown := Scale.displayed_eq p.scale
    have htare : p.scale.reportedTare = tare := by
      rcases hchain : p.scale.chain <;> simp [tare, Scale.reportedTare, hchain]
    have hreport : p.scale.report = report := by
      rw [Scale.report, hshown, htare]
      rfl
    rw [Lane.feedStage_eq, Scale.report_fields, hreport, hshown, htare]
    rcases shown with _ | c <;> rfl
  · rw [exec_scaleFeed hs, doScaleFeed]
    rcases settingOf_cases b with ⟨hnone, hbad⟩ | ⟨hsome, hgood⟩
    · rw [hnone, if_pos hbad]
      exact answering_same _ _ _ _
    · rw [hsome, if_neg hgood]
      exact answering_changed rfl _
  · rw [exec_scaleSetup hs, doScaleSetup]
    refine answering_check (by simp [Option.isSome_iff_ne_none]) rfl fun _ => ?_
    refine answering_check (by rw [Bool.or_eq_true, Bool.or_eq_true, settingOf_isNone]; simp [or_assoc]) rfl fun _ => ?_
    exact answering_changed rfl _
  · refine advance_eq ?_
    rcases hexpiry : s.scale.joltExpiry with _ | t <;> simp [Lane.joltExpire, Lane.elapseIf, hexpiry, Lane.elapseTo]

/-! ## ZERO, TARE, TARE_PRESET and TARE_CLEAR (R38, R40 to R42) -/

theorem exec_zero {s : State} (h : s.takes) (tag : Byte) :
    exec (.zero tag) s = s.answering (doZero (s.toLane.begun 0x20#8 tag)) :=
  request_answering (f := ⟨0x20#8, tag, []⟩) h rfl doZero

theorem exec_tare {s : State} (h : s.takes) (tag : Byte) :
    exec (.tare tag) s = s.answering (doTare (s.toLane.begun 0x21#8 tag)) :=
  request_answering (f := ⟨0x21#8, tag, []⟩) h rfl doTare

theorem exec_tarePreset {s : State} (h : s.takes) (tag : Byte) (grams : Nat) :
    exec (.tarePreset tag grams) s = s.answering (doTarePreset grams (s.toLane.begun 0x22#8 tag)) :=
  request_answering (f := (requestFrame (.tarePreset tag grams)).getD ⟨0, 0, []⟩) h rfl (doTarePreset grams)

theorem exec_tareClear {s : State} (h : s.takes) (tag : Byte) :
    exec (.tareClear tag) s = s.answering (doTareClear (s.toLane.begun 0x23#8 tag)) :=
  request_answering (f := ⟨0x23#8, tag, []⟩) h rfl doTareClear

/-- The checks that ZERO, TARE and TARE_PRESET make first. -/
theorem answering_weighingChecks {s : State} {code tag : Byte} {act : Lane → Lane × Answer}
    {rest : Host.Outcome State Fault Refusal} (hrest : s.answering (act (s.toLane.begun code tag)) = rest) :
    s.answering (checked (s.toLane.begun code tag).weighingChecks act (s.toLane.begun code tag)) =
      if s.store.calState ≠ .out then s.says code tag (refusal .calMode)
      else if s.scale.unit ≠ .ready then s.says code tag (refusal .scaleNotReady)
      else if s.scale.capture ≠ none then s.says code tag (refusal .capturePending)
      else rest := by
  rw [Lane.weighingChecks]
  refine answering_check (Store.inCal_iff _) rfl fun _ => ?_
  refine answering_check (by simp) rfl fun _ => ?_
  exact answering_check (by simp [Option.isSome_iff_ne_none]) rfl fun _ => hrest

/-- With no sample taken the unit answers as in motion. -/
theorem Lane.moving_of_none {p : Lane} (h : p.scale.chain = none) : p.moving = true := by
  simp [Lane.moving, h]

theorem Lane.moving_of_some {p : Lane} {c : Chain} (h : p.scale.chain = some c) :
    p.moving = true ↔ p.scale.conditions.hold = true ∨ p.scale.conditions.stable = false := by
  simp [Lane.moving, h]

/-- The check on motion: without a sample it fails. -/
theorem answering_motion {s : State} {code tag : Byte} {l : List (Bool × Answer)} {act : Lane → Lane × Answer}
    {rest : Chain → Host.Outcome State Fault Refusal}
    (hrest : ∀ c, s.scale.chain = some c → s.answering (checked l act (s.toLane.begun code tag)) = rest c) :
    s.answering (checked (((s.toLane.begun code tag).moving, refusedWith .motion) :: l) act (s.toLane.begun code tag)) =
      if s.scale.conditions.hold = true ∨ s.scale.conditions.stable = false then s.says code tag (refusal .motion)
      else
        match s.scale.chain with
        | none => s.says code tag (refusal .motion)
        | some c => rest c := by
  rcases hchain : s.scale.chain with _ | c
  · have hmoving : (s.toLane.begun code tag).moving = true := Lane.moving_of_none hchain
    rw [answering_check_fails hmoving]
    split_ifs
    · rfl
    · rfl
  · exact answering_check (Lane.moving_of_some hchain) rfl fun _ => hrest c hchain

theorem Lane.lastCount_of_some {p : Lane} {c : Chain} (h : p.scale.chain = some c) : p.lastCount = c.count := by
  rw [Lane.lastCount, h]

theorem Lane.lastGross_of_some {p : Lane} {c : Chain} (h : p.scale.chain = some c) : p.lastGross = c.gross := by
  rw [Lane.lastGross, h]

theorem Lane.not_inZeroRange (count : Int) (p : Lane) :
    (!p.inZeroRange count) = true ↔
      3000 < (roundHalfAway ((count - p.scale.zpu) * p.inForce.gain) 65536).natAbs := by
  have hrange : p.inZeroRange count = true ↔ (unitsFrom count p.scale.zpu p.inForce.gain).natAbs ≤ 3000 :=
    within_eq_true 3000 _
  rw [Bool.not_eq_true', ← Bool.not_eq_true, hrange, not_le]
  rfl

/-- Settles O37: the checks of each one after another, then the zero or the tare moved. -/
theorem zeroAndTareMoveTheZeroAndTheTare : Obligations.ZeroAndTareMoveTheZeroAndTheTare := by
  intro tag grams s hs k checks tared
  refine ⟨?_, ?_, ?_, ?_⟩
  · rw [exec_zero hs, doZero]
    refine answering_weighingChecks ?_
    refine answering_check (by simp) rfl fun _ => ?_
    refine answering_motion fun c hchain => ?_
    have hcount : (s.toLane.begun 0x20#8 tag).lastCount = c.count := Lane.lastCount_of_some hchain
    rw [hcount]
    refine answering_check (Lane.not_inZeroRange _ _) rfl fun _ => ?_
    rw [checked_nil, hcount]
    exact answering_changed rfl _
  · rw [exec_tare hs, doTare]
    refine answering_weighingChecks ?_
    refine answering_motion fun c hchain => ?_
    have hgross : (s.toLane.begun 0x21#8 tag).lastGross = c.gross := Lane.lastGross_of_some hchain
    rw [hgross]
    refine Eq.trans ?_ (if_congr or_assoc rfl rfl)
    refine Eq.trans ?_ (ite_or _ _ _ _).symm
    refine answering_check (by simp) rfl fun _ => ?_
    refine answering_check (by rw [decide_eq_true_iff, tareOf]) rfl fun _ => ?_
    rw [checked_nil, hgross]
    exact answering_changed rfl _
  · rw [exec_tarePreset hs, doTarePreset]
    refine answering_weighingChecks ?_
    refine answering_check (by simp [or_assoc]) rfl fun _ => ?_
    exact answering_changed rfl _
  · rw [exec_tareClear hs, doTareClear]
    refine answering_check (by simp [Option.isSome_iff_ne_none]) rfl fun _ => ?_
    exact answering_changed rfl _

end Sys2Proof.Machine
end

section
/-! PROOFS. WEIGH and the capture (R58 to R61). -/

namespace Sys2Proof.Machine

theorem exec_weigh {s : State} (h : s.takes) (tag : Byte) (d : Text) (x : Int) :
    exec (.weigh tag d x) s = s.answering (doWeigh d x (s.toLane.begun 0x28#8 tag)) :=
  request_answering (f := (requestFrame (.weigh tag d x)).getD ⟨0, 0, []⟩) h rfl (doWeigh d x)

theorem exec_weighCancel {s : State} (h : s.takes) (tag : Byte) :
    exec (.weighCancel tag) s = s.answering (doWeighCancel (s.toLane.begun 0x29#8 tag)) :=
  request_answering (f := ⟨0x29#8, tag, []⟩) h rfl doWeighCancel

/-- With no capture pending no record is reserved. -/
theorem Lane.poolFree_of_no_capture {p : Lane} (h : p.scale.capture = none) : p.poolFree = 256 - p.held := by
  simp [Lane.poolFree, Lane.reserved, h]

/-- A pending capture holds one record back. -/
theorem Lane.poolFree_of_capture {p : Lane} {c : Capture} (h : p.scale.capture = some c) :
    p.poolFree = 255 - p.held := by
  have hreserved : p.reserved = 1 := by simp [Lane.reserved, h]
  rw [Lane.poolFree, hreserved]
  omega

theorem Lane.startCapture_eq {p : Lane} {i : Fin 6} (h : p.current = some i) (d : Text) (x : Int) :
    p.startCapture d x =
      ({ p with scale := { p.scale with capture := some (p.captureFor i d x) } },
        accepted [.u8 i, .u16 ((p.ctx i).txn.getD 0), .u16 (255 - p.held), .u8 p.scale.timeoutTenths]) := by
  rw [Lane.startCapture, h]
  dsimp only
  rw [Lane.poolFree_of_capture (c := p.captureFor i d x) rfl]
  rfl

/-- Settles O38: the ten checks of WEIGH, and the two ends of a capture. -/
theorem weighReservesARecordUntilTheCaptureEnds : Obligations.WeighReservesARecordUntilTheCaptureEnds := by
  refine ⟨fun tag d x s hs => ?_, fun tag s => ⟨fun hs => ?_, ?_⟩⟩
  · rw [exec_weigh hs, doWeigh]
    refine answering_check (Store.inCal_iff _) rfl fun _ => ?_
    rcases hc : s.toLane.current with _ | i
    · exact answering_check_fails ((Lane.noSaleOpen_iff _).mpr hc)
    have hcur : (s.toLane.begun 0x28#8 tag).currentCtx = s.toLane.ctx i := Lane.currentCtx_eq hc
    have hopen : (s.toLane.begun 0x28#8 tag).noSaleOpen = false := Lane.noSaleOpen_eq_false hc
    rw [checked_passes hopen, hcur]
    refine answering_check (by simp) rfl fun _ => ?_
    refine answering_check (Till.locked_iff _) rfl fun _ => ?_
    refine answering_check (by simp [descriptionOk_eq_false, or_assoc]) rfl fun _ => ?_
    refine answering_check (by simp) rfl fun _ => ?_
    refine answering_check (by simp [Option.isSome_iff_ne_none]) rfl fun _ => ?_
    refine answering_check Iff.rfl rfl fun _ => ?_
    refine answering_check (by simp) rfl fun _ => ?_
    refine answering_check (by simp) rfl fun _ => ?_
    have hbegun : (s.toLane.begun 0x28#8 tag).current = some i := hc
    rw [checked_nil, Lane.startCapture_eq hbegun]
    exact answering_changed rfl _
  · rw [exec_weighCancel hs, doWeighCancel]
    rcases hsome : s.scale.capture with _ | c
    · exact answering_check_fails (by simp [hsome])
    · have hcapture : (s.toLane.begun 0x29#8 tag).scale.capture = some c := hsome
      rw [checked_passes (by simp [hsome])]
      dsimp only
      rw [checked_nil, Lane.endCapture_of_some hcapture]
      exact answering_after_events rfl _
  · rcases hsome : s.scale.capture with _ | c
    · have hstill : s.toLane.captureExpire = s.toLane := by rw [Lane.captureExpire, hsome]
      exact advance_eq hstill
    · have hended : s.toLane.captureExpire =
          (s.toLane.elapseTo c.expiry).endCapture .motionTimeout [.name c.obstacle.code] := by
        rw [Lane.captureExpire, hsome]
      have hpending : (s.toLane.elapseTo c.expiry).scale.capture = some c := hsome
      exact advance_eq (hended.trans (Lane.endCapture_of_some hpending _ _))

end Sys2Proof.Machine
end

section
/-! PROOFS. Calibration mode (R65 to R74). -/

namespace Sys2Proof.Machine

theorem exec_calEnter {s : State} (h : s.takes) (tag : Byte) :
    exec (.calEnter tag) s = s.answering (doCalEnter (s.toLane.begun 0x30#8 tag)) :=
  request_answering (f := ⟨0x30#8, tag, []⟩) h rfl doCalEnter

theorem exec_calExit {s : State} (h : s.takes) (tag : Byte) :
    exec (.calExit tag) s = s.answering (doCalExit (s.toLane.begun 0x31#8 tag)) :=
  request_answering (f := ⟨0x31#8, tag, []⟩) h rfl doCalExit

theorem exec_calZero {s : State} (h : s.takes) (tag : Byte) :
    exec (.calZero tag) s = s.answering (doCalZero (s.toLane.begun 0x32#8 tag)) :=
  request_answering (f := ⟨0x32#8, tag, []⟩) h rfl doCalZero

theorem exec_calSpan {s : State} (h : s.takes) (tag : Byte) (mass : Int) :
    exec (.calSpan tag mass) s = s.answering (doCalSpan mass (s.toLane.begun 0x33#8 tag)) :=
  request_answering (f := (requestFrame (.calSpan tag mass)).getD ⟨0, 0, []⟩) h rfl (doCalSpan mass)

theorem exec_calSet {s : State} (h : s.takes) (tag : Byte) (n w : Nat) (b : Byte) :
    exec (.calSet tag n w b) s = s.answering (doCalSet n w b (s.toLane.begun 0x34#8 tag)) :=
  request_answering (f := (requestFrame (.calSet tag n w b)).getD ⟨0, 0, []⟩) h rfl (doCalSet n w b)

/-- Outside CAL the values in force are those the calibration record left at the last restart (log entry 12). -/
theorem Lane.inForce_of_out {p : Lane} (h : p.store.calState = .out) : p.inForce = p.inForceOutsideCal := by
  have hcal : p.store.inCal = false := (Store.inCal_eq_false_iff _).mpr h
  rw [Lane.inForce, hcal]

theorem Lane.enterCal_eq {p : Lane} (h : p.store.calState = .out) :
    p.enterCal =
      ({ p with
          scale := { p.scale with tare := 0, latch := false }
          store := { p.store with working := some p.inForceOutsideCal, calState := .entered }
          link := p.link.handEvents [eventOf 0x83#8 [.name 0, .name 0]] },
        ok (p.inForceOutsideCal.fields ++ [.u16 p.store.mirror, .flag p.store.counterValid])) := by
  rw [Lane.enterCal, Lane.inForce_of_out h]
  rfl

/-- The checks the calibration requests make first. -/
theorem answering_calChecks {s : State} {code tag : Byte} {act : Lane → Lane × Answer}
    {rest : Host.Outcome State Fault Refusal} (hrest : s.answering (act (s.toLane.begun code tag)) = rest) :
    s.answering (checked (s.toLane.begun code tag).calChecks act (s.toLane.begun code tag)) =
      match s.store.calState with
      | .out => s.says code tag (refusal .notCal)
      | .writing | .leaving => s.says code tag [.status .busy]
      | .entered => rest := by
  rw [Lane.calChecks]
  rcases hstate : s.store.calState
  case out => exact answering_check_fails (decide_eq_true hstate)
  case entered =>
    rw [checked_passes (by simp [hstate]), checked_passes (by simp [hstate])]
    exact hrest
  all_goals
    rw [checked_passes (by simp [hstate])]
    exact answering_check_fails (by simp [hstate])

/-- The unit answers as in motion: the hold, no stability, or no sample taken. -/
theorem Lane.moving_iff (p : Lane) :
    p.moving = true ↔
      p.scale.conditions.hold = true ∨ p.scale.conditions.stable = false ∨ p.scale.chain = none := by
  rcases hchain : p.scale.chain with _ | c
  · simp [Lane.moving_of_none hchain]
  · simp [Lane.moving_of_some hchain]

theorem not_noSaleOpen (p : Lane) : (!p.noSaleOpen) = true ↔ p.current ≠ none := by
  rw [Bool.not_eq_true', ← Bool.not_eq_true, Lane.noSaleOpen_iff]

theorem lengthsOk_iff (n w : Nat) : lengthsOk n w = true ↔ (n = 4 ∨ n = 8 ∨ n = 16) ∧ 4 ≤ w ∧ w ≤ 32 := by
  simp [lengthsOk, or_assoc, and_assoc]

theorem not_gainOk (g : Nat) : (!gainOk g) = true ↔ g < 1 ∨ 4194303 < g := by
  rw [gainOk, Bool.not_eq_true', Bool.and_eq_false_iff, decide_eq_false_iff_not, decide_eq_false_iff_not, not_le, not_le]

/-- CAL_SET's one check passes with N and W in their ranges and a byte that names a setting. -/
theorem calSet_check (n w : Nat) (b : Byte) :
    (!lengthsOk n w || (settingOf b).isNone) = true ↔
      ¬((n = 4 ∨ n = 8 ∨ n = 16) ∧ 4 ≤ w ∧ w ≤ 32 ∧ (b = 0#8 ∨ b = 1#8)) := by
  rw [Bool.or_eq_true, Bool.not_eq_true', ← Bool.not_eq_true, lengthsOk_iff, settingOf_isNone]
  tauto

/-- Settles O39: CAL entered, left and its three requests, each after its checks. -/
theorem calIsEnteredUsedAndLeft : Obligations.CalIsEnteredUsedAndLeft := by
  refine ⟨⟨fun tag s hs => ?_, fun tag s hs => ?_, fun s => ?_, fun s => rfl⟩,
    fun tag b mass n w s hs => ⟨?_, ?_, ?_⟩⟩
  · rw [exec_calEnter hs, doCalEnter]
    refine answering_check (Store.inCal_iff _) rfl fun hcal => ?_
    refine answering_check (by simp) rfl fun _ => ?_
    refine answering_check (not_noSaleOpen _) rfl fun _ => ?_
    have hout : (s.toLane.begun 0x30#8 tag).store.calState = .out := not_not.mp hcal
    rw [checked_nil, Lane.enterCal_eq hout, Lane.inForceOutsideCal_eq]
    exact answering_after_events rfl _
  · rw [exec_calExit hs, doCalExit]
    have hbegun : (s.toLane.begun 0x31#8 tag).store.calState = s.store.calState := rfl
    rw [hbegun]
    rcases s.store.calState
    case out => exact answering_same _ _ _ _
    case entered => rfl
    case writing => exact answering_changed rfl _
    case leaving => exact answering_same _ _ _ _
  · refine Eq.trans (advance_eq (q := s.toLane.switchOpens) rfl) ?_
    rcases hstate : s.store.calState <;> simp [Lane.switchOpens, Lane.withStore, hstate] <;> rfl
  · rw [exec_calZero hs, doCalZero]
    refine answering_calChecks ?_
    refine answering_check (Lane.moving_iff _) rfl fun _ => ?_
    rw [checked_nil, Lane.calibrateZero]
    exact answering_changed rfl _
  · rw [exec_calSpan hs, doCalSpan]
    refine answering_calChecks ?_
    refine answering_check (by simp) rfl fun _ => ?_
    refine answering_check (Lane.moving_iff _) rfl fun _ => ?_
    refine answering_check (by rw [decide_eq_true_iff]; rfl) rfl fun _ => ?_
    refine answering_check (not_gainOk _) rfl fun _ => ?_
    rw [checked_nil, Lane.calibrateSpan]
    exact answering_changed rfl _
  · rw [exec_calSet hs, doCalSet]
    refine answering_calChecks ?_
    refine Eq.trans ?_ (ite_not _ _ _)
    refine answering_check (calSet_check n w b) rfl fun _ => ?_
    exact answering_changed rfl _

end Sys2Proof.Machine
end

section
/-! PROOFS. The commit (R75, R76). -/

namespace Sys2Proof.Machine

theorem exec_calCommit {s : State} (h : s.takes) (tag : Byte) :
    exec (.calCommit tag) s = s.answering (doCalCommit (s.toLane.begun 0x35#8 tag)) :=
  request_answering (f := ⟨0x35#8, tag, []⟩) h rfl doCalCommit

theorem Lane.counterWriteEnd_of_other {p : Lane} (h : ∀ n, p.store.write ≠ some (.calCounter n)) (w : WriteEnd) :
    p.counterWriteEnd w = p := by
  rw [Lane.counterWriteEnd]
  split
  · next n hwrite => exact absurd hwrite (h n)
  · rfl

theorem Lane.recordWriteEnd_of_other {p : Lane} (h : ∀ r, p.store.write ≠ some (.calRecord r)) (w : WriteEnd) :
    p.recordWriteEnd w = p := by
  rw [Lane.recordWriteEnd]
  split
  · next r hwrite => exact absurd hwrite (h r)
  · rfl

theorem Lane.counterWriteEnd_ok {p : Lane} {n : Nat} (h : p.store.write = some (.calCounter n)) :
    p.counterWriteEnd .ok =
      { p with store := { p.store with
          counterRecord := .valid n, mirror := n, counterValid := true
          write := some (.calRecord ⟨p.workingSet, p.store.commitTime⟩) } } := by
  rw [Lane.counterWriteEnd, h]
  rfl

theorem Lane.counterWriteEnd_fail {p : Lane} {n : Nat} (h : p.store.write = some (.calCounter n)) (u : Unreadable) :
    p.counterWriteEnd (.fail u) =
      Lane.endCommit (commitFailed 0)
        { p with store := { p.store with counterRecord := leftAs u, mirror := 9999, counterValid := false } } := by
  rw [Lane.counterWriteEnd, h]
  rfl

theorem Lane.recordWriteEnd_ok {p : Lane} {r : CalRecord} (h : p.store.write = some (.calRecord r)) :
    p.recordWriteEnd .ok = Lane.endCommit commitOk { p with store := { p.store with calRecord := .valid r } } := by
  rw [Lane.recordWriteEnd, h]
  rfl

theorem Lane.recordWriteEnd_fail {p : Lane} {r : CalRecord} (h : p.store.write = some (.calRecord r))
    (u : Unreadable) :
    p.recordWriteEnd (.fail u) =
      Lane.endCommit (commitFailed 1) { p with store := { p.store with calRecord := leftAs u } } := by
  rw [Lane.recordWriteEnd, h]
  rfl

/-- Settles O40: the request, then each end of each of the two writes. -/
theorem commitWritesTheCounterThenTheRecord : Obligations.CommitWritesTheCounterThenTheRecord := by
  unfold Obligations.CommitWritesTheCounterThenTheRecord
  intro left done
  have hdone : ∀ outcome p, done outcome p = Lane.endCommit outcome p := fun _ _ => rfl
  refine ⟨fun tag s hs => ?_, fun n u s hwrite => ⟨?_, ?_⟩, fun r u s hwrite => ⟨?_, ?_⟩,
    fun w s => ⟨fun hno => ?_, fun hno => ?_⟩⟩
  · rw [exec_calCommit hs, doCalCommit]
    refine (answering_calChecks rfl).trans ?_
    rcases s.store.calState
    case out => rfl
    case writing => rfl
    case leaving => rfl
    case entered =>
      refine answering_check (by simp) rfl fun _ => ?_
      rw [checked_nil, Lane.startCommit]
      exact answering_changed rfl _
  · exact advance_eq (Lane.counterWriteEnd_ok hwrite)
  · rw [hdone]
    exact advance_eq (Lane.counterWriteEnd_fail hwrite u)
  · rw [hdone]
    exact advance_eq (Lane.recordWriteEnd_ok hwrite)
  · rw [hdone]
    exact advance_eq (Lane.recordWriteEnd_fail hwrite u)
  · exact advance_eq (Lane.counterWriteEnd_of_other hno w)
  · exact advance_eq (Lane.recordWriteEnd_of_other hno w)

end Sys2Proof.Machine
end

section
/-! PROOFS. The decode channel and a track's decoding (R78 to R84, R92). -/

namespace Sys2Proof.Machine

theorem exec_readerEnable {s : State} (h : s.takes) (tag head b : Byte) :
    exec (.readerEnable tag head b) s = s.answering (doReaderEnable head b (s.toLane.begun 0x38#8 tag)) :=
  request_answering (f := ⟨0x38#8, tag, [head, b]⟩) h rfl (doReaderEnable head b)

/-- A byte above 1 names no head. -/
theorem headOf_eq_none {b : Byte} (h : 1#8 < b) : headOf b = none := by
  have h0 : b ≠ 0#8 := by bv_omega
  have h1 : b ≠ 1#8 := by bv_omega
  rw [headOf, if_neg h0, if_neg h1]

/-- The swipe with a head's enable set. -/
theorem Swipe.setEnable_eq (w : Swipe) (h : Head) (on : Bool) :
    w.setEnable h on =
      if on = false ∧ w.channel = some h then
        { (match h with | .front => { w with front := on } | .stand => { w with stand := on }) with
          channel := none, endExpiry := none, trackA := ⟨false, .sync none []⟩, trackB := ⟨false, .sync none []⟩ }
      else match h with | .front => { w with front := on } | .stand => { w with stand := on } := by
  rcases h
  · rfl
  · rfl

/-- Whom a transition reaches: no disabled head, and only the channel's owner (R79, R80). -/
theorem Swipe.flux_eq (now : Nat) (h : Head) (k : Track) (t : Nat) (w : Swipe) :
    w.flux now h k t =
      if w.enabled h = false then w
      else
        match w.channel with
        | none => { w.emptied with channel := some h }.transition now k t
        | some owner => if owner = h then w.transition now k t else w := by
  rw [Swipe.flux]
  rcases w.enabled h
  · rfl
  · rfl

theorem Lane.flux_eq (h : Head) (k : Track) (t : Nat) (p : Lane) :
    p.flux h k t = { p with now := max p.now t, swipe := p.swipe.flux (max p.now t) h k t } := rfl

/-! ## Decoding (R82 to R84) -/

theorem withinFortyPercent_iff (x y : Nat) :
    withinFortyPercent x y = true ↔ 10 * ((x : Int) - y).natAbs ≤ 4 * y := by
  rw [withinFortyPercent, decide_eq_true_iff]
  omega

theorem joinGroup_eq (group : List Nat) (d : Nat) :
    joinGroup group d =
      if group = [] ∨ 10 * ((d * group.length : Int) - group.sum).natAbs ≤ 4 * group.sum then group ++ [d] else [d] := by
  rcases group with _ | ⟨x, group⟩
  · rfl
  · have hjoins := withinFortyPercent_iff (d * (x :: group).length) (x :: group).sum
    rw [Nat.cast_mul] at hjoins
    rw [joinGroup]
    exact if_congr (hjoins.trans (or_iff_right (List.cons_ne_nil x group)).symm) rfl rfl

theorem syncPhase_eq (t : Nat) (group : List Nat) :
    syncPhase t group =
      if group.length = 8 then
        .cells ((2 * group.sum + group.length) / (2 * group.length)) t false (group.drop 4) (List.replicate 8 false)
      else .sync (some t) group := by
  rw [syncPhase]
  split_ifs with height
  · rw [newestFour, roundHalfUp, height]
  · rfl

theorem midCell_iff (reference d : Nat) : midCell reference d = true ↔ reference ≤ 4 * d ∧ 4 * d ≤ 3 * reference := by
  rw [midCell, Bool.and_eq_true, decide_eq_true_iff, decide_eq_true_iff]

theorem closeCell_eq (reference t : Nat) (mid : Bool) (lengths : List Nat) (bits : List Bool) (d : Nat) :
    closeCell reference t mid lengths bits d =
      if 4 * reference < 10 * ((d : Int) - reference).natAbs then .failed
      else
        .cells ((2 * (newestFour (lengths ++ [d])).sum + 4) / 8) t false (newestFour (lengths ++ [d]))
          (storeBit bits mid) := by
  rw [closeCell, ← ite_not]
  exact if_congr (by rw [withinFortyPercent_iff, not_le]) rfl rfl

/-- Settles O41: the enable, the channel, and one transition in each phase of a track. -/
theorem transitionsAreTakenOnTheOwningHead : Obligations.TransitionsAreTakenOnTheOwningHead := by
  refine ⟨⟨⟨rfl, fun _ => headOf_eq_none⟩, fun tag h b s hs => ?_, fun h k t s => ?_⟩, fun t phase => ?_⟩
  · rw [exec_readerEnable hs, doReaderEnable]
    rcases settingOf_cases b with ⟨hnone, hbad⟩ | ⟨hsome, hgood⟩
    · rw [hnone, decide_eq_true hbad]
      rcases headOf h <;> exact answering_same _ _ _ _
    · rw [hsome, decide_eq_false hgood]
      rcases headOf h with _ | head
      · exact answering_same _ _ _ _
      · dsimp only
        rw [Swipe.setEnable_eq]
        exact answering_changed rfl _
  · refine advance_eq ((Lane.flux_eq h k t s.toLane).trans ?_)
    rw [Swipe.flux_eq]
    rcases k
    · rfl
    · rfl
  · intro mean
    rcases phase with ⟨_ | last, group⟩ | ⟨reference, start, mid, lengths, bits⟩ | _
    · rfl
    · rw [TrackPhase.take, joinGroup_eq]
      exact syncPhase_eq _ _
    · rw [TrackPhase.take, closeCell_eq]
      refine if_congr ?_ rfl rfl
      rw [Bool.and_eq_true, Bool.not_eq_true', midCell_iff]
    · rfl

end Sys2Proof.Machine
end

section
/-! PROOFS. A recorded track read back (R85 to R88). -/

namespace Sys2Proof.Machine

theorem dropWhile_leading_zeros (n : Nat) (bits : List Bool) :
    (List.replicate n false ++ bits).dropWhile not = bits.dropWhile not := by
  induction n with
  | zero => rfl
  | succ n ih => exact ih

/-- The start sentinel's first bit is a 1: the zeros before it are told apart from it. -/
theorem dropWhile_startSentinel (k : Track) (rest : List Bool) :
    (recordedCharacter k (startSentinel k) ++ rest).dropWhile not = recordedCharacter k (startSentinel k) ++ rest := by
  rcases k
  · rfl
  · rfl

/-- The characters of a recorded track from its start sentinel on. -/
def recordedWhole (k : Track) (values : List Nat) : List Nat :=
  startSentinel k :: values ++ [endSentinel k]

/-- What a recorded track holds after its leading zeros. -/
def recordedBody (k : Track) (values : List Nat) (trailing : Nat) : List Bool :=
  (recordedWhole k values ++ [(recordedWhole k values).foldl (fun x y => x ^^^ y) 0]).flatMap (recordedCharacter k) ++
    List.replicate trailing false

theorem recordedTrack_eq (k : Track) (values : List Nat) (leading trailing : Nat) :
    recordedTrack k values leading trailing = List.replicate leading false ++ recordedBody k values trailing :=
  List.append_assoc _ _ _

/-- The start of a recorded track is found at its start sentinel. -/
theorem findStart_recorded (k : Track) (values : List Nat) (leading trailing : Nat) :
    findStart k (recordedTrack k values leading trailing) = some (recordedBody k values trailing) := by
  obtain ⟨rest, hbody⟩ : ∃ rest, recordedBody k values trailing = recordedCharacter k (startSentinel k) ++ rest :=
    ⟨_, List.append_assoc _ _ _⟩
  rw [recordedTrack_eq, findStart]
  rw [dropWhile_leading_zeros, hbody, dropWhile_startSentinel, take_recordedCharacter]
  exact if_pos ⟨length_recordedCharacter k _, characterValue_recordedCharacter k _ (startSentinel_lt k),
    oddParity_recordedCharacter k _ (startSentinel_lt k)⟩

/-- The characters of a recorded track pass every check, in either reading direction. -/
theorem readFrom_recorded {k : Track} {values : List Nat}
    (hvalues : ∀ v ∈ values, v < 2 ^ (characterBits k - 1) ∧ v ≠ endSentinel k)
    (hroom : values.length + 2 ≤ trackCapacity k) (trailing : Nat) (reversed : Bool) :
    readFrom k (recordedBody k values trailing) reversed =
      ⟨.ok, (recordedWhole k values).map (characterOf k), reversed⟩ := by
  have hall : ∀ v ∈ startSentinel k :: values, v < 2 ^ (characterBits k - 1) ∧ v ≠ endSentinel k :=
    List.forall_mem_cons.mpr ⟨⟨startSentinel_lt k, startSentinel_ne k⟩, hvalues⟩
  have hread := readCharacters_recorded k (List.replicate trailing false) (startSentinel k :: values)
    (trackCapacity k) 0 [] hall hroom (Nat.two_pow_pos _)
  rw [readFrom, recordedBody, recordedWhole, hread]
  rfl

/-- Settles O42: forwards the start is found at once; backwards the string as stored has none. -/
theorem recordedTrackReadsBack : Obligations.RecordedTrackReadsBack := by
  intro k values leading trailing hvalues hroom image bits
  have hstart : findStart k bits = some (recordedBody k values trailing) := findStart_recorded k values leading trailing
  refine ⟨?_, fun hbackwards => ?_⟩
  · rw [readBits, hstart]
    exact readFrom_recorded hvalues hroom trailing false
  · rw [readBits, hbackwards, List.reverse_reverse, hstart]
    exact readFrom_recorded hvalues hroom trailing true

end Sys2Proof.Machine
end

section
/-! PROOFS. The end of a swipe and the account data (R81, R84, R89 to R91). -/

namespace Sys2Proof.Machine

/-! ## Account data (R89, R90) -/

theorem isDigit_iff (c : Byte) : isDigit c = true ↔ 0x30 ≤ c.toNat ∧ c.toNat ≤ 0x39 := by
  rw [isDigit, Bool.and_eq_true, decide_eq_true_iff, decide_eq_true_iff]

theorem monthOk_digits (y z m n : Byte) :
    monthOk [y, z, m, n] = true ↔
      1 ≤ 10 * (m.toNat - 0x30) + (n.toNat - 0x30) ∧ 10 * (m.toNat - 0x30) + (n.toNat - 0x30) ≤ 12 := by
  simp only [monthOk, Bool.and_eq_true, decide_eq_true_iff]
  rfl

theorem expiryOf_of_short {t : Text} (h : t.length < 4) : expiryOf t = none := by
  have hfew : ¬(t.take 4).length = 4 := by rw [List.length_take]; omega
  rw [expiryOf]
  exact if_neg fun hall => hfew hall.1

theorem expiryOf_digits (y z m n : Byte) (t : Text) :
    expiryOf (y :: z :: m :: n :: t) =
      if ((0x30 ≤ y.toNat ∧ y.toNat ≤ 0x39) ∧ (0x30 ≤ z.toNat ∧ z.toNat ≤ 0x39) ∧ (0x30 ≤ m.toNat ∧ m.toNat ≤ 0x39) ∧
          (0x30 ≤ n.toNat ∧ n.toNat ≤ 0x39)) ∧
          1 ≤ 10 * (m.toNat - 0x30) + (n.toNat - 0x30) ∧ 10 * (m.toNat - 0x30) + (n.toNat - 0x30) ≤ 12 then
        some [y, z, m, n]
      else none := by
  have htake : (y :: z :: m :: n :: t).take 4 = [y, z, m, n] := rfl
  rw [expiryOf, htake]
  refine if_congr ?_ rfl rfl
  simp only [List.length_cons, List.length_nil, List.all_cons, List.all_nil, Bool.and_eq_true, isDigit_iff,
    monthOk_digits, and_true, true_and]

theorem serviceOf_of_short {t : Text} (h : t.length < 7) : serviceOf t = none := by
  have hfew : ¬((t.drop 4).take 3).length = 3 := by rw [List.length_take, List.length_drop]; omega
  rw [serviceOf]
  exact if_neg fun hall => hfew hall.1

theorem serviceOf_digits (a b c d x y z : Byte) (t : Text) :
    serviceOf (a :: b :: c :: d :: x :: y :: z :: t) =
      if (0x30 ≤ x.toNat ∧ x.toNat ≤ 0x39) ∧ (0x30 ≤ y.toNat ∧ y.toNat ≤ 0x39) ∧ (0x30 ≤ z.toNat ∧ z.toNat ≤ 0x39) then
        some [x, y, z]
      else none := by
  have htake : ((a :: b :: c :: d :: x :: y :: z :: t).drop 4).take 3 = [x, y, z] := rfl
  rw [serviceOf, htake]
  refine if_congr ?_ rfl rfl
  simp only [List.length_cons, List.length_nil, List.all_cons, List.all_nil, Bool.and_eq_true, isDigit_iff,
    and_true, true_and]

theorem holderOf_eq (t : Text) :
    holderOf t =
      if (t.take 26).rdropWhile (fun c => c = 0x20#8) = [] then none
      else some ((t.take 26).rdropWhile fun c => c = 0x20#8) := by
  have hkept : ((t.take 26).reverse.dropWhile fun b => b = 0x20#8).reverse =
      (t.take 26).rdropWhile fun c => c = 0x20#8 := rfl
  rw [holderOf, hkept]
  rcases (t.take 26).rdropWhile fun c => c = 0x20#8 with _ | ⟨c, rest⟩
  · rfl
  · rfl

/-- Only an OK track gives account data. -/
theorem account_of_failed {r : TrackReading} (h : r.result ≠ .ok) : accountA r = none ∧ accountB r = none := by
  have hnone : r.okImage = none := if_neg h
  rw [accountA, accountB, hnone]
  exact ⟨rfl, rfl⟩

/-- An OK track with an image of two sentinels and a text between. -/
def okTrack (x y : Byte) (t : Text) (reversed : Bool) : TrackReading :=
  ⟨.ok, x :: (t ++ [y]), reversed⟩

theorem accountB_okTrack (x y : Byte) (t : Text) (reversed : Bool) :
    accountB (okTrack x y t reversed) =
      if accountFieldOk (beforeSeparator 0x3D#8 t) then
        some ⟨beforeSeparator 0x3D#8 t, (afterSeparator 0x3D#8 t).bind expiryOf, (afterSeparator 0x3D#8 t).bind serviceOf,
          none⟩
      else none := by
  have himage : (okTrack x y t reversed).okImage = some (x :: (t ++ [y])) := rfl
  rw [accountB, himage, Option.bind_some, innerText_sentinels]

theorem accountA_okTrack (x y : Byte) (t : Text) (reversed : Bool) :
    accountA (okTrack x y (0x42#8 :: t) reversed) = (afterSeparator 0x5E#8 t).bind (accountAfterCode t) := by
  have himage : (okTrack x y (0x42#8 :: t) reversed).okImage = some (x :: ((0x42#8 :: t) ++ [y])) := rfl
  rw [accountA, himage, Option.bind_some, innerText_sentinels]
  rfl

/-- A format code other than 'B' makes track A unusable. -/
theorem accountA_of_code {code : Byte} (h : code ≠ 0x42#8) (x y : Byte) (t : Text) (reversed : Bool) :
    accountA (okTrack x y (code :: t) reversed) = none := by
  have himage : (okTrack x y (code :: t) reversed).okImage = some (x :: ((code :: t) ++ [y])) := rfl
  rw [accountA, himage, Option.bind_some, innerText_sentinels]
  split
  · next t' hcode => exact absurd (List.cons.inj hcode).1 h
  · rfl

/-- Track A without a second separator. -/
theorem accountAfterCode_of_none {t rest : Text} (h : afterSeparator 0x5E#8 rest = none) :
    accountAfterCode t rest =
      if accountFieldOk (beforeSeparator 0x5E#8 t) then some ⟨beforeSeparator 0x5E#8 t, none, none, none⟩ else none := by
  rw [accountAfterCode, h]

/-- Track A with a second separator. -/
theorem accountAfterCode_of_some {t rest last : Text} (h : afterSeparator 0x5E#8 rest = some last) :
    accountAfterCode t rest =
      if accountFieldOk (beforeSeparator 0x5E#8 t) then
        some ⟨beforeSeparator 0x5E#8 t, expiryOf last, serviceOf last, holderOf (beforeSeparator 0x5E#8 rest)⟩
      else none := by
  rw [accountAfterCode, h]

/-! ## The end of a swipe (R81, R91) -/

theorem markedResult_eq (r : TrackReading) (d : Option AccountData) :
    markedResult r d = if r.result = .ok ∧ d = none then .format else r.result := by
  rw [markedResult]
  exact if_congr (by rw [Option.isNone_iff_eq_none]) rfl rfl

/-- The number CARD_ERROR shows of a track that is not usable. -/
theorem markedResult_code_of_none (r : TrackReading) :
    (markedResult r none).code = if r.result = .ok then 7 else r.result.code := by
  rw [markedResult_eq]
  by_cases hok : r.result = .ok
  · rw [if_pos ⟨hok, rfl⟩, if_pos hok]
    rfl
  · rw [if_neg fun h => hok h.1, if_neg hok]

theorem Lane.handOver_swipe (h : Head) (a b : TrackReading) (p : Lane) : (p.handOver h a b).swipe = p.swipe := by
  rw [Lane.handOver]
  rcases accountB b with _ | d
  · rcases accountA a with _ | e
    · rfl
    · obtain ⟨-, -, -, hswipe, -⟩ := Lane.takeResult_frame (swipeResult h p.clock .a e e.holder a b) p
      exact hswipe
  · obtain ⟨-, -, -, hswipe, -⟩ :=
      Lane.takeResult_frame (swipeResult h p.clock .b d (holderFor d.account (accountA a)) a b) p
    exact hswipe

/-- A swipe's end with its timer running. -/
theorem Lane.swipeEnd_eq {p : Lane} {h : Head} {t : Nat} (hchannel : p.swipe.channel = some h)
    (hexpiry : p.swipe.endExpiry = some t) :
    p.swipeEnd =
      { (p.elapseTo t).handOver h (p.swipe.trackA.finish .a) (p.swipe.trackB.finish .b) with
        swipe := { p.swipe with
          channel := none, endExpiry := none, trackA := ⟨false, .sync none []⟩, trackB := ⟨false, .sync none []⟩ } } := by
  rw [Lane.swipeEnd, hchannel, hexpiry]
  dsimp only
  rw [Lane.handOver_swipe]
  rfl

/-- With no swipe its end does nothing (log entry 4). -/
theorem Lane.swipeEnd_of_none {p : Lane} (h : p.swipe.channel = none ∨ p.swipe.endExpiry = none) : p.swipeEnd = p := by
  rw [Lane.swipeEnd]
  split
  · next hchannel hexpiry =>
    rcases h with h | h
    · exact absurd (h.symm.trans hchannel) (by simp)
    · exact absurd (h.symm.trans hexpiry) (by simp)
  · rfl

end Sys2Proof.Machine
end

section
/-! PROOFS. The card classifier: a swipe result taken, queued and matched (R94 to R102). -/

namespace Sys2Proof.Machine

/-! ## The deciding entry (R96, R97) -/

theorem mem_sharedIndexes (i : Fin 24) : i ∈ sharedIndexes ↔ i.val < 22 := by
  simp [sharedIndexes, ownsMask]

theorem sharedIndexes_sorted : sharedIndexes.Pairwise (· < ·) :=
  (List.pairwise_lt_finRange 24).filter _

/-- One entry decides over another: more digits compared, or the lower index on equal lengths (R97). -/
def Cards.decidesOver (c : Cards) (i j : Fin 24) : Prop :=
  c.table[j].prefixLength < c.table[i].prefixLength ∨
    (c.table[j].prefixLength = c.table[i].prefixLength ∧ i ≤ j)

/-- Going on from an entry over higher indexes, one is found that decides over all of them. -/
theorem Cards.foldl_better (c : Cards) (l : List (Fin 24)) (b : Fin 24) (hsorted : (b :: l).Pairwise (· < ·)) :
    ∃ i ∈ b :: l, l.foldl c.better (some b) = some i ∧ ∀ j ∈ b :: l, c.decidesOver i j := by
  induction l generalizing b with
  | nil => exact ⟨b, List.mem_singleton_self b, rfl, by simp [Cards.decidesOver]⟩
  | cons x l ih =>
    obtain ⟨hb, hx⟩ := List.pairwise_cons.mp hsorted
    have hbx : b < x := hb x (List.mem_cons_self ..)
    by_cases hlonger : c.table[b].prefixLength < c.table[x].prefixLength
    · have hstep : c.better (some b) x = some x := if_pos hlonger
      obtain ⟨i, hi, hfound, hover⟩ := ih x hx
      have hoverx := hover x (List.mem_cons_self ..)
      refine ⟨i, List.mem_cons_of_mem _ hi, by rw [List.foldl_cons, hstep, hfound], List.forall_mem_cons.mpr ⟨?_, hover⟩⟩
      unfold Cards.decidesOver at hoverx ⊢
      omega
    · have hstep : c.better (some b) x = some b := if_neg hlonger
      have hrest : (b :: l).Pairwise (· < ·) :=
        List.pairwise_cons.mpr ⟨fun j hj => hb j (List.mem_cons_of_mem _ hj), (List.pairwise_cons.mp hx).2⟩
      obtain ⟨i, hi, hfound, hover⟩ := ih b hrest
      obtain ⟨hoverb, hoverl⟩ := List.forall_mem_cons.mp hover
      refine ⟨i, ?_, by rw [List.foldl_cons, hstep, hfound], List.forall_mem_cons.mpr ⟨hoverb, List.forall_mem_cons.mpr ⟨?_, hoverl⟩⟩⟩
      · rcases List.mem_cons.mp hi with hib | hil
        · exact hib ▸ List.mem_cons_self ..
        · exact List.mem_cons_of_mem _ (List.mem_cons_of_mem _ hil)
      · unfold Cards.decidesOver at hoverb ⊢
        omega

/-- The shared entries that match, in order of their indexes. -/
def Cards.sharedMatches (c : Cards) (account : Text) : List (Fin 24) :=
  sharedIndexes.filter (c.matchesAt account)

theorem Cards.mem_sharedMatches (c : Cards) (account : Text) (i : Fin 24) :
    i ∈ c.sharedMatches account ↔ i.val < 22 ∧ c.matchesAt account i = true := by
  rw [Cards.sharedMatches, List.mem_filter, mem_sharedIndexes]

/-- Either no shared entry matches, or the one found decides over all that do. -/
theorem Cards.shared_cases (c : Cards) (account : Text) :
    ((c.sharedMatches account).foldl c.better none = none ∧ c.sharedMatches account = []) ∨
      ∃ i ∈ c.sharedMatches account, (c.sharedMatches account).foldl c.better none = some i ∧
        ∀ j ∈ c.sharedMatches account, c.decidesOver i j := by
  have hsorted : (c.sharedMatches account).Pairwise (· < ·) := sharedIndexes_sorted.filter _
  rcases hlist : c.sharedMatches account with _ | ⟨b, l⟩
  · exact .inl ⟨rfl, rfl⟩
  · rw [hlist] at hsorted
    exact .inr (c.foldl_better l b hsorted)

theorem Cards.deciding_eq (c : Cards) (account : Text) :
    c.deciding account =
      if c.matchesAt account 22 = true then some 22
      else if c.matchesAt account 23 = true then some 23
      else (c.sharedMatches account).foldl c.better none := rfl

/-- The deciding entry matches, after 22 and 23, and decides over every other shared one. -/
theorem Cards.deciding_some {c : Cards} {account : Text} {i : Fin 24} (h : c.deciding account = some i) :
    c.matchesAt account i = true ∧ (i ≠ 22 → ¬c.matchesAt account 22 = true) ∧
      (i ≠ 22 → i ≠ 23 → ¬c.matchesAt account 23 = true) ∧
      ∀ j : Fin 24, j.val < 22 → i.val < 22 → c.matchesAt account j = true → c.decidesOver i j := by
  rw [Cards.deciding_eq] at h
  split_ifs at h with h22 h23
  · obtain rfl := Option.some.inj h
    exact ⟨h22, fun hne => absurd rfl hne, fun hne => absurd rfl hne, fun j _ hi => absurd hi (by decide)⟩
  · obtain rfl := Option.some.inj h
    exact ⟨h23, fun _ => h22, fun _ hne => absurd rfl hne, fun j _ hi => absurd hi (by decide)⟩
  · rcases c.shared_cases account with ⟨hnone, -⟩ | ⟨i', hi', hsome, hover⟩
    · exact absurd (h.symm.trans hnone) (by simp)
    · obtain rfl : i' = i := Option.some.inj (hsome.symm.trans h)
      obtain ⟨-, hmatch⟩ := (c.mem_sharedMatches account i').mp hi'
      exact ⟨hmatch, fun _ => h22, fun _ _ => h23,
        fun j hj _ hjmatch => hover j ((c.mem_sharedMatches account j).mpr ⟨hj, hjmatch⟩)⟩

theorem Cards.deciding_eq_none_iff (c : Cards) (account : Text) :
    c.deciding account = none ↔ ∀ i, ¬c.matchesAt account i = true := by
  constructor
  · intro h i hi
    rw [Cards.deciding_eq] at h
    split_ifs at h with h22 h23
    rcases c.shared_cases account with ⟨-, hempty⟩ | ⟨i', -, hsome, -⟩
    · have hbelow : i.val < 22 := by
        have h1 : i ≠ 22 := fun heq => h22 (heq ▸ hi)
        have h2 : i ≠ 23 := fun heq => h23 (heq ▸ hi)
        omega
      have hmem := (c.mem_sharedMatches account i).mpr ⟨hbelow, hi⟩
      rw [hempty] at hmem
      exact absurd hmem List.not_mem_nil
    · exact absurd (hsome.symm.trans h) (by simp)
  · intro h
    rcases hfound : c.deciding account with _ | i
    · rfl
    · exact absurd (Cards.deciding_some hfound).1 (h i)

/-! ## A swipe result taken and queued (R94, R98 to R102) -/

theorem luhnSum_eq (account : Text) :
    luhnSum account = ((account.reverse.zipIdx 1).map fun x => luhnValue x.1 x.2).sum :=
  luhnFrom_eq account.reverse 1

theorem not_accountLengthOk (account : Text) :
    (!accountLengthOk account) = true ↔ account.length < 12 ∨ 19 < account.length := by
  rw [accountLengthOk, Bool.not_eq_true', Bool.and_eq_false_iff, decide_eq_false_iff_not, decide_eq_false_iff_not,
    not_le, not_le]

/-- The next handle, one in use passed over once (log entry 33). -/
theorem Cards.nextHandle_eq (c : Cards) :
    c.nextHandle =
      if ∃ e ∈ c.queue, e.handle = (if 255 ≤ c.handleCounter then 1 else c.handleCounter + 1) then
        if 255 ≤ (if 255 ≤ c.handleCounter then 1 else c.handleCounter + 1) then 1
        else (if 255 ≤ c.handleCounter then 1 else c.handleCounter + 1) + 1
      else if 255 ≤ c.handleCounter then 1 else c.handleCounter + 1 := by
  rw [Cards.nextHandle]
  refine if_congr ?_ rfl rfl
  simp [CardEntry.named]

end Sys2Proof.Machine
end

section
/-! PROOFS. SWIPE_END and the classifier (R81, R89 to R102). -/

namespace Sys2Proof.Machine

/-- What a swipe's end hands over, by the account data of its tracks (R91). -/
theorem Lane.handOver_eq (h : Head) (a b : TrackReading) (p : Lane) :
    p.handOver h a b =
      match accountB b, accountA a with
      | some d, some e =>
        p.takeResult (swipeResult h p.clock .b d (if e.account = d.account then e.holder else none) a b)
      | some d, none => p.takeResult (swipeResult h p.clock .b d none a b)
      | none, some e => p.takeResult (swipeResult h p.clock .a e e.holder a b)
      | none, none => p.cardErrorEvent h a b := by
  rw [Lane.handOver]
  rcases accountB b <;> rcases accountA a <;> rfl

/-- The fields of CARD_ERROR: both tracks are not usable. -/
theorem Lane.cardErrorEvent_eq {a b : TrackReading} (ha : accountA a = none) (hb : accountB b = none) (h : Head)
    (p : Lane) :
    p.cardErrorEvent h a b =
      { p with link := p.link.saying 0x85#8 ([Field.name (headCode h)] ++ stampField p.clock ++
          [Field.name (if a.result = .ok then 7 else a.result.code), Field.name (if b.result = .ok then 7 else b.result.code)] ++
          reversedField a ++ reversedField b) } := by
  rw [Lane.cardErrorEvent, ha, hb, markedResult_code_of_none, markedResult_code_of_none]
  rfl

/-- The account data of an OK track, by its separators. -/
theorem accountB_of_plain {account : Text} (h : 0x3D#8 ∉ account) (x y : Byte) (reversed : Bool) :
    accountB (okTrack x y account reversed) =
      if account ≠ [] ∧ ∀ c ∈ account, 0x30 ≤ c.toNat ∧ c.toNat ≤ 0x39 then some ⟨account, none, none, none⟩ else none := by
  rw [accountB_okTrack, beforeSeparator_absent _ _ h, afterSeparator_absent _ _ h]
  exact if_congr (accountFieldOk_iff account) rfl rfl

theorem accountB_of_separated {account : Text} (h : 0x3D#8 ∉ account) (x y : Byte) (rest : Text) (reversed : Bool) :
    accountB (okTrack x y (account ++ 0x3D#8 :: rest) reversed) =
      if account ≠ [] ∧ ∀ c ∈ account, 0x30 ≤ c.toNat ∧ c.toNat ≤ 0x39 then
        some ⟨account, expiryOf rest, serviceOf rest, none⟩
      else none := by
  rw [accountB_okTrack, beforeSeparator_append _ _ _ h, afterSeparator_append _ _ _ h]
  exact if_congr (accountFieldOk_iff account) rfl rfl

theorem accountA_of_plain {account : Text} (h : 0x5E#8 ∉ account) (x y : Byte) (reversed : Bool) :
    accountA (okTrack x y (0x42#8 :: account) reversed) = none := by
  rw [accountA_okTrack, afterSeparator_absent _ _ h]
  exact Option.bind_none _

theorem accountA_of_separated {account holder : Text} (h : 0x5E#8 ∉ account) (hholder : 0x5E#8 ∉ holder) (x y : Byte)
    (reversed : Bool) :
    accountA (okTrack x y (0x42#8 :: (account ++ 0x5E#8 :: holder)) reversed) =
      if account ≠ [] ∧ ∀ c ∈ account, 0x30 ≤ c.toNat ∧ c.toNat ≤ 0x39 then some ⟨account, none, none, none⟩ else none := by
  rw [accountA_okTrack, afterSeparator_append _ _ _ h, Option.bind_some,
    accountAfterCode_of_none (afterSeparator_absent _ _ hholder), beforeSeparator_append _ _ _ h]
  exact if_congr (accountFieldOk_iff account) rfl rfl

theorem accountA_of_full {account holder : Text} (h : 0x5E#8 ∉ account) (hholder : 0x5E#8 ∉ holder) (x y : Byte)
    (rest : Text) (reversed : Bool) :
    accountA (okTrack x y (0x42#8 :: (account ++ 0x5E#8 :: (holder ++ 0x5E#8 :: rest))) reversed) =
      if account ≠ [] ∧ ∀ c ∈ account, 0x30 ≤ c.toNat ∧ c.toNat ≤ 0x39 then
        some ⟨account, expiryOf rest, serviceOf rest, holderOf holder⟩
      else none := by
  rw [accountA_okTrack, afterSeparator_append _ _ _ h, Option.bind_some,
    accountAfterCode_of_some (afterSeparator_append _ _ _ hholder), beforeSeparator_append _ _ _ h,
    beforeSeparator_append _ _ _ hholder]
  exact if_congr (accountFieldOk_iff account) rfl rfl

theorem Lane.takeLoyalty_eq (r : SwipeResult) (i : Fin 24) (p : Lane) :
    p.takeLoyalty r i =
      match p.current with
      | none => p.queueCard r i .loyalty
      | some j =>
        match (p.ctx j).loyalty with
        | none =>
          { p with
            sale := { p.sale with contexts := p.sale.contexts.set j { p.ctx j with loyalty := some r.account } }
            link := p.link.saying 0x89#8
              [.u16 ((p.ctx j).txn.getD 0), .text (maskedAccount r.account), .name (headCode r.head)] }
        | some _ =>
          { p with link := p.link.saying 0x8A#8 [.u16 ((p.ctx j).txn.getD 0), .text (maskedAccount r.account)] } := rfl

/-- Settles O43: the swipe's end and its account data, the number's checks, and the classifier. -/
theorem swipeEndClassifiesTheResult : Obligations.SwipeEndClassifiesTheResult := by
  refine ⟨⟨fun h t s hchannel hexpiry => ?_, fun s hnone => advance_eq (Lane.swipeEnd_of_none hnone),
    fun k phase => ⟨rfl, rfl, fun _ _ => rfl, fun _ _ _ _ _ => rfl⟩, fun r => account_of_failed, ?_⟩,
    fun account => ⟨luhnSum_eq account, fun hlen => ⟨length_maskedAccount account hlen, getElem_maskedAccount account hlen⟩⟩,
    fun r p => ?_, fun r i k p => ?_, fun account c => ?_⟩
  · intro a b imageOf p released marked result shown reversed
    refine (advance_eq (Lane.swipeEnd_eq hchannel hexpiry)).trans ?_
    refine congrArg (fun q : Lane => s.becomes { q with swipe := released }) ?_
    refine (Lane.handOver_eq h a b p).trans ?_
    have hfromB : ∀ d holder, swipeResult h p.clock .b d holder a b = result b .b d holder := by
      intro d holder
      rw [swipeResult, markedResult_eq, markedResult_eq]
      rfl
    have hfromA : ∀ d holder, swipeResult h p.clock .a d holder a b = result a .a d holder := by
      intro d holder
      rw [swipeResult, markedResult_eq, markedResult_eq]
      rfl
    rcases hb : accountB b with _ | d
    · rcases ha : accountA a with _ | e
      · exact Lane.cardErrorEvent_eq ha hb h p
      · exact congrArg p.takeResult (hfromA e e.holder)
    · rcases accountA a with _ | e
      · exact congrArg p.takeResult (hfromB d none)
      · exact congrArg p.takeResult (hfromB d _)
  · intro digit value expiry service name x y account holder rest reversed image usable
    have hexpiry : expiryOf rest = expiry rest := by
      rcases rest with _ | ⟨_, _ | ⟨_, _ | ⟨_, _ | ⟨_, _⟩⟩⟩⟩
      case cons.cons.cons.cons => exact expiryOf_digits _ _ _ _ _
      all_goals exact expiryOf_of_short (by simp)
    have hservice : serviceOf rest = service rest := by
      rcases rest with _ | ⟨_, _ | ⟨_, _ | ⟨_, _ | ⟨_, _ | ⟨_, _ | ⟨_, _ | ⟨_, _⟩⟩⟩⟩⟩⟩⟩
      case cons.cons.cons.cons.cons.cons.cons => exact serviceOf_digits _ _ _ _ _ _ _ _
      all_goals exact serviceOf_of_short (by simp)
    have hname : holderOf holder = name holder := holderOf_eq holder
    rw [← hexpiry, ← hservice, ← hname]
    exact ⟨fun hno => ⟨accountB_of_plain hno x y reversed, accountB_of_separated hno x y rest reversed⟩,
      fun hno => ⟨accountA_of_plain hno x y reversed, fun hholder =>
        ⟨accountA_of_separated hno hholder x y reversed, accountA_of_full hno hholder x y rest reversed⟩⟩,
      fun code hcode => accountA_of_code hcode x y rest reversed, rfl⟩
  · intro n masked dropped tell
    rw [Lane.takeResult]
    refine if_congr (not_accountLengthOk _) rfl (if_congr Iff.rfl rfl ?_)
    rcases p.cards.deciding r.account with _ | i
    · rfl
    · dsimp only
      rcases p.cards.table[i].cls with _ | _ | _ | _ | _ | _
      · rfl
      · rfl
      · rfl
      · rfl
      · rfl
      · rfl
  · intro q masked next first handle e
    have hhandle : p.cards.nextHandle = handle := Cards.nextHandle_eq p.cards
    rw [Lane.queueCard]
    refine if_congr Iff.rfl rfl ?_
    rw [Lane.entryFor, hhandle]
    rfl
  · intro hit size
    have hhit : ∀ i, c.matchesAt account i = true ↔ hit i := fun i => c.matchesAt_iff account i
    refine ⟨fun i hfound => ?_, ?_⟩
    · obtain ⟨hmatch, h22, h23, hover⟩ := Cards.deciding_some hfound
      exact ⟨(hhit i).mp hmatch, fun hne h => h22 hne ((hhit 22).mpr h), fun hne hne' h => h23 hne hne' ((hhit 23).mpr h),
        fun j hj hi h => hover j hj hi ((hhit j).mpr h)⟩
    · rw [Cards.deciding_eq_none_iff]
      exact forall_congr' fun i => (hhit i).not

end Sys2Proof.Machine
end

section
/-! PROOFS. Kicks (R134, R140). -/

namespace Sys2Proof.Machine

/-- A byte above 1 names no drawer. -/
theorem drawerOf_eq_none {b : Byte} (h : 1#8 < b) : drawerOf b = none := by
  have h0 : b ≠ 0#8 := by bv_omega
  have h1 : b ≠ 1#8 := by bv_omega
  rw [drawerOf, if_neg h0, if_neg h1]

/-- A kick asked of a drawer, before the driver is looked at. -/
def Lane.asking (basis : KickBasis) (who : Requester) (d : Drawer) (p : Lane) : Lane :=
  p.setDrawer d { p.drawer d with kick := some ⟨basis, who, p.till.pulseMs, false⟩ }

theorem Lane.drawer_asking (basis : KickBasis) (who : Requester) (d : Drawer) (p : Lane) :
    (p.asking basis who d).drawer d = { p.drawer d with kick := some ⟨basis, who, p.till.pulseMs, false⟩ } :=
  Lane.drawer_setDrawer _ _ _

theorem Lane.asking_driver (basis : KickBasis) (who : Requester) (d : Drawer) (p : Lane) :
    (p.asking basis who d).till.driver = p.till.driver := by
  obtain ⟨hdriver, -⟩ := Lane.setDrawer_keeps d { p.drawer d with kick := some ⟨basis, who, p.till.pulseMs, false⟩ } p
  exact hdriver

/-- With the driver IDLE the pulse starts. -/
theorem Lane.acceptKick_of_idle {p : Lane} (h : p.till.driver = none) (basis : KickBasis) (who : Requester)
    (d : Drawer) :
    p.acceptKick basis who d =
      { p.asking basis who d with till := { (p.asking basis who d).till with
          driver := some ⟨d, p.now⟩, waiting := none } }.setDrawer d
        { (p.asking basis who d).drawer d with state := .kicking } := by
  have hidle : (p.asking basis who d).till.driver = none := (p.asking_driver basis who d).trans h
  have hstart : p.acceptKick basis who d = (p.asking basis who d).startPulse d := by
    rw [Lane.asking] at hidle
    rw [Lane.acceptKick, Lane.onDrawer, hidle]
    rfl
  have hread : ((p.asking basis who d).setDriver (some ⟨d, p.now⟩) none).drawer d = (p.asking basis who d).drawer d := rfl
  have hnow : (p.asking basis who d).now = p.now := rfl
  rw [hstart, Lane.startPulse, Lane.onDrawer, hnow, hread, Lane.drawer_asking]
  rfl

/-- With the driver driving another drawer the kick waits. -/
theorem Lane.acceptKick_of_driving {p : Lane} {g : Driving} (h : p.till.driver = some g) (basis : KickBasis)
    (who : Requester) (d : Drawer) :
    p.acceptKick basis who d =
      { p.asking basis who d with till := { (p.asking basis who d).till with
          driver := some g, waiting := some d } }.setDrawer d
        { (p.asking basis who d).drawer d with state := .pending } := by
  have hdriving : (p.asking basis who d).till.driver = some g := (p.asking_driver basis who d).trans h
  rw [Lane.asking] at hdriving
  rw [Lane.acceptKick, Lane.onDrawer, hdriving]
  rfl

/-- The state an accepted kick leaves its drawer in. -/
theorem Lane.acceptKick_state (basis : KickBasis) (who : Requester) (d : Drawer) (p : Lane) :
    ((p.acceptKick basis who d).drawer d).state.code = if p.till.driver = none then 3 else 2 := by
  rcases hdriver : p.till.driver with _ | g
  · rw [Lane.acceptKick_of_idle hdriver, Lane.drawer_setDrawer]
    rfl
  · rw [Lane.acceptKick_of_driving hdriver, Lane.drawer_setDrawer]
    rfl

theorem exec_drawerOpen {s : State} (h : s.takes) (tag b : Byte) :
    exec (.drawerOpen tag b) s = s.answering (doDrawerOpen b (s.toLane.begun 0x50#8 tag)) :=
  request_answering (f := ⟨0x50#8, tag, [b]⟩) h rfl (doDrawerOpen b)

theorem exec_noSale {s : State} (h : s.takes) (tag b : Byte) :
    exec (.noSale tag b) s = s.answering (doNoSale b (s.toLane.begun 0x51#8 tag)) :=
  request_answering (f := ⟨0x51#8, tag, [b]⟩) h rfl (doNoSale b)

/-- The checks of the drawer's state that DRAWER_OPEN and NO_SALE share. -/
theorem answering_kickChecks {s : State} {code tag : Byte} {d : Drawer} {act : Lane → Lane × Answer}
    {rest : Host.Outcome State Fault Refusal} (hrest : s.answering (act (s.toLane.begun code tag)) = rest) :
    s.answering (checked ((s.toLane.begun code tag).kickChecks d) act (s.toLane.begun code tag)) =
      match (s.toLane.drawer d).state with
      | .absent => s.says code tag (refusal .absent)
      | .fault => s.says code tag (refusal .fault)
      | .pending | .kicking | .confirming | .opened | .openLong => s.says code tag [.status .busy]
      | .closed => rest := by
  have hdrawer : (s.toLane.begun code tag).drawer d = s.toLane.drawer d := rfl
  rw [Lane.kickChecks, hdrawer]
  rcases (s.toLane.drawer d).state
  case absent => exact answering_check_fails rfl
  case fault =>
    rw [checked_passes (by decide)]
    exact answering_check_fails rfl
  case closed => exact hrest
  all_goals
    rw [checked_passes (by decide), checked_passes (by decide)]
    exact answering_check_fails rfl

/-- Settles O44: the kick accepted, the two requests that ask for one, and auto-open. -/
theorem kicksStartOrWait : Obligations.KicksStartOrWait := by
  refine ⟨fun basis who d p => ?_, ⟨rfl, fun b => drawerOf_eq_none⟩, fun tag b s hs => ⟨?_, ?_⟩, fun d p => ?_⟩
  · rcases hdriver : p.till.driver with _ | g
    · exact Lane.acceptKick_of_idle hdriver basis who d
    · exact Lane.acceptKick_of_driving hdriver basis who d
  · rw [exec_drawerOpen hs, doDrawerOpen]
    rcases drawerOf b with _ | d
    · exact answering_same _ _ _ _
    · refine answering_check (Till.locked_iff _) rfl fun _ => ?_
      refine answering_kickChecks ?_
      refine answering_check (by rw [Bool.not_eq_true']; rfl) rfl fun _ => ?_
      have hcode := Lane.acceptKick_state .grant .terminal d (s.toLane.begun 0x50#8 tag)
      rw [checked_nil]
      dsimp only
      rw [hcode]
      rfl
  · rw [exec_noSale hs, doNoSale]
    rcases drawerOf b with _ | d
    · exact answering_same _ _ _ _
    · refine answering_check (by simp [Till.manager]) rfl fun _ => ?_
      refine answering_check (not_noSaleOpen _) rfl fun _ => ?_
      rw [checked_nil]
      exact answering_kickChecks rfl
  · rw [Lane.autoKick]
    exact if_congr (Till.locked_iff _) rfl rfl

end Sys2Proof.Machine
end

section
/-! PROOFS. How a kick ends, and the drawer's timers (R135 to R138, R141). -/

namespace Sys2Proof.Machine

/-! ## The drawer's transitions -/

/-- The grant once a kick has ended OPENED (R132). -/
def Kick.grantAfter (k : Kick) (grant : Bool) : Bool :=
  match k.basis with
  | .grant => false
  | .noSale => grant

theorem DrawerRecord.consumeGrant_some (k : Kick) (r : DrawerRecord) :
    r.consumeGrant (some k) = { r with grant := k.grantAfter r.grant } := by
  rcases k with ⟨_ | _, who, ms, mark⟩
  · rfl
  · rfl

theorem Lane.enterOpen_eq (d : Drawer) (p : Lane) :
    p.enterOpen d =
      p.setDrawer d { p.drawer d with
        state := .opened, kick := none, confirmUntil := none, openSince := some p.now
        alarmAt := if p.till.alarmSeconds = 0 then none else some (p.now + p.till.alarmSeconds * 1000000) } := rfl

theorem Lane.setDrawer_alarmSeconds (d : Drawer) (r : DrawerRecord) (p : Lane) :
    (p.setDrawer d r).till.alarmSeconds = p.till.alarmSeconds := by
  obtain ⟨-, -, halarm, -⟩ := Lane.setDrawer_keeps d r p
  exact halarm

theorem Lane.drawer_event (c : Byte) (fields : List Field) (d : Drawer) (p : Lane) :
    (p.event c fields).drawer d = p.drawer d := rfl

/-- A kick that ends OPENED: the grant of a GRANT kick spent, the drawer OPEN, DRAWER_DONE (R137). -/
theorem Lane.kickOpened_eq {d : Drawer} {k : Kick} {p : Lane} (h : (p.drawer d).kick = some k) :
    p.kickOpened d =
      ((p.setDrawer d { p.drawer d with grant := k.grantAfter (p.drawer d).grant }).enterOpen d).event 0x92#8
        (kickReport d k .opened (k.grantAfter (p.drawer d).grant) (p.drawer d).drive []) := by
  rw [Lane.kickOpened, h, Lane.onDrawer, DrawerRecord.consumeGrant_some]
  refine (Lane.drawerDone_eq d k .opened true _ (by decide)).trans ?_
  rw [Lane.enterOpen_eq, Lane.drawer_setDrawer, Lane.drawer_setDrawer]
  rfl

/-- A drawer closed as soon as it has opened was open for no whole second. -/
theorem Lane.closeDrawer_at_once {d : Drawer} {p : Lane} (h : (p.drawer d).openSince = some p.now) :
    p.closeDrawer d = (p.setDrawer d ((p.drawer d).leaveTo .closed)).event 0x95#8 [.name (drawerCode d), .u32 0] := by
  have hseconds : (p.drawer d).secondsOpen p.now = 0 := by
    rw [DrawerRecord.secondsOpen, h]
    dsimp only
    rw [Nat.sub_self]
    rfl
  rw [Lane.closeDrawer, hseconds]
  rfl

theorem DrawerRecord.pulse_of_kick {r : DrawerRecord} {k : Kick} (h : r.kick = some k) : r.pulse = k.pulseMs := by
  rw [DrawerRecord.pulse, h]

/-! ## The driver released (R133) -/

theorem Lane.startPulse_eq (d : Drawer) (p : Lane) :
    p.startPulse d =
      { p with till := { p.till with driver := some ⟨d, p.now⟩, waiting := none } }.setDrawer d
        { p.drawer d with
          state := .kicking, kick := (p.drawer d).kick.map fun (k : Kick) => ⟨k.basis, k.requester, k.pulseMs, false⟩ } := rfl

theorem Lane.releaseSolenoid_eq (p : Lane) :
    p.releaseSolenoid = match p.till.waiting with
      | some w => p.joltHold.startPulse w
      | none => p.joltHold.setDriver none none := rfl

/-- A pulse's drive report written and the driver released: the drawer keeps the report. -/
theorem Lane.drawer_released {p : Lane} {d : Drawer} (hwait : p.till.waiting ≠ some d) (r : DrawerRecord) :
    (p.setDrawer d r).releaseSolenoid.drawer d = r := by
  obtain ⟨-, hwaiting, -⟩ := Lane.setDrawer_keeps d r p
  have hstill : (p.setDrawer d r).till.waiting ≠ some d := hwaiting.trans_ne hwait
  rw [Lane.drawer_releaseSolenoid _ _ hstill, Lane.drawer_setDrawer]

theorem Lane.released_now (d : Drawer) (r : DrawerRecord) (p : Lane) :
    (p.setDrawer d r).releaseSolenoid.now = p.now :=
  (Lane.releaseSolenoid_keeps _).1

theorem Lane.released_alarmSeconds (d : Drawer) (r : DrawerRecord) (p : Lane) :
    (p.setDrawer d r).releaseSolenoid.till.alarmSeconds = p.till.alarmSeconds :=
  (Lane.releaseSolenoid_keeps _).2.trans (Lane.setDrawer_alarmSeconds d r p)

/-! ## The pulse's end (R135) -/

/-- A pulse at its full length, its report NORMAL and the driver released. -/
def Lane.pulsed (d : Drawer) (k : Kick) (p : Lane) : Lane :=
  (p.setDrawer d { p.drawer d with drive := some ⟨k.pulseMs, k.pulseMs, .normal⟩ }).releaseSolenoid

theorem Lane.writeDrive_normal {p : Lane} {d : Drawer} {k : Kick} (hkick : (p.drawer d).kick = some k) (since : Nat) :
    p.writeDrive ⟨d, since⟩ .normal =
      p.setDrawer d { p.drawer d with drive := some ⟨k.pulseMs, k.pulseMs, .normal⟩ } := by
  rw [Lane.writeDrive, Lane.onDrawer]
  dsimp only
  rw [DrawerRecord.pulse_of_kick hkick]
  rfl

/-- The lane at a pulse's end, the driver released. -/
def Lane.pulseDone (d : Drawer) (since : Nat) (k : Kick) (p : Lane) : Lane :=
  (p.elapseTo (since + k.pulseMs * 1000)).pulsed d k

theorem Lane.drawer_pulseDone {p : Lane} {d : Drawer} (hwait : p.till.waiting ≠ some d) (since : Nat) (k : Kick) :
    (p.pulseDone d since k).drawer d = { p.drawer d with drive := some ⟨k.pulseMs, k.pulseMs, .normal⟩ } :=
  Lane.drawer_released (p := p.elapseTo (since + k.pulseMs * 1000)) hwait _

theorem Lane.pulseDone_now (d : Drawer) (since : Nat) (k : Kick) (p : Lane) :
    (p.pulseDone d since k).now = max p.now (since + k.pulseMs * 1000) :=
  Lane.released_now _ _ _

theorem Lane.pulseDone_alarmSeconds (d : Drawer) (since : Nat) (k : Kick) (p : Lane) :
    (p.pulseDone d since k).till.alarmSeconds = p.till.alarmSeconds :=
  Lane.released_alarmSeconds _ _ _

theorem Lane.pulseEnd_eq {p : Lane} {d : Drawer} {since : Nat} {k : Kick} (hdriver : p.till.driver = some ⟨d, since⟩)
    (hkick : (p.drawer d).kick = some k) :
    p.pulseEnd =
      if k.openMark = true then
        if (((p.pulseDone d since k).kickOpened d).drawer d).closed = .shut then
          ((p.pulseDone d since k).kickOpened d).closeDrawer d
        else (p.pulseDone d since k).kickOpened d
      else
        (p.pulseDone d since k).setDrawer d { (p.pulseDone d since k).drawer d with
          state := .confirming, confirmUntil := some ((p.pulseDone d since k).now + 500000) } := by
  have hkicking : ((p.elapseTo (since + k.pulseMs * 1000)).drawer d).kick = some k := hkick
  rw [Lane.pulseEnd, hdriver]
  dsimp only
  rw [DrawerRecord.pulse_of_kick hkick, hkicking, Lane.writeDrive_normal hkicking]
  exact if_congr (by simp) rfl rfl

/-- The drawer after a kick that ended OPENED. -/
theorem Lane.drawer_kickOpened {d : Drawer} {k : Kick} {p : Lane} (h : (p.drawer d).kick = some k) :
    (p.kickOpened d).drawer d =
      { p.drawer d with
        state := .opened, kick := none, confirmUntil := none, openSince := some p.now
        alarmAt := if p.till.alarmSeconds = 0 then none else some (p.now + p.till.alarmSeconds * 1000000)
        grant := k.grantAfter (p.drawer d).grant } := by
  rw [Lane.kickOpened_eq h, Lane.drawer_event, Lane.enterOpen_eq, Lane.drawer_setDrawer, Lane.drawer_setDrawer,
    Lane.setDrawer_alarmSeconds]
  rfl

/-! ## A current fault (R138) -/

/-- A current fault's drive report, and the driver released. -/
def Lane.faulted (f : CurrentFault) (d : Drawer) (since : Nat) (k : Kick) (p : Lane) : Lane :=
  ((p.elapseTo (faultMoment f since)).setDrawer d { p.drawer d with
    drive := some ⟨k.pulseMs, min k.pulseMs ((max p.now (faultMoment f since) - since) / 1000), faultCurrent f⟩ }).releaseSolenoid

theorem Lane.currentFault_eq {p : Lane} {d : Drawer} {since : Nat} {k : Kick} (f : CurrentFault)
    (hdriver : p.till.driver = some ⟨d, since⟩) (hkick : (p.drawer d).kick = some k) (hwait : p.till.waiting ≠ some d) :
    p.currentFault f =
      ((p.faulted f d since k).setDrawer d { (p.faulted f d since k).drawer d with
        state := .fault, kick := none, confirmUntil := none, openSince := none, alarmAt := none
        faultReason := some (faultReasonOf f) }).event 0x92#8
      (kickReport d k .fault ((p.faulted f d since k).drawer d).grant
        (some ⟨k.pulseMs, min k.pulseMs ((max p.now (faultMoment f since) - since) / 1000), faultCurrent f⟩)
        [.name (faultReasonOf f).code]) := by
  have hkicking : ((p.elapseTo (faultMoment f since)).drawer d).kick = some k := hkick
  have hwritten : ((p.elapseTo (faultMoment f since)).writeDrive ⟨d, since⟩ (faultCurrent f)).releaseSolenoid =
      p.faulted f d since k := by
    rw [Lane.writeDrive, Lane.onDrawer]
    dsimp only
    rw [DrawerRecord.pulse_of_kick hkicking]
    rcases f
    · rfl
    · rfl
  have hdrive : ((p.faulted f d since k).drawer d).drive =
      some ⟨k.pulseMs, min k.pulseMs ((max p.now (faultMoment f since) - since) / 1000), faultCurrent f⟩ :=
    congrArg DrawerRecord.drive (Lane.drawer_released (p := p.elapseTo (faultMoment f since)) hwait _)
  rw [Lane.currentFault, hdriver]
  dsimp only
  rw [hkicking, hwritten]
  refine (Lane.drawerDone_fault d k true _ (faultReasonOf f) ?_).trans ?_
  · rw [Lane.onDrawer, Lane.drawer_setDrawer]
  · rw [Lane.onDrawer, Lane.drawer_setDrawer, DrawerRecord.leaveTo, if_pos rfl]
    dsimp only
    rw [hdrive]

/-! ## The timers (R136, R141) -/

theorem Lane.confirmExpire_eq {p : Lane} {d : Drawer} {t : Nat} {k : Kick} (ht : (p.drawer d).confirmUntil = some t)
    (hkick : (p.drawer d).kick = some k) :
    p.confirmExpire d =
      ((p.elapseTo t).setDrawer d { p.drawer d with
        state := .closed, kick := none, confirmUntil := none, openSince := none, alarmAt := none }).event 0x92#8
      (kickReport d k .jammed (p.drawer d).grant (p.drawer d).drive []) := by
  have hkicking : ((p.elapseTo t).drawer d).kick = some k := hkick
  rw [Lane.confirmExpire, ht]
  dsimp only
  rw [hkicking]
  refine (Lane.drawerDone_eq d k .jammed true _ (by decide)).trans ?_
  rw [Lane.onDrawer, Lane.drawer_setDrawer]
  rfl

/-- Settles O45: the driver released, each end of a pulse, and the drawer's two timers. -/
theorem pulsesWindowsAndAlarmsEnd : Obligations.PulsesWindowsAndAlarmsEnd := by
  refine ⟨fun p => ?_, fun d since k s hdriver hkick hwait => ?_, fun f d since k s hdriver hkick hwait => ?_,
    fun d t k s ht hkick => advance_eq (Lane.confirmExpire_eq ht hkick), fun d t s ht => advance_eq ?_,
    fun f d s => ⟨fun hidle => ⟨advance_eq ?_, advance_eq ?_⟩, fun hnone => advance_eq ?_, fun hnone => advance_eq ?_⟩⟩
  · rw [Lane.releaseSolenoid_eq]
    rcases p.till.waiting with _ | w
    · rfl
    · rfl
  · intro now drive p grant alarm spent opened done
    have hp : s.toLane.pulseDone d since k = p := rfl
    have hnow : p.now = now := Lane.pulseDone_now d since k s.toLane
    have halarm : p.till.alarmSeconds = s.till.alarmSeconds := Lane.pulseDone_alarmSeconds d since k s.toLane
    have hdrawer : p.drawer d = { s.toLane.drawer d with drive := some drive } := Lane.drawer_pulseDone hwait since k
    have hkicked : (p.drawer d).kick = some k := by rw [hdrawer, hkick]
    have hdrive : (p.drawer d).drive = some drive := by rw [hdrawer]
    have hdone : p.kickOpened d = done := by
      rw [Lane.kickOpened_eq hkicked, Lane.enterOpen_eq, Lane.setDrawer_alarmSeconds, Lane.setDrawer_now, halarm, hnow,
        hdrive]
      rfl
    have hopened : done.drawer d = opened.drawer d := rfl
    have hkept : done.drawer d = { p.drawer d with
        state := .opened, kick := none, confirmUntil := none, openSince := some now, alarmAt := alarm, grant := grant } := by
      rw [← hdone, Lane.drawer_kickOpened hkicked, hnow, halarm]
      rfl
    refine (advance_eq (Lane.pulseEnd_eq hdriver hkick)).trans ?_
    rw [hp, hdone, hkept, hnow]
    refine congrArg (fun q => s.becomes q) ?_
    rcases hmark : k.openMark
    · rfl
    · rcases hclosed : (p.drawer d).closed
      · have hsince : (done.drawer d).openSince = some done.now := by
          rw [hkept]
          exact congrArg some hnow.symm
        refine (Lane.closeDrawer_at_once hsince).trans ?_
        rw [← hopened, hkept]
        rfl
      · rfl
  · intro now drive reason p
    rcases f
    · exact advance_eq (Lane.currentFault_eq .short hdriver hkick hwait)
    · exact advance_eq (Lane.currentFault_eq .openCoil hdriver hkick hwait)
  · rw [Lane.alarmExpire, ht]
    rfl
  · rw [Lane.pulseEnd, hidle]
  · rw [Lane.currentFault, hidle]
  · rw [Lane.confirmExpire, hnone]
  · rw [Lane.alarmExpire, hnone]

end Sys2Proof.Machine
end

section
/-! PROOFS. The drawer sensors (R131, R135, R136, R139). -/

namespace Sys2Proof.Machine

/-- DRAWER_DONE of a kick that has ended without a fault, when there was one. -/
def Lane.kickEnded (d : Drawer) (kick : Option Kick) (o : KickOutcome) (grant : Bool) (drive : Option DriveReport)
    (p : Lane) : Lane :=
  match kick with
  | some k => p.event 0x92#8 (kickReport d k o grant drive [])
  | none => p

/-- A kick with another open mark has the same report. -/
theorem Lane.kickEnded_unmarked (d : Drawer) (kick : Option Kick) (o : KickOutcome) (grant : Bool)
    (drive : Option DriveReport) (p : Lane) :
    p.kickEnded d (kick.map fun (k : Kick) => ⟨k.basis, k.requester, k.pulseMs, false⟩) o grant drive =
      p.kickEnded d kick o grant drive := by
  rcases kick with _ | k
  · rfl
  · rfl

theorem Lane.reportKick_eq (d : Drawer) (kick : Option Kick) {o : KickOutcome} (ho : o ≠ .fault) (pulsed : Bool)
    (p : Lane) :
    p.reportKick d kick o pulsed =
      p.kickEnded d kick o (p.drawer d).grant (if pulsed then (p.drawer d).drive else none) := by
  rcases kick with _ | k
  · rfl
  · exact Lane.drawerDone_eq d k o pulsed p ho

/-- The drawer ABSENT, with PRESENCE and DRAWER_PRESENCE. -/
def Lane.gone (d : Drawer) (p : Lane) : Lane :=
  (p.onDrawer d (DrawerRecord.leaveTo .absent)).presenceEvent d .removed

theorem Lane.drawer_gone (d : Drawer) (p : Lane) : (p.gone d).drawer d = (p.drawer d).leaveTo .absent :=
  Lane.drawer_setDrawer d _ p

theorem Lane.becomeAbsent_eq (d : Drawer) (pulsed : Bool) (p : Lane) :
    p.becomeAbsent d pulsed =
      (p.gone d).kickEnded d (p.drawer d).kick .removed (p.drawer d).grant
        (if pulsed then (p.drawer d).drive else none) := by
  refine (Lane.reportKick_eq d (p.drawer d).kick (by decide) pulsed (p.gone d)).trans ?_
  rw [Lane.drawer_gone]
  rfl

/-- A drawer's kick and grant once the driver is released: its pulse may have started. -/
theorem Lane.releaseSolenoid_drawer (p : Lane) (d : Drawer) :
    (p.releaseSolenoid.drawer d).grant = (p.drawer d).grant ∧
      ((p.releaseSolenoid.drawer d).kick = (p.drawer d).kick ∨
        (p.releaseSolenoid.drawer d).kick =
          (p.drawer d).kick.map fun (k : Kick) => ⟨k.basis, k.requester, k.pulseMs, false⟩) := by
  by_cases hwait : p.till.waiting = some d
  · have hstart : p.releaseSolenoid.drawer d =
        { p.joltHold.drawer d with
          state := .kicking
          kick := (p.joltHold.drawer d).kick.map fun (k : Kick) => ⟨k.basis, k.requester, k.pulseMs, false⟩ } := by
      rw [Lane.releaseSolenoid_eq, hwait]
      exact Lane.drawer_setDrawer d _ _
    rw [hstart]
    exact ⟨rfl, .inr rfl⟩
  · rw [Lane.drawer_releaseSolenoid p d hwait]
    exact ⟨rfl, .inl rfl⟩

/-- A pulse cut: its report CUT, and the driver released (R139). -/
theorem Lane.cutPulse_of_driving {p : Lane} {g : Drawer} {since : Nat} (h : p.till.driver = some ⟨g, since⟩) :
    p.cutPulse =
      (p.setDrawer g { p.drawer g with
        drive := some ⟨(p.drawer g).pulse, min (p.drawer g).pulse ((p.now - since) / 1000), .cut⟩ }).releaseSolenoid := by
  rw [Lane.cutPulse, h]
  rfl

/-- A cut leaves a drawer's grant, and its kick but for the open mark. -/
theorem Lane.cutPulse_drawer {p : Lane} {g : Drawer} {since : Nat} (h : p.till.driver = some ⟨g, since⟩) (d : Drawer) :
    (p.cutPulse.drawer d).grant = (p.drawer d).grant ∧
      ((p.cutPulse.drawer d).kick = (p.drawer d).kick ∨
        (p.cutPulse.drawer d).kick =
          (p.drawer d).kick.map fun (k : Kick) => ⟨k.basis, k.requester, k.pulseMs, false⟩) := by
  obtain ⟨r, hr, hgrant, hkick⟩ : ∃ r, p.cutPulse = (p.setDrawer g r).releaseSolenoid ∧ r.grant = (p.drawer g).grant ∧
      r.kick = (p.drawer g).kick := ⟨_, Lane.cutPulse_of_driving h, rfl, rfl⟩
  have hwritten : ((p.setDrawer g r).drawer d).grant = (p.drawer d).grant ∧
      ((p.setDrawer g r).drawer d).kick = (p.drawer d).kick := by
    by_cases hsame : d = g
    · subst hsame
      rw [Lane.drawer_setDrawer]
      exact ⟨hgrant, hkick⟩
    · rw [Lane.drawer_setDrawer_ne d g r p hsame]
      exact ⟨rfl, rfl⟩
  have hreleased := Lane.releaseSolenoid_drawer (p.setDrawer g r) d
  rw [hwritten.1, hwritten.2] at hreleased
  rw [hr]
  exact hreleased

/-- The tray removed under a running pulse. -/
theorem Lane.becomeAbsent_cutPulse (d : Drawer) (p : Lane) :
    p.cutPulse.becomeAbsent d true =
      (p.cutPulse.gone d).kickEnded d (p.drawer d).kick .removed (p.drawer d).grant (p.cutPulse.drawer d).drive := by
  rw [Lane.becomeAbsent_eq, if_pos rfl]
  rcases hdriver : p.till.driver with _ | ⟨g, since⟩
  · have hsame : p.cutPulse = p := by rw [Lane.cutPulse, hdriver]
    rw [hsame]
  · obtain ⟨hgrant, hkick | hkick⟩ := Lane.cutPulse_drawer hdriver d
    · rw [hgrant, hkick]
    · rw [hgrant, hkick, Lane.kickEnded_unmarked]

/-! ## The edges -/

theorem Lane.drawer_setTray (d : Drawer) (l : TrayLevel) (p : Lane) :
    (p.setTray d l).drawer d = { p.drawer d with tray := l } :=
  Lane.drawer_setDrawer d _ p

theorem Lane.drawer_setClosed (d : Drawer) (l : ClosedLevel) (p : Lane) :
    (p.setClosed d l).drawer d = { p.drawer d with closed := l } :=
  Lane.drawer_setDrawer d _ p

theorem Lane.setTray_alarmSeconds (d : Drawer) (l : TrayLevel) (p : Lane) :
    (p.setTray d l).till.alarmSeconds = p.till.alarmSeconds :=
  Lane.setDrawer_alarmSeconds d _ p

theorem Lane.setClosed_alarmSeconds (d : Drawer) (l : ClosedLevel) (p : Lane) :
    (p.setClosed d l).till.alarmSeconds = p.till.alarmSeconds :=
  Lane.setDrawer_alarmSeconds d _ p

theorem Lane.setTray_driver (d : Drawer) (l : TrayLevel) (p : Lane) :
    (p.setTray d l).till.driver = p.till.driver :=
  (Lane.setDrawer_keeps d _ p).1

theorem Lane.trayRemoved_of_present {d : Drawer} {p : Lane} (h : (p.drawer d).tray ≠ .removed) :
    p.trayRemoved d =
      match (p.drawer d).state with
      | .closed | .opened | .openLong | .fault => (p.setTray d .removed).becomeAbsent d false
      | .pending => ((p.setTray d .removed).setDriver (p.setTray d .removed).till.driver none).becomeAbsent d false
      | .kicking => (p.setTray d .removed).cutPulse.becomeAbsent d true
      | .confirming => (p.setTray d .removed).becomeAbsent d true
      | .absent => p.setTray d .removed := by
  rw [Lane.trayRemoved, if_neg h]
  dsimp only
  rw [Lane.drawer_setTray] <;> rfl

theorem Lane.trayInserted_of_removed {d : Drawer} {p : Lane} (h : (p.drawer d).tray ≠ .present) :
    p.trayInserted d =
      if (p.drawer d).state = .absent then ((p.setTray d .present).settleDrawer d).presenceEvent d .present
      else p.setTray d .present := by
  rw [Lane.trayInserted, if_neg h]
  dsimp only
  rw [Lane.drawer_setTray]

theorem Lane.closedOpens_of_shut {d : Drawer} {p : Lane} (h : (p.drawer d).closed ≠ .opened) :
    p.closedOpens d =
      match (p.drawer d).state with
      | .closed => ((p.setClosed d .opened).enterOpen d).forcedEvent d
      | .pending =>
        ((((p.setClosed d .opened).setDriver (p.setClosed d .opened).till.driver none).enterOpen d).forcedEvent d).reportKick d
          (p.drawer d).kick .withdrawn false
      | .kicking => (p.setClosed d .opened).onDrawer d fun r =>
          { r with kick := r.kick.map fun (k : Kick) => ⟨k.basis, k.requester, k.pulseMs, true⟩ }
      | .confirming => (p.setClosed d .opened).kickOpened d
      | .opened | .openLong | .absent | .fault => p.setClosed d .opened := by
  rw [Lane.closedOpens, if_neg h]
  dsimp only
  rw [Lane.drawer_setClosed] <;> rfl

theorem Lane.closedCloses_of_open {d : Drawer} {p : Lane} (h : (p.drawer d).closed ≠ .shut) :
    p.closedCloses d =
      match (p.drawer d).state with
      | .opened | .openLong => (p.setClosed d .shut).closeDrawer d
      | .closed | .pending | .kicking | .confirming | .absent | .fault => p.setClosed d .shut := by
  rw [Lane.closedCloses, if_neg h]
  dsimp only
  rw [Lane.drawer_setClosed] <;> rfl

theorem Lane.kickOpened_of_none {d : Drawer} {p : Lane} (h : (p.drawer d).kick = none) :
    p.kickOpened d = (p.setDrawer d (p.drawer d)).enterOpen d := by
  rw [Lane.kickOpened, h]
  rfl

/-- The tray removed from a drawer at rest, with its kick if one was in flight. -/
theorem Lane.becomeAbsent_setTray (d : Drawer) (pulsed : Bool) (p : Lane) :
    (p.setTray d .removed).becomeAbsent d pulsed =
      ((p.setTray d .removed).gone d).kickEnded d (p.drawer d).kick .removed (p.drawer d).grant
        (if pulsed then (p.drawer d).drive else none) := by
  rw [Lane.becomeAbsent_eq, Lane.drawer_setTray]

/-- A waiting kick withdrawn: the waiting place is free (R133). -/
theorem Lane.becomeAbsent_noWait (d : Drawer) (p : Lane) :
    ((p.setTray d .removed).setDriver (p.setTray d .removed).till.driver none).becomeAbsent d false =
      (((p.setTray d .removed).setDriver (p.setTray d .removed).till.driver none).gone d).kickEnded d (p.drawer d).kick
        .removed (p.drawer d).grant none := by
  have hread : ((p.setTray d .removed).setDriver (p.setTray d .removed).till.driver none).drawer d =
      (p.setTray d .removed).drawer d := rfl
  rw [Lane.becomeAbsent_eq, hread, Lane.drawer_setTray]
  rfl

theorem Lane.becomeAbsent_cut (d : Drawer) (p : Lane) :
    (p.setTray d .removed).cutPulse.becomeAbsent d true =
      ((p.setTray d .removed).cutPulse.gone d).kickEnded d (p.drawer d).kick .removed (p.drawer d).grant
        ((p.setTray d .removed).cutPulse.drawer d).drive := by
  rw [Lane.becomeAbsent_cutPulse, Lane.drawer_setTray]

theorem Lane.enterOpen_at {p : Lane} {now seconds : Nat} (hnow : p.now = now) (halarm : p.till.alarmSeconds = seconds)
    (d : Drawer) :
    p.enterOpen d =
      p.setDrawer d { p.drawer d with
        state := .opened, kick := none, confirmUntil := none, openSince := some now
        alarmAt := if seconds = 0 then none else some (now + seconds * 1000000) } := by
  rw [Lane.enterOpen_eq, hnow, halarm]

/-- A drawer closed, with the whole seconds it was open. -/
theorem Lane.closeDrawer_eq (d : Drawer) (p : Lane) :
    p.closeDrawer d =
      (p.setDrawer d ((p.drawer d).leaveTo .closed)).event 0x95#8
        [.name (drawerCode d), .u32 ((p.drawer d).secondsOpen p.now)] := rfl

/-- Settles O46: each sensor's two edges, by the drawer's state. -/
theorem drawerSensorsMoveTheDrawer : Obligations.DrawerSensorsMoveTheDrawer := by
  intro d s r open_ shut report presence forced noWait
  have hr : s.toLane.drawer d = r := rfl
  have hread : ∀ x, (s.toLane.setDrawer d x).drawer d = x := fun x => Lane.drawer_setDrawer d x s.toLane
  have halarm : ∀ x, (s.toLane.setDrawer d x).till.alarmSeconds = s.till.alarmSeconds :=
    fun x => Lane.setDrawer_alarmSeconds d x s.toLane
  refine ⟨?_, ?_, ?_, ?_⟩
  · by_cases htray : r.tray = .removed
    · rw [if_pos htray]
      exact advance_eq (if_pos htray)
    · rw [if_neg htray]
      refine (advance_eq (Lane.trayRemoved_of_present htray)).trans ?_
      have hset : s.toLane.setTray d .removed = s.toLane.setDrawer d { r with tray := .removed } := rfl
      have hdriver := s.toLane.setTray_driver d .removed
      have hnow : (s.toLane.setTray d .removed).now = s.now := rfl
      have hdrive : ((s.toLane.setTray d .removed).drawer d).drive = r.drive := by rw [Lane.drawer_setTray]
      rw [Lane.becomeAbsent_setTray, Lane.becomeAbsent_setTray, Lane.becomeAbsent_noWait, Lane.becomeAbsent_cut, hr]
      rw [hset] at hdriver hnow hdrive ⊢
      generalize s.toLane.setDrawer d { r with tray := .removed } = p at hdriver hnow hdrive ⊢
      rcases r.state
      case kicking =>
        rcases hdriving : s.till.driver with _ | ⟨g, since⟩
        · have hsame : p.cutPulse = p := by rw [Lane.cutPulse, hdriver, hdriving]
          rw [hsame, hdrive]
          rfl
        · rw [Lane.cutPulse_of_driving (hdriver.trans hdriving), hnow]
          rfl
      all_goals rfl
  · by_cases htray : r.tray = .present
    · rw [if_pos htray]
      exact advance_eq (if_pos htray)
    · rw [if_neg htray]
      refine (advance_eq (Lane.trayInserted_of_removed htray)).trans ?_
      have hset : s.toLane.setTray d .present = s.toLane.setDrawer d { r with tray := .present } := rfl
      have hclosed : ((s.toLane.setTray d .present).drawer d).closed = r.closed := by rw [Lane.drawer_setTray]
      have hopen := Lane.enterOpen_at (p := s.toLane.setTray d .present) (now := s.now) rfl (halarm _) d
      rw [hr, Lane.settleDrawer, hclosed, hopen, hset]
      generalize s.toLane.setDrawer d { r with tray := .present } = p
      by_cases habsent : r.state = .absent
      · rw [if_pos habsent, if_neg (not_not.mpr habsent)]
        rcases r.closed
        · rfl
        · rfl
      · rw [if_neg habsent, if_pos habsent]
        rfl
  · by_cases hclosed : r.closed = .opened
    · rw [if_pos hclosed]
      exact advance_eq (if_pos hclosed)
    · rw [if_neg hclosed]
      refine (advance_eq (Lane.closedOpens_of_shut hclosed)).trans ?_
      have hset : s.toLane.setClosed d .opened = s.toLane.setDrawer d { r with closed := .opened } := rfl
      have hkick : ((s.toLane.setClosed d .opened).drawer d).kick = r.kick := by rw [Lane.drawer_setClosed]
      have hgrant : ((s.toLane.setClosed d .opened).drawer d).grant = r.grant := by rw [Lane.drawer_setClosed]
      have hdrive : ((s.toLane.setClosed d .opened).drawer d).drive = r.drive := by rw [Lane.drawer_setClosed]
      have hnow : (s.toLane.setClosed d .opened).now = s.now := rfl
      have hseconds : (s.toLane.setClosed d .opened).till.alarmSeconds = s.till.alarmSeconds := halarm _
      rw [hr]
      rw [hset] at hkick hgrant hdrive hnow hseconds ⊢
      generalize s.toLane.setDrawer d { r with closed := .opened } = p at hkick hgrant hdrive hnow hseconds ⊢
      have hopen : ∀ q : Lane, q.now = p.now → q.till.alarmSeconds = p.till.alarmSeconds →
          q.enterOpen d = q.setDrawer d (open_ (q.drawer d)) :=
        fun q hqnow hqalarm => Lane.enterOpen_at (hqnow.trans hnow) (hqalarm.trans hseconds) d
      rcases r.state
      case closed =>
        dsimp only
        rw [hopen p rfl rfl]
        rfl
      case pending =>
        dsimp only
        rw [hopen (p.setDriver p.till.driver none) rfl rfl, Lane.reportKick_eq d r.kick (by decide)]
        have hkept : (((p.setDriver p.till.driver none).setDrawer d
            (open_ ((p.setDriver p.till.driver none).drawer d))).drawer d).grant = r.grant := by
          rw [Lane.drawer_setDrawer]
          exact hgrant
        have hread : ∀ q : Lane, (q.forcedEvent d).drawer d = q.drawer d := fun _ => rfl
        rw [hread, hkept]
        rfl
      case kicking =>
        dsimp only
        rw [Lane.onDrawer, hkick]
        rfl
      case confirming =>
        have hreport : ∀ q : Lane, report .opened r.drive q =
            match r.kick with
            | some k => q.event 0x92#8 (kickReport d k .opened (k.grantAfter r.grant) r.drive [])
            | none => q := by
          intro q
          dsimp only [report]
          rcases r.kick with _ | ⟨_ | _, who, ms, mark⟩ <;> rfl
        dsimp only
        rw [hreport]
        rcases hnone : r.kick with _ | k
        · have hsame : p.setDrawer d (p.drawer d) = p.setDrawer d { p.drawer d with grant := r.grant } := by
            rw [← hgrant]
          rw [Lane.kickOpened_of_none (hkick.trans hnone), hsame, hopen (p.setDrawer d _) rfl (Lane.setDrawer_alarmSeconds _ _ _)]
          rfl
        · have hended : p.kickOpened d =
              ((p.setDrawer d { p.drawer d with grant := k.grantAfter r.grant }).enterOpen d).event 0x92#8
                (kickReport d k .opened (k.grantAfter r.grant) r.drive []) := by
            rw [Lane.kickOpened_eq (hkick.trans hnone), hgrant, hdrive]
          rw [hended, hopen (p.setDrawer d _) rfl (Lane.setDrawer_alarmSeconds _ _ _)]
          rcases k with ⟨_ | _, who, ms, mark⟩
          · rfl
          · rfl
      all_goals rfl
  · by_cases hclosed : r.closed = .shut
    · rw [if_pos hclosed]
      exact advance_eq (if_pos hclosed)
    · rw [if_neg hclosed]
      refine (advance_eq (Lane.closedCloses_of_open hclosed)).trans ?_
      have hset : s.toLane.setClosed d .shut = s.toLane.setDrawer d { r with closed := .shut } := rfl
      have hsince : ((s.toLane.setClosed d .shut).drawer d).secondsOpen s.now = r.secondsOpen s.now := by
        rw [Lane.drawer_setClosed]
        rfl
      have hnow : (s.toLane.setClosed d .shut).now = s.now := rfl
      rw [hr, Lane.closeDrawer_eq, hnow, hsince, hset]
      generalize s.toLane.setDrawer d { r with closed := .shut } = p
      rcases r.state
      all_goals rfl

end Sys2Proof.Machine
end

section
/-! PROOFS. The key switch, the button, the lane light and the settings (R138, R141 to R146). -/

namespace Sys2Proof.Machine

/-! ## The lane light (R146) -/

theorem Till.judgeLight_eq (t : Till) (now : Nat) :
    t.judgeLight now =
      { t with shown := t.judgedLight, shownSince := if t.judgedLight = t.shown then t.shownSince else now } := by
  rw [Till.judgeLight]
  by_cases hsame : t.judgedLight = t.shown
  · rw [if_pos hsame, if_pos hsame, hsame]
  · rw [if_neg hsame, if_neg hsame]

theorem Till.judgedLight_eq (t : Till) :
    t.judgedLight =
      if t.assist = true then .fast
      else if t.drawerA.state = .openLong ∨ t.drawerB.state = .openLong then .blink
      else t.commanded := rfl

/-- The lamp from the start of a lit period on. -/
theorem Till.lampLit_after (t : Till) (periods into : Nat) :
    (t.shown = .off → t.lampLit (t.shownSince + into) = false) ∧
      (t.shown = .on → t.lampLit (t.shownSince + into) = true) ∧
      (t.shown = .blink → into < 1000000 →
        t.lampLit (t.shownSince + periods * 1000000 + into) = decide (into < 500000)) ∧
      (t.shown = .fast → into < 250000 →
        t.lampLit (t.shownSince + periods * 250000 + into) = decide (into < 125000)) := by
  refine ⟨fun h => ?_, fun h => ?_, fun h hinto => ?_, fun h hinto => ?_⟩
  · rw [Till.lampLit, h]
  · rw [Till.lampLit, h]
  · have helapsed : t.shownSince + periods * 1000000 + into - t.shownSince = periods * 1000000 + into := by omega
    rw [Till.lampLit, h, helapsed]
    exact litHalf_after 500000 periods into hinto
  · have helapsed : t.shownSince + periods * 250000 + into - t.shownSince = periods * 250000 + into := by omega
    rw [Till.lampLit, h, helapsed]
    exact litHalf_after 125000 periods into hinto

/-- A byte above 3 names no light mode. -/
theorem lightOf_eq_none {b : Byte} (h : 3#8 < b) : lightOf b = none := by
  have h0 : b ≠ 0#8 := by bv_omega
  have h1 : b ≠ 1#8 := by bv_omega
  have h2 : b ≠ 2#8 := by bv_omega
  have h3 : b ≠ 3#8 := by bv_omega
  rw [lightOf, if_neg h0, if_neg h1, if_neg h2, if_neg h3]

/-! ## The requests -/

theorem exec_assistClear {s : State} (h : s.takes) (tag : Byte) :
    exec (.assistClear tag) s = s.answering (doAssistClear (s.toLane.begun 0x55#8 tag)) :=
  request_answering (f := ⟨0x55#8, tag, []⟩) h rfl doAssistClear

theorem exec_light {s : State} (h : s.takes) (tag b : Byte) :
    exec (.light tag b) s = s.answering (doLight b (s.toLane.begun 0x56#8 tag)) :=
  request_answering (f := ⟨0x56#8, tag, [b]⟩) h rfl (doLight b)

theorem exec_drawerClearFault {s : State} (h : s.takes) (tag b : Byte) :
    exec (.drawerClearFault tag b) s = s.answering (doDrawerClearFault b (s.toLane.begun 0x52#8 tag)) :=
  request_answering (f := ⟨0x52#8, tag, [b]⟩) h rfl (doDrawerClearFault b)

theorem exec_drawerSetup {s : State} (h : s.takes) (tag b : Byte) (ms seconds : Nat) :
    exec (.drawerSetup tag ms seconds b) s = s.answering (doDrawerSetup ms seconds b (s.toLane.begun 0x53#8 tag)) :=
  request_answering (f := (requestFrame (.drawerSetup tag ms seconds b)).getD ⟨0, 0, []⟩) h rfl (doDrawerSetup ms seconds b)

theorem exec_drawerSelect {s : State} (h : s.takes) (tag b : Byte) :
    exec (.drawerSelect tag b) s = s.answering (doDrawerSelect b (s.toLane.begun 0x54#8 tag)) :=
  request_answering (f := ⟨0x54#8, tag, [b]⟩) h rfl (doDrawerSelect b)

/-- The one check DRAWER_SETUP makes of its settings. -/
theorem drawerSetup_check (ms seconds : Nat) (b : Byte) :
    (!pulseOk ms || !alarmOk seconds || (settingOf b).isNone) = true ↔
      ¬(40 ≤ ms ∧ ms ≤ 200 ∧ ms % 10 = 0 ∧
        (seconds = 0 ∨ seconds = 15 ∨ seconds = 30 ∨ seconds = 60 ∨ seconds = 120) ∧ (b = 0#8 ∨ b = 1#8)) := by
  have hpulse : pulseOk ms = true ↔ 40 ≤ ms ∧ ms ≤ 200 ∧ ms % 10 = 0 := by simp [pulseOk, and_assoc]
  have halarm : alarmOk seconds = true ↔ seconds = 0 ∨ seconds = 15 ∨ seconds = 30 ∨ seconds = 60 ∨ seconds = 120 := by
    simp [alarmOk, or_assoc]
  rw [Bool.or_eq_true, Bool.or_eq_true, Bool.not_eq_true', Bool.not_eq_true', ← Bool.not_eq_true, ← Bool.not_eq_true,
    hpulse, halarm, settingOf_isNone, ne_eq, ne_eq, ← not_or, ← not_and_or, ← not_and_or, and_assoc, and_assoc, and_assoc]

/-- A drawer under a new alarm time: an OPEN one's timer stops, moves, or makes it OPEN_LONG (R141, log entry 20). -/
def Lane.retimed (now seconds : Nat) (d : Drawer) (p : Lane) : Lane :=
  match (p.drawer d).state, (p.drawer d).openSince with
  | .opened, some since =>
    if seconds = 0 then p.setDrawer d { p.drawer d with alarmAt := none }
    else if now < since + seconds * 1000000 then
      p.setDrawer d { p.drawer d with alarmAt := some (since + seconds * 1000000) }
    else
      ((p.setDrawer d { p.drawer d with state := .openLong, alarmAt := none }).latch (.alarm d)).event 0x96#8
        [.name (drawerCode d), .u8 seconds]
  | _, _ => p

theorem Lane.retime_eq {p : Lane} {now seconds : Nat} (hnow : p.now = now) (hseconds : p.till.alarmSeconds = seconds)
    (d : Drawer) : p.retime d = p.retimed now seconds d := by
  rw [Lane.retime, Lane.retimed]
  rcases (p.drawer d).state
  case opened =>
    rcases (p.drawer d).openSince with _ | since
    · rfl
    · dsimp only
      rw [Till.alarmFrom, hseconds]
      by_cases hoff : seconds = 0
      · rw [if_pos hoff, if_pos hoff]
        rfl
      · rw [if_neg hoff, if_neg hoff]
        dsimp only
        rw [← ite_not, hnow]
        refine if_congr not_le rfl ?_
        rw [Lane.openTooLong, hseconds]
        rfl
  all_goals rfl

theorem Lane.retime_keeps (d : Drawer) (p : Lane) :
    (p.retime d).now = p.now ∧ (p.retime d).till.alarmSeconds = p.till.alarmSeconds := by
  rw [Lane.retime_eq rfl rfl, Lane.retimed]
  split
  · split_ifs
    · exact ⟨rfl, Lane.setDrawer_alarmSeconds _ _ _⟩
    · exact ⟨rfl, Lane.setDrawer_alarmSeconds _ _ _⟩
    · exact ⟨rfl, Lane.setDrawer_alarmSeconds _ _ _⟩
  · exact ⟨rfl, rfl⟩

/-- Settles O47: the light judged, the switch and the button taken, and the drawer's three settings. -/
theorem keyButtonLightAndSetupAreTaken : Obligations.KeyButtonLightAndSetupAreTaken := by
  refine ⟨⟨fun d r p => ?_, fun t now => ?_, Till.lampLit_after, fun k s => ?_, fun s => rfl,
    ⟨rfl, fun b => lightOf_eq_none⟩, fun tag b s hs => ⟨?_, ?_⟩⟩, fun tag b ms seconds s hs => ⟨?_, ?_, ?_⟩⟩
  · rcases d
    · rfl
    · rfl
  · rw [Till.judgeLight_eq, Till.judgedLight_eq]
  · refine (advance_eq (q := s.toLane.keyChange k) rfl).trans ?_
    rw [Lane.keyChange]
    split_ifs
    · rfl
    · rfl
  · rw [exec_assistClear hs, doAssistClear]
    exact answering_changed rfl _
  · rw [exec_light hs, doLight]
    rcases lightOf b with _ | m
    · exact answering_same _ _ _ _
    · have hcode : m.code = (({ s.till with commanded := m } : Till).judgeLight s.now).commanded.code := by
        rw [Till.judgeLight_eq]
      refine (answering_changed rfl _).trans ?_
      dsimp only
      rw [hcode]
      rfl
  · rw [exec_drawerClearFault hs, doDrawerClearFault]
    rcases drawerOf b with _ | d
    · exact answering_same _ _ _ _
    · refine answering_check (by simp) rfl fun _ => ?_
      rw [checked_nil]
      dsimp only
      rw [Lane.settleDrawer]
      have hclosed : ((s.toLane.begun 0x52#8 tag).drawer d).closed = (s.toLane.drawer d).closed := rfl
      rw [hclosed]
      rcases hlevel : (s.toLane.drawer d).closed
      · dsimp only
        rw [← hlevel, Lane.onDrawer, Lane.drawer_setDrawer]
        rfl
      · dsimp only
        rw [← hlevel, Lane.enterOpen_eq, Lane.drawer_setDrawer]
        rfl
  · rw [exec_drawerSetup hs, doDrawerSetup]
    refine answering_check (by simp [Till.manager]) rfl fun _ => ?_
    refine Eq.trans ?_ (ite_not _ _ _)
    refine answering_check (drawerSetup_check ms seconds b) rfl fun _ => ?_
    rw [checked_nil]
    dsimp only
    have hretime : ∀ p : Lane, p.now = s.now → p.till.alarmSeconds = seconds →
        (p.retime .a).retime .b = (p.retimed s.now seconds .a).retimed s.now seconds .b := by
      intro p hnow hseconds
      obtain ⟨hkeptNow, hkeptSeconds⟩ := Lane.retime_keeps .a p
      rw [Lane.retime_eq (hkeptNow.trans hnow) (hkeptSeconds.trans hseconds) .b, Lane.retime_eq hnow hseconds .a]
    have hsettings : (({ s.toLane.begun 0x53#8 tag with
          till := { s.till with pulseMs := ms, alarmSeconds := seconds, interlock := isOn b } } : Lane).retime .a).retime .b =
        (({ s.toLane.begun 0x53#8 tag with
          till := { s.till with pulseMs := ms, alarmSeconds := seconds, interlock := isOn b } } : Lane).retimed s.now
            seconds .a).retimed s.now seconds .b := hretime _ rfl rfl
    exact congrArg (fun q => s.answering (q, ok [.u16 ms, .u8 seconds, .flag (isOn b)])) hsettings
  · rw [exec_drawerSelect hs, doDrawerSelect]
    rcases drawerOf b with _ | d
    · exact answering_same _ _ _ _
    · refine answering_check (not_noSaleOpen _) rfl fun _ => ?_
      exact answering_changed rfl _

end Sys2Proof.Machine
end

section
/-! PROOFS. The receipt composer (R150 to R158). -/

namespace Sys2Proof.Machine

/-! ## Numbers, amounts and times (R152) -/

theorem length_zeroPadded (width : Nat) (t : Text) : (zeroPadded width t).length = max width t.length := by
  rw [zeroPadded, List.length_append, List.length_replicate]
  omega

/-- An amount under an exponent above 0: its padded digits with a point before the last x. -/
theorem amountText_pointed {x : Nat} (hx : 0 < x) (a : Int) :
    ∃ whole fraction : Text,
      whole ++ fraction = zeroPadded (x + 1) (decimal a.natAbs) ∧ fraction.length = x ∧
        amountText x a = (if a < 0 then [0x2D#8] else []) ++ whole ++ 0x2E#8 :: fraction := by
  have hlength := length_zeroPadded (x + 1) (decimal a.natAbs)
  refine ⟨(zeroPadded (x + 1) (decimal a.natAbs)).take ((zeroPadded (x + 1) (decimal a.natAbs)).length - x),
    (zeroPadded (x + 1) (decimal a.natAbs)).drop ((zeroPadded (x + 1) (decimal a.natAbs)).length - x),
    List.take_append_drop _ _, ?_, ?_⟩
  · rw [List.length_drop]
    omega
  · rw [amountText, pointed, if_neg (Nat.pos_iff_ne_zero.mp hx)]
    simp only [List.append_assoc, List.singleton_append]

theorem weightText_eq (g : Nat) : weightText g = amountText 3 g := by
  have hsign : ¬(g : Int) < 0 := by omega
  rw [weightText, amountText, if_neg hsign, List.nil_append]

theorem twoDigits_eq {n : Nat} (h : n ≤ 59) :
    twoDigits n = [BitVec.ofNat 8 (0x30 + n / 10), BitVec.ofNat 8 (0x30 + n % 10)] := by
  have hall : ∀ n : Fin 60, twoDigits n = [BitVec.ofNat 8 (0x30 + n.val / 10), BitVec.ofNat 8 (0x30 + n.val % 10)] := by
    decide +kernel
  exact hall ⟨n, by omega⟩

/-! ## The printed text of each section (R153 to R158) -/

/-- What a job's lines print. -/
def printedText (lines : List (Place × Text)) : List Text :=
  lines.map fun line => line.2

theorem printedText_append (a b : List (Place × Text)) : printedText (a ++ b) = printedText a ++ printedText b :=
  List.map_append

theorem flatMap_numbered {α β : Type} (n : Nat) (xs : List α) (f : α → List β) :
    ((numbered n xs).flatMap fun x => f x.2) = xs.flatMap f := by
  rw [List.flatMap_def, map_numbered, List.flatMap_def]

theorem printedText_header (header : List Text) :
    printedText (headerLines header) = header.map fun l => textLine l [] := by
  rw [printedText, headerLines, List.map_map]
  exact map_numbered 1 header fun l => textLine l []

theorem printedText_restart (c : Context) :
    printedText (restartLines c) = if c.restarted = true then [textLine (str "NUMBERING RESTARTED") []] else [] := by
  rw [restartLines]
  split_ifs
  · rfl
  · rfl

/-- The text of an item record (R154). -/
def itemText (x : Nat) (r : ItemRecord) : List Text :=
  match r.detail with
  | .keyed n u =>
    [textLine r.description (amountText x r.amount)] ++
      (if 1 < n then [textLine (str "  " ++ decimal n ++ str " x " ++ amountText x u) []] else [])
  | .weighed net _ e u =>
    [textLine r.description (str "e=" ++ decimal e ++ str "g"),
     textLine (weightText net ++ str " kg @ " ++ amountText x u ++ str "/kg") (amountText x r.amount)]
  | .void n => [textLine (str "VOID OF ITEM " ++ decimal n) [], textLine r.description (amountText x r.amount)]

theorem printedText_item (x n : Nat) (r : ItemRecord) : printedText (itemLines x n r) = itemText x r := by
  rw [itemLines, itemText]
  rcases r.detail with ⟨quantity, unit⟩ | ⟨net, tare, division, price⟩ | item
  · dsimp only
    rw [printedText_append]
    split_ifs
    · rfl
    · rfl
  · rfl
  · rfl

theorem printedText_items (x : Nat) (items : List ItemRecord) :
    printedText (itemsLines x items) = items.flatMap (itemText x) := by
  rw [printedText, itemsLines, List.map_flatMap]
  refine Eq.trans ?_ (flatMap_numbered 1 items (itemText x))
  exact List.flatMap_congr fun line _ => printedText_item x line.1 line.2

/-- The text of a tender (R155). -/
def tenderText (x : Nat) (t : Tender) : List Text :=
  match t.card with
  | none => [textLine (str "CASH") (amountText x t.amount)]
  | some k =>
    [textLine (classText k.cls ++ str " ****" ++ k.lastDigits) (amountText x (t.amount + k.cashback)),
     textLine (str "  AUTH " ++ k.approval) []]

theorem printedText_tender (x n : Nat) (t : Tender) : printedText (tenderLines x n t) = tenderText x t := by
  rw [tenderLines, tenderText, Tender.settlementValue]
  rcases t.card with _ | k
  · rfl
  · rfl

theorem printedText_tenders (x : Nat) (tenders : List Tender) :
    printedText (tendersLines x tenders) = tenders.flatMap (tenderText x) := by
  rw [printedText, tendersLines, List.map_flatMap]
  refine Eq.trans ?_ (flatMap_numbered 1 tenders (tenderText x))
  exact List.flatMap_congr fun line _ => printedText_tender x line.1 line.2

theorem Context.cashback_eq (c : Context) :
    c.cashback = match c.tenders.getLast? with | some ⟨_, _, some k⟩ => k.cashback | _ => 0 := by
  rw [Context.cashback]
  rcases c.tenders.getLast? with _ | ⟨amount, time, _ | k⟩
  · rfl
  · rfl
  · rfl

theorem printedText_change (x : Nat) (c : Context) :
    printedText (changeLines x c) =
      (if 0 < c.cashback then [textLine (str "CASHBACK") (amountText x c.cashback)] else []) ++
        [if c.tenders = [] then textLine (str "REFUND") (amountText x c.changeDue)
         else textLine (str "CHANGE") (amountText x (c.changeDue - c.cashback))] := by
  rw [changeLines, printedText_append]
  refine congrArg₂ (· ++ ·) ?_ ?_
  · split_ifs
    · rfl
    · rfl
  · rcases c.tenders with _ | ⟨t, rest⟩
    · rfl
    · rfl

theorem printedText_loyalty (c : Context) :
    printedText (loyaltyLines c) =
      match c.loyalty with
      | none => []
      | some n => [textLine (str "LOYALTY " ++ List.replicate (n.length - 4) 0x2A#8 ++ n.drop (n.length - 4)) []] := by
  rw [loyaltyLines]
  rcases c.loyalty with _ | n
  · rfl
  · dsimp only
    rw [starred, ← List.append_assoc]
    rfl

/-- What a receipt and a void slip begin with. -/
def begunText (title : String) (header : List Text) (x : Nat) (c : Context) : List Text :=
  header.map (fun l => textLine l []) ++ [textLine (str title ++ decimal (c.txn.getD 0)) (timeText c.closeTime)] ++
    (if c.restarted = true then [textLine (str "NUMBERING RESTARTED") []] else []) ++ c.items.flatMap (itemText x)

theorem printedText_receipt (header : List Text) (x mirror : Nat) (c : Context) :
    printedText (receiptLines header x mirror c) =
      begunText "SALE " header x c ++ [textLine (str "SUBTOTAL") (amountText x c.subtotal)] ++
        c.tenders.flatMap (tenderText x) ++ printedText (changeLines x c) ++ printedText (loyaltyLines c) ++
        [textLine (str "SCALE CAL " ++ zeroPadded 4 (decimal mirror)) []] := by
  simp only [receiptLines, printedText_append, printedText_header, printedText_restart, printedText_items,
    printedText_tenders, begunText]
  rfl

theorem printedText_voidSlip (header : List Text) (x : Nat) (c : Context) :
    printedText (voidSlipLines header x c) =
      begunText "CANCELLED SALE " header x c ++ [textLine (str "NO PAYMENT") []] := by
  simp only [voidSlipLines, printedText_append, printedText_header, printedText_restart, printedText_items, begunText]
  rfl

theorem printedText_copy (header : List Text) (x mirror : Nat) (c : Context) :
    printedText (copyLines header x mirror c) =
      (if c.saleState = some .cancelled then printedText (voidSlipLines header x c)
        else printedText (receiptLines header x mirror c)) ++ [textLine (str "COPY") []] := by
  rw [copyLines, printedText_append, apply_ite printedText]
  rfl

theorem textLine_left (l : Text) : textLine l [] = l ++ List.replicate (32 - l.length) 0x20#8 := by
  simp [textLine, blanks]

theorem printedText_slip (lines : List Text) :
    printedText (slipLines lines) = lines.map fun l => l ++ List.replicate (32 - l.length) 0x20#8 := by
  rw [printedText, slipLines, List.map_map]
  refine Eq.trans (map_numbered 1 lines fun l => textLine l []) ?_
  simp only [textLine_left]

/-! ## The position (R150) -/

/-- Every job but a slip of no lines has a first line. -/
theorem Lane.jobLines_ne_nil {q : Position} {p : Lane} (h : q.kind = .slip → (p.printer.slip.getD []) ≠ []) :
    p.jobLines q ≠ [] := by
  rw [Lane.jobLines]
  rcases hkind : q.kind
  case slip =>
    rcases hslip : p.printer.slip.getD [] with _ | ⟨l, rest⟩
    · exact absurd hslip (h hkind)
    · simp [slipLines, numbered]
  case receipt => simp [receiptLines]
  case voidSlip => simp [voidSlipLines]
  case copy => simp [copyLines]

end Sys2Proof.Machine
end

section
/-! PROOFS. The composer's lines (R150 to R158, R161). -/

namespace Sys2Proof.Machine

/-- The ask for a job's next line, at the position given. -/
theorem Lane.askLine_at {p : Lane} {j : Job} {q : Position} (h : p.composer.position.getD (p.positionFor j) = q) :
    p.askLine j =
      match (p.jobLines q)[q.lines]? with
      | some line =>
        ({ p with composer := { p.composer with position := some { q with place := line.1, lines := q.lines + 1 } } },
          some (line.2, q.lines + 1))
      | none => ({ p with composer := { p.composer with position := none } }, none) := by
  rw [Lane.askLine, h]
  dsimp only
  rcases (p.jobLines q)[q.lines]? with _ | ⟨place, text⟩
  · rfl
  · rfl

/-- Settles O48: the ask, the lines of each kind of job, and the numbers they are written with. -/
theorem composerHandsOverTheNextLine : Obligations.ComposerHandsOverTheNextLine := by
  refine ⟨⟨fun j p => ?_, fun j p hnone hslip => ?_, fun q i p hctx => ?_, fun q lines p hkind hslip hlen => ⟨?_, ?_⟩,
    fun left right hfits => ⟨?_, length_textLine left right hfits⟩⟩,
    fun n => ?_, fun width t => rfl, fun x a => ⟨fun hx => ?_, fun hx => amountText_pointed hx a⟩, weightText_eq, rfl,
    fun t hhour hminute => ?_, rfl⟩
  · refine (Lane.askLine_at (q := p.composer.position.getD (p.positionFor j)) rfl).trans ?_
    rcases p.composer.position with _ | q
    · rfl
    · rfl
  · rcases hlines : p.jobLines (p.positionFor j) with _ | ⟨line, rest⟩
    · exact absurd hlines (Lane.jobLines_ne_nil hslip)
    · have hfirst : (p.jobLines (p.positionFor j))[(p.positionFor j).lines]? = some line := by
        rw [hlines]
        rfl
      have hq : p.composer.position.getD (p.positionFor j) = p.positionFor j := by
        rw [hnone]
        rfl
      rw [Lane.askLine_at hq, hfirst]
      exact ⟨line.2, rfl⟩
  · intro c amount text begun tenders back change loyalty receipt voided printed
    have hcashback : c.cashback = back := Context.cashback_eq c
    have hchange : printedText (changeLines q.exponent c) = change := by
      rw [printedText_change, hcashback]
    have hloyalty : printedText (loyaltyLines c) = loyalty := printedText_loyalty c
    have hreceipt : printedText (receiptLines q.header q.exponent p.store.mirror c) = receipt := by
      rw [printedText_receipt, hchange, hloyalty]
      rfl
    have hvoided : printedText (voidSlipLines q.header q.exponent c) = voided := printedText_voidSlip _ _ _
    have hnamed : p.namedCtx q.context = c := by rw [hctx]; rfl
    refine ⟨fun hkind => ?_, fun hkind => ?_, fun hkind => ?_⟩
    · rw [← hreceipt, ← hnamed]
      simp only [printed, Lane.jobLines, hkind]
      rfl
    · rw [← hvoided, ← hnamed]
      simp only [printed, Lane.jobLines, hkind]
      rfl
    · rw [← hreceipt, ← hvoided, ← hnamed]
      simp only [printed, Lane.jobLines, hkind]
      exact printedText_copy _ _ _ _
  · have hlines : p.jobLines q = slipLines lines := by
      simp only [Lane.jobLines, hkind, hslip, Option.getD_some]
    rw [hlines]
    exact printedText_slip lines
  · have hlines : p.jobLines q = slipLines lines := by
      simp only [Lane.jobLines, hkind, hslip, Option.getD_some]
    intro line hline
    have hmem : line.2 ∈ printedText (slipLines lines) := List.mem_map_of_mem (hlines ▸ hline)
    rw [printedText_slip] at hmem
    obtain ⟨l, hl, heq⟩ := List.mem_map.mp hmem
    have hl32 := hlen l hl
    rw [← heq, List.length_append, List.length_replicate]
    omega
  · rw [textLine, blanks, Nat.sub_sub]
  · obtain ⟨hdigits, hvalue, hne, hlead⟩ := decimal_spec n
    refine ⟨hdigits, hvalue, ?_, fun hpos => ⟨hne, hlead hpos⟩⟩
    rintro rfl
    decide +kernel
  · rw [amountText, pointed, if_pos hx]
  · rw [timeText, twoDigits_eq (by omega), twoDigits_eq hminute]
    rfl

end Sys2Proof.Machine
end

section
/-! PROOFS. Dot rows, feeds and cuts (R168 to R174, R177). -/

namespace Sys2Proof.Machine

/-! ## The starts (R168, R170, R173) -/

theorem Lane.startRow_eq (p : Lane) :
    p.startRow =
      if p.printer.paper = .out then p.pauseHead .paperOut
      else if p.printer.cover = .opened then p.pauseHead .coverOpen
      else if p.printer.supply = .low then p.pauseHead .supplyLow
      else if p.printer.sensorValid = false then p.pauseHead .headSensor
      else if 75 ≤ p.printer.temperature then p.pauseHead .headHot
      else p.beginRow p.printer.nextDots := by
  have hsensor : (!p.printer.sensorValid) = true ↔ p.printer.sensorValid = false := by
    rw [Bool.not_eq_true']
  rw [Lane.startRow, Printer.rowObstacle]
  simp only [hsensor]
  split_ifs <;> rfl

theorem Lane.strobeLimit_eq (p : Lane) : p.strobeLimit = if p.till.driver = none then 64 else 16 := by
  rw [Lane.strobeLimit, Lane.energised]
  rcases p.till.driver with _ | g
  · rfl
  · rfl

theorem Lane.strobeLimit_pos (p : Lane) : 0 < p.strobeLimit := by
  rw [Lane.strobeLimit]
  split_ifs
  · decide
  · decide

theorem strobeTime_eq (t : Int) : (strobeTime t : Int) = max 280 (min 640 (480 - 4 * (t - 25))) := by
  rw [strobeTime]
  split_ifs
  · omega
  · omega
  · omega

theorem rowPeriod_eq (t : Int) (groups : Nat) :
    rowPeriod t groups = (if 65 ≤ t then 2 else 1) * max 1000 (groups * strobeTime t + 100) := by
  rw [rowPeriod]
  split_ifs
  · rfl
  · rw [Nat.one_mul]

/-- The row of a line or the tail row count; a cut has no row (R170, R173). -/
def Printer.rowFields (e : Printer) : List Field :=
  match e.phase with
  | .line => [Field.u8 e.row]
  | .tail => [Field.u8 e.tailRows]
  | .cut => []

theorem Printer.placeFields_eq (e : Printer) : e.placeFields = [Field.name e.phase.code] ++ e.rowFields := by
  rw [Printer.placeFields, Printer.rowFields]
  rcases e.phase
  · rfl
  · rfl
  · rfl

/-- The head job paused, with PRINT_PAUSED (R170, R173). -/
theorem Lane.pauseHead_eq {p : Lane} {j : Job} {rest : List Job} (h : p.printer.queue = j :: rest) (r : PauseReason) :
    p.pauseHead r =
      ({ p with printer := { p.printer with queue := { j with state := .paused r } :: rest, engine := .paused } }).event
        0x99#8
        ([Field.name r.code] ++ j.fields ++ [Field.u16 p.printer.lineNumber, Field.name p.printer.phase.code] ++
          p.printer.rowFields) := by
  have hhead : p.headJob = some j := by rw [Lane.headJob, h]; rfl
  have hset : p.printer.setHead (.paused r) = { p.printer with queue := { j with state := .paused r } :: rest } := by
    rw [Printer.setHead, h]
  have hfields : ∀ a : List Field, a ++ [Field.u16 p.printer.lineNumber] ++ p.printer.placeFields =
      a ++ [Field.u16 p.printer.lineNumber, Field.name p.printer.phase.code] ++ p.printer.rowFields := by
    intro a
    rw [Printer.placeFields_eq, List.append_assoc, List.append_assoc]
    rfl
  rw [Lane.pauseHead, hhead]
  dsimp only
  rw [Lane.withPrinter, hset, hfields]

theorem Job.fields_eq (j : Job) :
    j.fields =
      .name j.kind.code :: ((match j.context with | some i => [Field.present, Field.u8 i] | none => [Field.absent]) ++
        (match j.txn with | some n => [Field.present, Field.u16 n] | none => [Field.absent])) := by
  rw [Job.fields]
  rcases j.context with _ | i <;> rcases j.txn with _ | n <;> rfl

/-! ## The ends -/

theorem Lane.rowEnd_of_none {p : Lane} (h : p.printer.figures = none) : p.rowEnd = p := by
  rw [Lane.rowEnd, h]

theorem Lane.cutEnd_of_none {p : Lane} (h : p.printer.cutUntil = none) : p.cutEnd = p := by
  rw [Lane.cutEnd, h]

/-- The lane as its row in flight ends. -/
def Lane.rowDone (r : RowFigures) (p : Lane) : Lane :=
  { p with now := max p.now r.ends, printer := { p.printer with figures := none } }

/-- What a row's end leads to, for a feed or for the head job. -/
def Lane.afterRow (p : Lane) : Lane :=
  match p.printer.feed with
  | some f => p.feedRowEnd f
  | none => p.jobRowEnd

theorem Lane.rowEnd_of_some {p : Lane} {r : RowFigures} (h : p.printer.figures = some r) :
    p.rowEnd = if p.printer.draining = true then (p.rowDone r).drained else (p.rowDone r).afterRow := by
  have hdraining : (p.rowDone r).printer.draining = p.printer.draining := rfl
  have hfeed : (p.rowDone r).printer.feed = p.printer.feed := rfl
  have hdone : ((p.elapseTo r.ends).withPrinter fun e => { e with figures := none }) = p.rowDone r := rfl
  rw [Lane.rowEnd, h]
  dsimp only
  rw [hdone, hdraining, Lane.afterRow, hfeed]
  rcases p.printer.draining
  · rcases p.printer.feed with _ | f
    · rfl
    · rfl
  · rfl

/-- The lane as its cut in flight ends. -/
def Lane.cutDone (t : Nat) (p : Lane) : Lane :=
  { p with now := max p.now t, printer := { p.printer with cutUntil := none } }

theorem Lane.cutEnd_of_some {p : Lane} {t : Nat} (h : p.printer.cutUntil = some t) :
    p.cutEnd =
      if p.printer.draining = true then (p.cutDone t).drained
      else if p.printer.cutterHome = false then (p.cutDone t).pauseHead .cutterJam
      else (p.cutDone t).jobEnd := by
  rw [Lane.cutEnd, h]
  refine if_congr Iff.rfl rfl ?_
  have hhome : ¬p.printer.cutterHome = true ↔ p.printer.cutterHome = false := by rw [Bool.not_eq_true]
  exact (ite_not (p.printer.cutterHome = true) _ _).symm.trans (if_congr hhome rfl rfl)

/-- The end of the row of a line (R168). -/
theorem Lane.jobRowEnd_line {p : Lane} {j : Job} {rest : List Job} (hphase : p.printer.phase = .line)
    (hqueue : p.printer.queue = j :: rest) :
    p.jobRowEnd =
      if p.printer.row < 29 then
        ({ p with printer := { p.printer with row := p.printer.row + 1 } } : Lane).startRow
      else p.nextLine j := by
  have hhead : p.headJob = some j := by rw [Lane.headJob, hqueue]; rfl
  rw [Lane.jobRowEnd, hphase, hhead]
  exact if_congr (by omega) rfl rfl

theorem Lane.jobRowEnd_tail {p : Lane} {j : Job} {rest : List Job} (hphase : p.printer.phase = .tail)
    (hqueue : p.printer.queue = j :: rest) :
    p.jobRowEnd =
      if p.printer.tailRows < 39 then
        ({ p with printer := { p.printer with tailRows := p.printer.tailRows + 1 } } : Lane).startRow
      else ({ p with printer := { p.printer with tailRows := p.printer.tailRows + 1 } } : Lane).startCut := by
  have hhead : p.headJob = some j := by rw [Lane.headJob, hqueue]; rfl
  rw [Lane.jobRowEnd, hphase, hhead]
  exact if_congr Nat.succ_lt_succ_iff rfl rfl

theorem Lane.jobRowEnd_empty {p : Lane} (hqueue : p.printer.queue = []) : p.jobRowEnd = p := by
  have hhead : p.headJob = none := by rw [Lane.headJob, hqueue]; rfl
  rw [Lane.jobRowEnd, hhead]
  rcases p.printer.phase <;> rfl

theorem Lane.jobRowEnd_cut {p : Lane} (hphase : p.printer.phase = .cut) : p.jobRowEnd = p := by
  rw [Lane.jobRowEnd, hphase]

/-- The head job's end (R174). -/
theorem Lane.jobEnd_eq {p : Lane} {j : Job} {rest : List Job} (h : p.printer.queue = j :: rest) :
    p.jobEnd =
      ((({ p with printer := { p.printer with
          queue := rest, line := none, lineNumber := 0, phase := .line, row := 0, tailRows := 0 } } : Lane).jobReport
            j).freePlace.printDone j p.printer.lineNumber).startHead := by
  have hhead : p.headJob = some j := by rw [Lane.headJob, h]; rfl
  rw [Lane.jobEnd, hhead]
  dsimp only
  rw [Lane.withPrinter, h]
  rfl

theorem Lane.jobEnd_empty {p : Lane} (h : p.printer.queue = []) : p.jobEnd = p := by
  have hhead : p.headJob = none := by rw [Lane.headJob, h]; rfl
  rw [Lane.jobEnd, hhead]

/-! ## The report of a job's end (R23) -/

theorem Lane.copyEnd_eq (i : Fin 6) (p : Lane) :
    p.copyEnd i =
      if (p.ctx i).role = .printHeld then (p.setCtx i { p.ctx i with pin := 0 }).freeCtx i
      else p.setCtx i { p.ctx i with pin := 0 } := by
  rw [Lane.copyEnd]
  dsimp only
  rw [Lane.ctx_setCtx, if_pos rfl]

end Sys2Proof.Machine
end

section
/-! PROOFS. Rows and cuts run, pause and end (R168 to R174, R177). -/

namespace Sys2Proof.Machine

theorem Lane.drained_eq (p : Lane) :
    p.drained = ({ p with printer := { p.printer with draining := false } } : Lane).startHead := rfl

theorem Lane.feedRowEnd_eq (f : Feed) (p : Lane) :
    p.feedRowEnd f =
      let q : Lane := { p with printer := { p.printer with feed := some ⟨f.asked, f.fed + 1⟩ } }
      let done (outcome : List Field) : Lane :=
        (({ q with printer := { q.printer with feed := none } }).event 0x9C#8
          (outcome ++ [Field.u8 (f.fed + 1)])).startHead
      if f.asked ≤ f.fed + 1 then done [.name 1]
      else if p.printer.paper = .out then done [.name 0, .name (PauseReason.code .paperOut)]
      else if p.printer.cover = .opened then done [.name 0, .name (PauseReason.code .coverOpen)]
      else q.beginRow [] := rfl

theorem Lane.afterRow_of_feed {p : Lane} {f : Feed} (h : p.printer.feed = some f) : p.afterRow = p.feedRowEnd f := by
  rw [Lane.afterRow, h]

theorem Lane.afterRow_of_job {p : Lane} (h : p.printer.feed = none) : p.afterRow = p.jobRowEnd := by
  rw [Lane.afterRow, h]

/-- The figures a row begins with (R168, R169). -/
theorem Lane.beginRow_figures (dots : List Nat) (p : Lane) (limit : Nat) (hlimit : p.strobeLimit = limit) :
    ∃ f : RowFigures,
      p.beginRow dots = { p with printer := { p.printer with figures := some f, limit := limit } } ∧
      f.black = dots.length ∧ f.limit = limit ∧ dots.length ≤ f.groups * limit ∧ f.groups * limit < dots.length + limit ∧
      f.fires.length = f.groups ∧ f.fires.flatten = dots ∧
      (∀ k < f.groups, f.fires[k]? = some ((dots.drop (k * limit)).take limit)) ∧
      (∀ k into, into < f.strobe → f.firing (p.now + k * f.strobe + into) = f.fires.getD k []) ∧
      (f.strobe : Int) = max 280 (min 640 (480 - 4 * (p.printer.temperature - 25))) ∧
      f.period = (if 65 ≤ p.printer.temperature then 2 else 1) * max 1000 (f.groups * f.strobe + 100) ∧
      f.ends = p.now + f.period := by
  have hpos : 0 < limit := hlimit ▸ p.strobeLimit_pos
  obtain ⟨hcover, hleast⟩ := strobeGroups_bounds dots.length limit hpos
  refine ⟨rowFigures p.now p.printer.temperature dots limit, ?_, rfl, rfl, hcover, hleast, length_groupDots _ _,
    groupDots_flatten _ _ hpos, fun k hk => getElem_groupDots _ _ k hk, fun k into hinto => firing_group _ _ k into rfl hinto,
    strobeTime_eq _, rowPeriod_eq _ _, rfl⟩
  rw [Lane.beginRow, hlimit]
  rfl

/-- Settles O49: the starts and the figures of a row, then each end, by what stands in flight. -/
theorem rowsAndCutsRunPauseAndEnd : Obligations.RowsAndCutsRunPauseAndEnd := by
  refine ⟨⟨fun p => (Lane.startRow_eq p).trans ?_, fun p => rfl,
    fun text row => ⟨rowDots_blank text row, rowDots_sorted text row, mem_rowDots text row⟩,
    fun dots p => Lane.beginRow_figures dots p _ (Lane.strobeLimit_eq p), fun r j rest p hqueue => ?_, Job.fields_eq⟩,
    fun s => ⟨fun hnone => advance_eq (Lane.rowEnd_of_none hnone), fun hnone => advance_eq (Lane.cutEnd_of_none hnone)⟩,
    fun r s hrow => ?_, fun t s hcut => ?_, fun j p => ?_⟩
  · rfl
  · exact Lane.pauseHead_eq hqueue r
  · intro e p
    refine (advance_eq (Lane.rowEnd_of_some hrow)).trans ?_
    refine congrArg (fun q => s.becomes q) ?_
    refine if_congr Iff.rfl rfl ?_
    have hdone : s.toLane.rowDone r = p := rfl
    rw [hdone]
    split
    · next f hfeed => exact (Lane.afterRow_of_feed (p := p) hfeed).trans (Lane.feedRowEnd_eq f p)
    · next j rest hfeed hphase hqueue =>
      exact (Lane.afterRow_of_job (p := p) hfeed).trans (Lane.jobRowEnd_line (p := p) hphase hqueue)
    · next j rest hfeed hphase hqueue =>
      exact (Lane.afterRow_of_job (p := p) hfeed).trans (Lane.jobRowEnd_tail (p := p) hphase hqueue)
    · next hfeed hnoline hnotail =>
      rw [Lane.afterRow_of_job (p := p) hfeed]
      rcases hqueue : e.queue with _ | ⟨j, rest⟩
      · exact Lane.jobRowEnd_empty (p := p) hqueue
      · rcases hphase : e.phase
        · exact absurd hqueue (hnoline j rest hphase)
        · exact absurd hqueue (hnotail j rest hphase)
        · exact Lane.jobRowEnd_cut (p := p) hphase
  · intro e p
    refine (advance_eq (Lane.cutEnd_of_some hcut)).trans ?_
    refine congrArg (fun q => s.becomes q) ?_
    refine if_congr Iff.rfl rfl (if_congr Iff.rfl rfl ?_)
    have hdone : s.toLane.cutDone t = p := rfl
    rw [hdone]
    split
    · next hqueue => exact Lane.jobEnd_empty (p := p) hqueue
    · next j rest hqueue => exact Lane.jobEnd_eq (p := p) hqueue
  · rw [Lane.jobReport]
    rcases j.kind <;> rcases j.context with _ | i
    case copy.some => exact Lane.copyEnd_eq i p
    all_goals rfl

end Sys2Proof.Machine
end

section
/-! PROOFS. The queue, its head and the backlog (R123, R164, R165). -/

namespace Sys2Proof.Machine

theorem Lane.queueFull_iff (p : Lane) : p.queueFull = true ↔ 4 ≤ p.printer.queue.length := by
  rw [Lane.queueFull, decide_eq_true_iff]

/-- The composer's answer leaves the print engine. -/
theorem Lane.askLine_printer (j : Job) (p : Lane) : (p.askLine j).1.printer = p.printer := by
  rw [Lane.askLine]
  split
  · rfl
  · rfl

theorem Lane.nextLine_eq (j : Job) (p : Lane) :
    p.nextLine j =
      match p.askLine j with
      | (t, some (text, number)) =>
        ({ t with printer := { p.printer with line := some text, lineNumber := number, phase := .line, row := 0 } } :
          Lane).startRow
      | (t, none) => ({ t with printer := { p.printer with phase := .tail, row := 0, tailRows := 0 } } : Lane).startRow := by
  have hprinter := Lane.askLine_printer j p
  rw [Lane.nextLine]
  rcases hasked : p.askLine j with ⟨t, _ | ⟨text, number⟩⟩
  · rw [hasked] at hprinter
    dsimp only at hprinter ⊢
    rw [← hprinter]
    rfl
  · rw [hasked] at hprinter
    dsimp only at hprinter ⊢
    rw [← hprinter]
    rfl

theorem Lane.startHead_empty {p : Lane} (h : p.printer.queue = []) :
    p.startHead = { p with printer := { p.printer with engine := .idle } } := by
  have hhead : p.headJob = none := by rw [Lane.headJob, h]; rfl
  rw [Lane.startHead, hhead]
  rfl

theorem Lane.startHead_eq {p : Lane} {j : Job} {rest : List Job} (h : p.printer.queue = j :: rest) :
    p.startHead =
      ({ p with printer := { p.printer with
          queue := { j with state := .printing } :: rest, engine := .running } } : Lane).nextLine j := by
  have hhead : p.headJob = some j := by rw [Lane.headJob, h]; rfl
  have hset : p.printer.setHead .printing = { p.printer with queue := { j with state := .printing } :: rest } := by
    rw [Printer.setHead, h]
  rw [Lane.startHead, hhead]
  dsimp only
  rw [Lane.withPrinter, hset]

/-- Settles O50: a job placed or put back, the head started, and a freed place offered. -/
theorem jobIsQueuedStartedOrBacklogged : Obligations.JobIsQueuedStartedOrBacklogged := by
  refine ⟨fun k i p => ?_, fun j p => rfl, fun p => Lane.startHead_empty, fun j rest p hqueue =>
    ⟨Lane.startHead_eq hqueue, fun k q => ⟨Lane.askLine_printer k q, Lane.nextLine_eq k q⟩⟩, fun p => ?_⟩
  · exact if_congr p.queueFull_iff rfl rfl
  · rw [Lane.freePlace]
    rcases p.sale.backlog with _ | b
    · rfl
    · exact if_congr p.queueFull_iff rfl rfl

end Sys2Proof.Machine
end

section
/-! PROOFS. The printer's inputs, PRINT_RESUME and the restart (R166, R167, R171, R172). -/

namespace Sys2Proof.Machine

/-! ## The head temperature (R167, R171) -/

theorem readingValid_iff (t : Int) : readingValid t = true ↔ -20 ≤ t ∧ t ≤ 120 := by
  rw [readingValid, Bool.and_eq_true, decide_eq_true_iff, decide_eq_true_iff]

/-- The print engine after a reading, the next one due. -/
def Printer.taking (t : Int) (next : Nat) (e : Printer) : Printer :=
  if -20 ≤ t ∧ t ≤ 120 then { e with temperature := t, sensorValid := true, lastReading := t, nextReading := next }
  else { e with sensorValid := false, lastReading := t, nextReading := next }

theorem Printer.read_taking (t : Int) (next : Nat) (e : Printer) :
    { e.read t with nextReading := next } = e.taking t next := by
  rw [Printer.read, Printer.taking]
  by_cases hvalid : -20 ≤ t ∧ t ≤ 120
  · rw [if_pos ((readingValid_iff t).mpr hvalid), if_pos hvalid]
  · rw [if_neg ((readingValid_iff t).not.mpr hvalid), if_neg hvalid]

theorem Lane.pausedFor_empty {p : Lane} (h : p.printer.queue = []) : p.pausedFor = none := by
  have hhead : p.headJob = none := by rw [Lane.headJob, h]; rfl
  rw [Lane.pausedFor, hhead]

theorem Lane.pausedFor_iff {p : Lane} {j : Job} {rest : List Job} (h : p.printer.queue = j :: rest) (r : PauseReason) :
    p.pausedFor = some r ↔ j.state = .paused r := by
  have hhead : p.headJob = some j := by rw [Lane.headJob, h]; rfl
  rw [Lane.pausedFor, hhead]
  rcases j with ⟨kind, ctx, txn, _ | _ | r' | _⟩ <;> simp

/-- A pause ended: the head job PRINTING again (R171, R172). -/
theorem Lane.endPause_eq {p : Lane} {j : Job} {rest : List Job} (h : p.printer.queue = j :: rest) (cause : Nat) :
    p.endPause cause =
      ({ p with printer := { p.printer with
          queue := { j with state := .printing } :: rest, engine := .running, row := 0, tailRows := 0 } } : Lane).event
        0x9A#8 [.name cause] := by
  have hset : p.printer.setHead .printing = { p.printer with queue := { j with state := .printing } :: rest } := by
    rw [Printer.setHead, h]
  rw [Lane.endPause, Lane.withPrinter, hset]

/-- The lane after a reading, before a pause is looked at. -/
def Lane.reading (t : Int) (p : Lane) : Lane :=
  { p with
    now := max p.now p.printer.nextReading
    printer := p.printer.taking t (max p.now p.printer.nextReading + 100000) }

theorem Lane.temperatureReading_eq (t : Int) (p : Lane) :
    p.temperatureReading t =
      if (p.reading t).pausedFor = some .headHot ∧ -20 ≤ t ∧ t ≤ 60 then ((p.reading t).endPause 0).restartHead
      else p.reading t := by
  have hread : ((p.elapseTo p.printer.nextReading).withPrinter fun e =>
      { e.read t with nextReading := (p.elapseTo p.printer.nextReading).now + 100000 }) = p.reading t := by
    rw [Lane.withPrinter, Printer.read_taking]
    rfl
  rw [Lane.temperatureReading]
  dsimp only
  rw [hread]
  refine if_congr ?_ rfl rfl
  rw [readingValid_iff]
  constructor
  · rintro ⟨hpaused, ⟨hlow, -⟩, hcool⟩
    exact ⟨hpaused, hlow, hcool⟩
  · rintro ⟨hpaused, hlow, hcool⟩
    exact ⟨hpaused, ⟨hlow, by omega⟩, hcool⟩

/-! ## PRINT_RESUME (R172) -/

theorem exec_printResume {s : State} (h : s.takes) (tag : Byte) :
    exec (.printResume tag) s = s.answering (doPrintResume (s.toLane.begun 0x68#8 tag)) :=
  request_answering (f := ⟨0x68#8, tag, []⟩) h rfl doPrintResume

theorem Lane.resumePrint_eq {p : Lane} {j : Job} {rest : List Job} (h : p.printer.queue = j :: rest) :
    p.resumePrint =
      ({ p with
          printer := { p.printer with
            queue := { j with state := .printing } :: rest, engine := .running, row := 0, tailRows := 0
            restartDue := true }
          link := p.link.handEvents [eventOf 0x9A#8 [.name 1]] },
        ok ([.name j.kind.code] ++ optional (fun i => [.u8 (Fin.val i)]) j.context ++ [.u16 p.printer.lineNumber])) := by
  have hhead : p.headJob = some j := by rw [Lane.headJob, h]; rfl
  rw [Lane.resumePrint, hhead]
  dsimp only
  rw [Lane.endPause_eq h]
  rfl

/-- Settles O51: a reading, the other inputs, and the two steps of a resumption. -/
theorem printerInputsAreTakenAndPausesEnd : Obligations.PrinterInputsAreTakenAndPausesEnd := by
  refine ⟨⟨fun t s => ?_, fun s => ⟨fun l => rfl, fun l => rfl, fun l => rfl, fun l => rfl, fun l => ?_⟩⟩,
    fun tag s hs => ?_, fun s => ?_⟩
  · intro now e p
    have hp : s.toLane.reading t = p := rfl
    refine (advance_eq (Lane.temperatureReading_eq t s.toLane)).trans ?_
    refine congrArg (fun q => s.becomes q) ?_
    rw [hp]
    rcases hqueue : e.queue with _ | ⟨j, rest⟩
    · have hnone : p.pausedFor = none := Lane.pausedFor_empty hqueue
      rw [hnone]
      exact if_neg fun h => by simp at h
    · have hpaused : p.pausedFor = some .headHot ↔ j.state = .paused .headHot := Lane.pausedFor_iff hqueue _
      refine if_congr (and_congr_left' hpaused) ?_ rfl
      rw [Lane.endPause_eq (p := p) hqueue]
      rfl
  · refine (advance_eq (q := s.toLane.printerInput (.nearEnd l)) rfl).trans ?_
    rw [Lane.printerInput]
    dsimp only
    split_ifs
    · rfl
    · rfl
  · intro e reason
    have hreason : (s.toLane.begun 0x68#8 tag).pausedFor = reason := by
      have hqueue : (s.toLane.begun 0x68#8 tag).printer.queue = e.queue := rfl
      rw [Lane.pausedFor, Lane.headJob, hqueue]
      dsimp only [reason]
      rcases e.queue with _ | ⟨⟨kind, ctx, txn, _ | _ | r | _⟩, rest⟩ <;> rfl
    rw [exec_printResume hs, doPrintResume, hreason]
    refine answering_check (by simp [e]) rfl fun _ => ?_
    refine answering_check (by simp) rfl fun _ => ?_
    refine answering_check (by simp [e]) rfl fun _ => ?_
    refine answering_check (by simp [e, Printer.atCut]) rfl fun _ => ?_
    refine answering_check (by simp [e]) rfl fun _ => ?_
    refine answering_check (by simp [e]) rfl fun _ => ?_
    refine answering_check (by simp [e, Printer.atCut]) rfl fun _ => ?_
    rw [checked_nil]
    rcases hqueue : e.queue with _ | ⟨j, rest⟩
    · have hhead : (s.toLane.begun 0x68#8 tag).headJob = none := by
        have hbegun : (s.toLane.begun 0x68#8 tag).printer.queue = [] := hqueue
        rw [Lane.headJob, hbegun]
        rfl
      rw [Lane.resumePrint, hhead]
      exact answering_same _ _ _ _
    · have hbegun : (s.toLane.begun 0x68#8 tag).printer.queue = j :: rest := hqueue
      rw [Lane.resumePrint_eq hbegun]
      refine (answering_after_events rfl _).trans ?_
      rcases j with ⟨kind, _ | i, txn, state⟩
      · rfl
      · rfl
  · by_cases hdue : s.printer.restartDue = true
    · rw [if_pos hdue]
      exact advance_eq (if_pos hdue)
    · rw [if_neg hdue]
      exact advance_eq (if_neg hdue)

end Sys2Proof.Machine
end

section
/-! PROOFS. PRINT_ABORT, FEED, REPRINT, SLIP and HEADER_SET (R159 to R163, R176, R177). -/

namespace Sys2Proof.Machine

theorem exec_printAbort {s : State} (h : s.takes) (tag : Byte) :
    exec (.printAbort tag) s = s.answering (doPrintAbort (s.toLane.begun 0x69#8 tag)) :=
  request_answering (f := ⟨0x69#8, tag, []⟩) h rfl doPrintAbort

theorem exec_feed {s : State} (h : s.takes) (tag : Byte) (rows : Nat) :
    exec (.feed tag rows) s = s.answering (doFeed rows (s.toLane.begun 0x6A#8 tag)) :=
  request_answering (f := (requestFrame (.feed tag rows)).getD ⟨0, 0, []⟩) h rfl (doFeed rows)

theorem exec_reprint {s : State} (h : s.takes) (tag : Byte) :
    exec (.reprint tag) s = s.answering (doReprint (s.toLane.begun 0x60#8 tag)) :=
  request_answering (f := ⟨0x60#8, tag, []⟩) h rfl doReprint

theorem exec_slip {s : State} (h : s.takes) (tag : Byte) (lines : List Text) :
    exec (.slip tag lines) s = s.answering (doSlip lines (s.toLane.begun 0x61#8 tag)) :=
  request_answering (f := (requestFrame (.slip tag lines)).getD ⟨0, 0, []⟩) h rfl (doSlip lines)

theorem exec_headerSet {s : State} (h : s.takes) (tag : Byte) (lines : List Text) (exponent : Nat) :
    exec (.headerSet tag lines exponent) s = s.answering (doHeaderSet lines exponent (s.toLane.begun 0x62#8 tag)) :=
  request_answering (f := (requestFrame (.headerSet tag lines exponent)).getD ⟨0, 0, []⟩) h rfl (doHeaderSet lines exponent)

/-! ## PRINT_ABORT (R176) -/

theorem Printer.wholeLines_eq (state : JobState) (e : Printer) :
    e.wholeLines state =
      if state = .queued then 0 else if e.phase = .line then e.lineNumber - 1 else e.lineNumber := by
  unfold Printer.wholeLines
  rcases state with _ | _ | r | _ <;> rcases e.phase <;> rfl

/-- The lane without the removed slip. -/
def Lane.withoutSlip (j : Job) (p : Lane) : Lane :=
  if j.state = .queued ∨ j.state = .done then
    { p with printer := { p.printer with queue := p.printer.queue.eraseP Job.isSlip, slip := none } }
  else
    { p with
      composer := { p.composer with position := none }
      printer := { p.printer with
        queue := p.printer.queue.eraseP Job.isSlip, slip := none, line := none, lineNumber := 0, phase := .line, row := 0
        tailRows := 0, draining := p.printer.figures.isSome || p.printer.cutUntil.isSome, restartDue := false } }

theorem Lane.removeSlip_eq (j : Job) (p : Lane) : p.removeSlip j = p.withoutSlip j := by
  rw [Lane.removeSlip, Lane.withoutSlip]
  rcases j with ⟨kind, ctx, txn, _ | _ | r | _⟩ <;> rfl

theorem Lane.afterRemoval_eq {j : Job} {p : Lane} {inFlight : Bool}
    (h : ¬(j.state = .queued ∨ j.state = .done) → p.printer.draining = inFlight) :
    p.afterRemoval j = if j.state = .queued ∨ j.state = .done ∨ inFlight = true then p else p.startHead := by
  rw [Lane.afterRemoval]
  rcases j with ⟨kind, ctx, txn, _ | _ | r | _⟩
  · rfl
  · rw [← h (by simp)]
    exact if_congr (by simp) rfl rfl
  · rw [← h (by simp)]
    exact if_congr (by simp) rfl rfl
  · rfl

theorem Lane.withoutSlip_draining {j : Job} {p : Lane} (h : ¬(j.state = .queued ∨ j.state = .done)) :
    (p.withoutSlip j).printer.draining = (p.printer.figures.isSome || p.printer.cutUntil.isSome) := by
  rw [Lane.withoutSlip, if_neg h]

/-- The lane after a slip's removal: a freed place offered, PRINT_DONE ABORTED, and the next head started. -/
def Lane.slipAborted (j : Job) (p : Lane) : Lane :=
  let said := (p.withoutSlip j).freePlace.printAborted j
    (if j.state = .queued then 0 else if p.printer.phase = .line then p.printer.lineNumber - 1 else p.printer.lineNumber)
  if j.state = .queued ∨ j.state = .done ∨ (p.printer.figures.isSome || p.printer.cutUntil.isSome) = true then said
  else said.startHead

theorem Lane.abortSlip_eq {p : Lane} {j : Job} (h : p.printer.queue.find? Job.isSlip = some j) :
    p.abortSlip = (p.slipAborted j, ok [.u8 (p.slipAborted j).printer.queue.length]) := by
  have hafter : ((p.removeSlip j).freePlace.printAborted j (p.printer.wholeLines j.state)).afterRemoval j =
      p.slipAborted j := by
    rw [Lane.slipAborted, Lane.removeSlip_eq, Printer.wholeLines_eq]
    refine Lane.afterRemoval_eq fun hstate => ?_
    refine Eq.trans ?_ (Lane.withoutSlip_draining hstate)
    exact Lane.freePlace_draining (p.withoutSlip j)
  rw [Lane.abortSlip, h]
  dsimp only
  rw [hafter]

/-! ## SLIP and HEADER_SET (R160, R162) -/

/-- Lines of at most 32 printable characters. -/
def linesLegal (lines : List Text) : Prop :=
  ∀ l ∈ lines, l.length ≤ 32 ∧ ∀ c ∈ l, 0x20 ≤ c.toNat ∧ c.toNat ≤ 0x7E

theorem slip_check (lines : List Text) :
    (lines.length < 1 || 40 < lines.length || !lines.all lineOk) = true ↔
      lines.length < 1 ∨ 40 < lines.length ∨ ¬linesLegal lines := by
  rw [Bool.or_eq_true, Bool.or_eq_true, decide_eq_true_iff, decide_eq_true_iff, Bool.not_eq_true', linesOk_eq_false,
    or_assoc]
  rfl

theorem headerSet_check (lines : List Text) (exponent : Nat) :
    (4 < lines.length || !lines.all lineOk || 3 < exponent) = true ↔
      4 < lines.length ∨ ¬linesLegal lines ∨ 3 < exponent := by
  rw [Bool.or_eq_true, Bool.or_eq_true, decide_eq_true_iff, decide_eq_true_iff, Bool.not_eq_true', linesOk_eq_false,
    or_assoc]
  rfl

theorem headerFields_eq (header : List Text) (exponent : Nat) :
    headerFields header exponent = .count header.length :: (header.map fun l => Field.text l) ++ [.u8 exponent] := by
  have hflat : header.flatMap (fun l => [Field.text l]) = header.map fun l => Field.text l :=
    (List.map_eq_flatMap ..).symm
  rw [headerFields, listed, hflat]

/-- The check of REPRINT and SLIP on the queue. -/
theorem Lane.copyWaiting_eq {p : Lane} {i : Fin 6} (h : p.firstOf .lastPrinted = some i) :
    p.copyWaiting = decide ((p.ctx i).pin ≠ 0) := by
  rw [Lane.copyWaiting, h]

theorem Lane.reprint_eq {p : Lane} {i : Fin 6} (h : p.firstOf .lastPrinted = some i) :
    p.reprint =
      ((p.setCtx i { p.ctx i with pin := 1 }).appendJob ⟨.copy, some i, (p.ctx i).txn, .queued⟩,
        accepted [.u8 i, .u16 ((p.ctx i).txn.getD 0)]) := by
  rw [Lane.reprint, h]
  dsimp only
  rw [Lane.jobFor, Lane.ctx_setCtx_same]

/-- Settles O52: each request's checks in order, then its action. -/
theorem abortFeedCopySlipAndHeaderAreTaken : Obligations.AbortFeedCopySlipAndHeaderAreTaken := by
  refine ⟨⟨fun tag s hs => ?_, fun tag rows s hs => ?_⟩, fun tag lines exponent s hs =>
    ⟨?_, fun hbad => ?_, fun hmin hmax hlegal => ?_, fun hkey => ?_, fun hkey hbad => ?_, fun hkey hmax hlegal hexp => ?_⟩⟩
  · intro e
    rw [exec_printAbort hs, doPrintAbort]
    refine answering_check (by simp [e]) rfl fun _ => ?_
    split
    · next hfind =>
      have hnone : (s.toLane.begun 0x69#8 tag).printer.queue.any Job.isSlip = false := by
        rw [List.any_eq_false]
        exact List.find?_eq_none.mp hfind
      exact answering_check_fails (by simpa using hnone)
    · next j hfind =>
      have hslip : (s.toLane.begun 0x69#8 tag).printer.queue.find? Job.isSlip = some j := hfind
      have hany : (s.toLane.begun 0x69#8 tag).printer.queue.any Job.isSlip = true := by
        rw [List.any_eq_true]
        exact ⟨j, List.mem_of_find?_eq_some hslip, List.find?_some hslip⟩
      rw [checked_passes (by rw [hany]; rfl), checked_nil, Lane.abortSlip_eq hslip]
      rfl
  · rw [exec_feed hs, doFeed]
    refine answering_check (by simp) rfl fun _ => ?_
    refine answering_check (by simp) rfl fun _ => ?_
    refine answering_check (by simp) rfl fun _ => ?_
    refine answering_check (by simp) rfl fun _ => ?_
    exact answering_changed rfl _
  · rw [exec_reprint hs, doReprint]
    rcases hlast : s.toLane.firstOf .lastPrinted with _ | i
    · have hnone : (s.toLane.begun 0x60#8 tag).firstOf .lastPrinted = none := hlast
      exact answering_check_fails (by rw [hnone]; rfl)
    · have hsome : (s.toLane.begun 0x60#8 tag).firstOf .lastPrinted = some i := hlast
      rw [checked_passes (by rw [hsome]; rfl), Lane.copyWaiting_eq hsome]
      refine answering_check (by rw [decide_eq_true_iff]; rfl) rfl fun _ => ?_
      refine answering_check (Lane.queueFull_iff _) rfl fun _ => ?_
      rw [checked_nil, Lane.reprint_eq hsome]
      rfl
  · rw [exec_slip hs, doSlip]
    exact answering_check_fails ((slip_check lines).mpr hbad)
  · rw [exec_slip hs, doSlip]
    have hpass : (lines.length < 1 || 40 < lines.length || !lines.all lineOk) = false := by
      rw [← Bool.not_eq_true, slip_check]
      rintro (hshort | hlong | hbad)
      · omega
      · omega
      · exact hbad hlegal
    rw [checked_passes hpass]
    refine answering_check (by simp [Option.isSome_iff_ne_none]) rfl fun _ => ?_
    refine answering_check (Lane.queueFull_iff _) rfl fun _ => ?_
    rfl
  · rw [exec_headerSet hs, doHeaderSet]
    exact answering_check_fails (by simp [Till.manager, hkey])
  · rw [exec_headerSet hs, doHeaderSet, checked_passes (by simp [Till.manager, hkey])]
    exact answering_check_fails ((headerSet_check lines exponent).mpr hbad)
  · have hpass : (4 < lines.length || !lines.all lineOk || 3 < exponent) = false := by
      rw [← Bool.not_eq_true, headerSet_check]
      rintro (hmany | hbad | hlarge)
      · omega
      · exact hbad hlegal
      · omega
    rw [exec_headerSet hs, doHeaderSet, checked_passes (by simp [Till.manager, hkey]), checked_passes hpass, checked_nil]
    refine (answering_changed rfl _).trans ?_
    rw [headerFields_eq]
    rfl

end Sys2Proof.Machine
end

section
/-! PROOFS. The reports (R57, R77, R147, R162, R178, R190). -/

namespace Sys2Proof.Machine

theorem exec_status {s : State} (h : s.takes) (tag : Byte) :
    exec (.status tag) s = s.answering (doStatus (s.toLane.begun 0x70#8 tag)) :=
  request_answering (f := ⟨0x70#8, tag, []⟩) h rfl doStatus

theorem exec_weightRead {s : State} (h : s.takes) (tag : Byte) :
    exec (.weightRead tag) s = s.answering (doWeightRead (s.toLane.begun 0x25#8 tag)) :=
  request_answering (f := ⟨0x25#8, tag, []⟩) h rfl doWeightRead

theorem exec_identify {s : State} (h : s.takes) (tag : Byte) :
    exec (.identify tag) s = s.answering (doIdentify (s.toLane.begun 0x36#8 tag)) :=
  request_answering (f := ⟨0x36#8, tag, []⟩) h rfl doIdentify

theorem exec_drawerStatus {s : State} (h : s.takes) (tag : Byte) :
    exec (.drawerStatus tag) s = s.answering (doDrawerStatus (s.toLane.begun 0x57#8 tag)) :=
  request_answering (f := ⟨0x57#8, tag, []⟩) h rfl doDrawerStatus

theorem exec_headerRead {s : State} (h : s.takes) (tag : Byte) :
    exec (.headerRead tag) s = s.answering (doHeaderRead (s.toLane.begun 0x63#8 tag)) :=
  request_answering (f := ⟨0x63#8, tag, []⟩) h rfl doHeaderRead

theorem exec_printStatus {s : State} (h : s.takes) (tag : Byte) :
    exec (.printStatus tag) s = s.answering (doPrintStatus (s.toLane.begun 0x6B#8 tag)) :=
  request_answering (f := ⟨0x6B#8, tag, []⟩) h rfl doPrintStatus

theorem optional_match {α : Type} (f : α → List Field) (x : Option α) :
    (match x with | none => [Field.absent] | some a => .present :: f a) = optional f x := by
  rcases x <;> rfl

/-- A report answered from the state as it stands. -/
theorem answering_report {s : State} {code tag : Byte} {fields report : List Field} (h : .status .ok :: fields = report) :
    s.answering (s.toLane.begun code tag, ok fields) = s.says code tag report := by
  rw [answering_same, ← h]
  rfl

/-- The latched flags, the clock and the queues do not change as a request is taken. -/
theorem Lane.statusReport_begun (code tag : Byte) (p : Lane) : (p.begun code tag).statusReport = p.statusReport := rfl

theorem Lane.tillReport_begun (code tag : Byte) (p : Lane) : (p.begun code tag).tillReport = p.tillReport := rfl

theorem recordValid_code (s : Store) :
    (if s.recordValid then 0 else 1) = match s.calRecord with | .valid _ => 0 | _ => 1 := by
  rw [Store.recordValid]
  rcases s.calRecord <;> rfl

theorem recordTime_eq (s : Store) : s.recordTime = match s.calRecord with | .valid r => r.commitTime | _ => none := by
  rw [Store.recordTime]
  rcases s.calRecord <;> rfl

/-- A drawer's part of DRAWER_STATUS (R129, R147). -/
theorem Lane.drawerFields_eq (d : Drawer) (p : Lane) :
    p.drawerFields d =
      [.name (p.drawer d).state.code, .name (trayCode (p.drawer d).tray), .name (closedCode (p.drawer d).closed),
        .u8 (if (p.drawer d).grant = true then 1 else 0)] ++
        optional (fun k => [.name (KickBasis.code (Kick.basis k)), .name (Requester.code (Kick.requester k)),
          .u16 (Kick.pulseMs k)]) (p.drawer d).kick ++
        optional (fun f => [.name (DrawerFault.code f)]) (p.drawer d).faultReason ++
        optional (fun x => [.u16 (DriveReport.pulseMs x), .u8 (DriveReport.drivenMs x),
          .name (DriveCurrent.code (DriveReport.current x))]) (p.drawer d).drive ++
        optional (fun t => [.u32 ((p.now - t) / 1000000)]) (p.drawer d).openSince ++
        [.flag (p.link.latched (.presence d)), .flag (p.link.latched (.forced d)), .flag (p.link.latched (.alarm d))] := rfl

/-- The head job has started: it stands in the queue and is no longer QUEUED. -/
def Printer.started (e : Printer) : Bool :=
  match e.queue with
  | [] => false
  | j :: _ => decide (j.state ≠ .queued)

theorem Printer.headPlace_eq (e : Printer) : e.headPlace = if e.started = true then some e else none := by
  rw [Printer.headPlace, Printer.started]
  rcases e.queue with _ | ⟨j, rest⟩
  · rfl
  · by_cases hqueued : j.state = .queued
    · simp [hqueued]
    · simp [hqueued]

/-- A figure of the head job's place, absent before it has started (R178). -/
def Printer.placed (e : Printer) (f : List Field) : List Field :=
  if e.started = true then .present :: f else [.absent]

theorem optional_headPlace (e : Printer) (f : Printer → List Field) : optional f e.headPlace = e.placed (f e) := by
  rw [Printer.headPlace_eq, Printer.placed]
  split_ifs
  · rfl
  · rfl

theorem optional_rowCount (e : Printer) :
    optional (fun n => [.u8 n]) (e.headPlace.bind Printer.rowCount) =
      match e.phase with
      | .line => e.placed [.u8 e.row]
      | .tail => e.placed [.u8 e.tailRows]
      | .cut => [.absent] := by
  rw [Printer.headPlace_eq]
  by_cases hstarted : e.started = true
  · rw [if_pos hstarted, Option.bind_some, Printer.rowCount]
    simp only [Printer.placed, if_pos hstarted]
    rcases e.phase <;> rfl
  · rw [if_neg hstarted, Option.bind_none]
    simp only [Printer.placed, if_neg hstarted]
    rcases e.phase <;> rfl

/-- A job in PRINT_STATUS (R178). -/
theorem Job.statusFields_eq (j : Job) :
    j.statusFields =
      [.name j.kind.code] ++ optional (fun i => [.u8 (Fin.val i)]) j.context ++ optional (fun n => [.u16 n]) j.txn ++
        [.name j.state.code] ++ (match j.state with | .paused r => [.present, .name r.code] | _ => [.absent]) := by
  rw [Job.statusFields, Job.fields]
  rcases j with ⟨kind, ctx, txn, _ | _ | r | _⟩ <;> rfl

/-- Settles O53: each report, field by field. -/
theorem reportsChangeNothing : Obligations.ReportsChangeNothing := by
  refine ⟨fun tag s hs => ?_, fun tag s hs => ?_⟩
  · rw [exec_status hs, doStatus, Lane.statusReport_begun]
    refine answering_report ?_
    rw [Lane.statusReport, Swipe.fields]
    rcases s.toLane.current with _ | i
    · simp only [List.append_assoc, List.cons_append, List.nil_append, optional]
      rfl
    · simp only [List.append_assoc, List.cons_append, List.nil_append, optional]
      rfl
  · intro opt
    have hopt : ∀ {α : Type} (x : Option α) (f : α → List Field), opt x f = optional f x :=
      fun x f => optional_match f x
    refine ⟨?_, ?_, ?_, ?_, ?_⟩
    · intro w shown
      have hshown : s.scale.displayed = shown := Scale.displayed_eq s.scale
      have hreport : (s.toLane.begun 0x25#8 tag).weightReport = s.toLane.weightReport := rfl
      rw [exec_weightRead hs, doWeightRead, hreport]
      refine answering_report ?_
      rw [Lane.weightReport, hshown, hopt, hopt, hopt, hopt]
      simp only [List.append_assoc, List.cons_append, List.nil_append, Conditions.fields]
      rfl
    · rw [exec_identify hs, doIdentify]
      refine answering_report ?_
      have hreport : (s.toLane.begun 0x36#8 tag).identification = s.toLane.identification := rfl
      rw [hreport, Lane.identification]
      rw [recordValid_code, recordTime_eq, hopt]
      rfl
    · intro drawer t
      have hdrawer : ∀ d, s.toLane.drawerFields d = drawer d := by
        intro d
        rw [Lane.drawerFields_eq]
        simp only [drawer, hopt]
      rw [exec_drawerStatus hs, doDrawerStatus, Lane.tillReport_begun]
      refine answering_report ?_
      rw [Lane.tillReport, hdrawer, hdrawer, hopt, hopt]
      simp only [List.append_assoc, List.cons_append, List.nil_append, driverFields]
      rfl
    · rw [exec_headerRead hs, doHeaderRead]
      refine answering_report ?_
      rw [headerFields_eq]
      rfl
    · intro e started at_
      have hreport : (s.toLane.begun 0x6B#8 tag).printReport = s.toLane.printReport := rfl
      rw [exec_printStatus hs, doPrintStatus, hreport]
      refine answering_report ?_
      have hjobs : e.queue.flatMap Job.statusFields = e.queue.flatMap (fun j =>
          [.name j.kind.code] ++ opt j.context (fun i => [.u8 i.val]) ++ opt j.txn (fun n => [.u16 n]) ++
            [.name j.state.code] ++ (match j.state with | .paused r => [.present, .name r.code] | _ => [.absent])) :=
        List.flatMap_congr fun j _ => by
          rw [hopt, hopt]
          exact Job.statusFields_eq j
      have hat : ∀ f, e.placed f = at_ f := fun _ => rfl
      have he : s.toLane.printer = e := rfl
      rw [Lane.printReport, he]
      rw [optional_headPlace, optional_headPlace, optional_rowCount, listed, hjobs, hat, hat, hopt, hopt, hopt]
      simp only [List.append_assoc, List.cons_append, List.nil_append]
      rfl

end Sys2Proof.Machine
end

section
/-! PROOFS. A frame's bytes on the line (R181, R182). -/

namespace Sys2Proof.Machine

/-! ## The layout of a frame -/

/-- What a frame's CRC is over. -/
def frameBody (f : Frame) : Text :=
  BitVec.ofNat 8 (f.payload.length / 256) :: BitVec.ofNat 8 f.payload.length :: f.code :: f.tag :: f.payload

theorem frameBytes_eq (f : Frame) :
    frameBytes f =
      0x5A#8 :: frameBody f ++ [(crc16 (frameBody f)).extractLsb' 8 8, (crc16 (frameBody f)).extractLsb' 0 8] := by
  rw [← put16_crc]
  rfl

theorem length_frameBytes (f : Frame) : (frameBytes f).length = 7 + f.payload.length := by
  rw [frameBytes_eq]
  simp only [frameBody, List.length_append, List.length_cons, List.length_nil]
  omega

/-- The low byte of a number is that of its remainder. -/
theorem ofNat_low_byte (n : Nat) : BitVec.ofNat 8 n = BitVec.ofNat 8 (n % 256) := by
  apply BitVec.eq_of_toNat_eq
  simp

/-- The two length bytes of a frame. -/
theorem frame_length_bytes {n : Nat} (h : n ≤ 1400) :
    256 * (BitVec.ofNat 8 (n / 256)).toNat + (BitVec.ofNat 8 n).toNat = n := by
  rw [BitVec.toNat_ofNat, BitVec.toNat_ofNat]
  omega

theorem payloadLength_frameBytes {f : Frame} (h : f.payload.length ≤ 1400) :
    payloadLength (frameBytes f) = f.payload.length := by
  rw [frameBytes_eq]
  exact (payloadLength_cons _ _ _ _).trans (frame_length_bytes h)

/-- Past the length bytes the payload length of a buffer is that of every longer one. -/
theorem payloadLength_append {bytes : List Byte} (h : 3 ≤ bytes.length) (rest : List Byte) :
    payloadLength (bytes ++ rest) = payloadLength bytes := by
  rw [payloadLength, payloadLength, List.getD_append _ _ _ _ (by omega), List.getD_append _ _ _ _ (by omega)]

/-! ## A whole buffer -/

/-- A buffer's frame and its CRC. -/
theorem bufferFrame_cons (start high low code tag : Byte) (rest : Text) :
    bufferFrame (start :: high :: low :: code :: tag :: rest) =
      ⟨code, tag, rest.take (256 * high.toNat + low.toNat)⟩ := by
  rw [bufferFrame, payloadLength_cons]
  rfl

theorem crcAgrees_cons (start high low code tag : Byte) (rest : Text) :
    crcAgrees (start :: high :: low :: code :: tag :: rest) = true ↔
      rest.drop (256 * high.toNat + low.toNat) =
        [(crc16 (high :: low :: code :: tag :: rest.take (256 * high.toNat + low.toNat))).extractLsb' 8 8,
          (crc16 (high :: low :: code :: tag :: rest.take (256 * high.toNat + low.toNat))).extractLsb' 0 8] := by
  have htake : ∀ n, (high :: low :: code :: tag :: rest).take (4 + n) = high :: low :: code :: tag :: rest.take n := by
    intro n
    rw [Nat.add_comm]
    rfl
  have hdrop : ∀ n, (start :: high :: low :: code :: tag :: rest).drop (5 + n) = rest.drop n := by
    intro n
    rw [Nat.add_comm]
    rfl
  rw [crcAgrees, crcSpan, payloadLength_cons, List.drop_succ_cons, List.drop_zero, htake, hdrop, beq_iff_eq, put16_crc]
  exact eq_comm

/-- A frame's bytes hold the frame, and their CRC agrees. -/
theorem bufferFrame_frameBytes {f : Frame} (h : f.payload.length ≤ 1400) :
    bufferFrame (frameBytes f) = f ∧ crcAgrees (frameBytes f) = true := by
  have hn := frame_length_bytes h
  rw [frameBytes_eq, frameBody]
  refine ⟨?_, ?_⟩
  · refine (bufferFrame_cons _ _ _ _ _ _).trans ?_
    rw [hn, List.append_eq, List.take_left]
  · refine (crcAgrees_cons _ _ _ _ _ _).mpr ?_
    rw [hn, List.append_eq, List.drop_left, List.take_left]

/-! ## The bytes one by one -/

/-- A single byte and what follows it. -/
theorem State.receives_cons {b : Byte} {s t : State} (h : exec (.byteReceived b) s = .next t) (rest : List Byte) :
    s.receives (b :: rest) = t.receives rest := by
  rw [State.receives, h]

theorem State.receives_last (b : Byte) (s : State) : s.receives [b] = exec (.byteReceived b) s := by
  rw [State.receives]
  rcases exec (.byteReceived b) s <;> rfl

/-- The state with the receiver changed. -/
def State.withReceiver (r : Receiver) (s : State) : State :=
  { s with link := { s.link with receiver := r } }

theorem exec_byte_collect (b : Byte) (buffer : List Byte) (s : State) :
    exec (.byteReceived b) (s.withReceiver (.collect buffer)) =
      (s.withReceiver (.collect buffer)).advance (Lane.collectByte (buffer ++ [b])) :=
  exec_byteReceived_eq b (s.withReceiver (.collect buffer))

/-- A byte that does not complete its frame is kept. -/
theorem exec_byte_kept {b b' : Byte} {buffer rest : List Byte} {f : Frame} (hlen : f.payload.length ≤ 1400)
    (h : buffer ++ b :: b' :: rest = frameBytes f) (s : State) :
    exec (.byteReceived b) (s.withReceiver (.collect buffer)) =
      .next (s.withReceiver (.collect (buffer ++ [b]))) := by
  have hsplit : (buffer ++ [b]) ++ b' :: rest = frameBytes f := by rw [← h, List.append_assoc]; rfl
  have hshort : (buffer ++ [b]).length < 7 + f.payload.length := by
    rw [← length_frameBytes, ← hsplit, List.length_append (as := buffer ++ [b]), List.length_cons]
    omega
  have hlength : 3 ≤ (buffer ++ [b]).length → payloadLength (buffer ++ [b]) = f.payload.length := by
    intro h3
    rw [← payloadLength_append h3 (b' :: rest), hsplit, payloadLength_frameBytes hlen]
  have hfits : ¬((buffer ++ [b]).length = 3 ∧ 1400 < payloadLength (buffer ++ [b])) := by
    rintro ⟨h3, hbig⟩
    rw [hlength h3.ge] at hbig
    omega
  have hmore : ¬(3 ≤ (buffer ++ [b]).length ∧ (buffer ++ [b]).length = 7 + payloadLength (buffer ++ [b])) := by
    rintro ⟨h3, hdone⟩
    rw [hlength h3] at hdone
    omega
  rw [exec_byte_collect, advance_collectByte, if_neg hfits, if_neg hmore]
  rfl

/-- The last byte of a frame, with no request in progress, has its request taken. -/
theorem exec_byte_last {b : Byte} {buffer : List Byte} {f : Frame} {s : State} (hlen : f.payload.length ≤ 1400)
    (h : buffer ++ [b] = frameBytes f) (hfree : s.link.inProgress = none) :
    exec (.byteReceived b) (s.withReceiver (.collect buffer)) = (s.withReceiver .hunt).carries f := by
  obtain ⟨hframe, hcrc⟩ := bufferFrame_frameBytes hlen
  have hfits : ¬((frameBytes f).length = 3 ∧ 1400 < payloadLength (frameBytes f)) := by
    rw [payloadLength_frameBytes hlen]
    omega
  have hdone : 3 ≤ (frameBytes f).length ∧ (frameBytes f).length = 7 + payloadLength (frameBytes f) := by
    rw [payloadLength_frameBytes hlen, length_frameBytes]
    omega
  have hno : ¬(s.withReceiver (.collect buffer)).link.inProgress.isSome = true := by
    simp [State.withReceiver, hfree]
  rw [exec_byte_collect, h, advance_collectByte, if_neg hfits, if_pos hdone, hcrc, if_neg Bool.noConfusion, if_neg hno,
    hframe]
  rfl

/-- The rest of a frame's bytes, received in COLLECT. -/
theorem State.receives_rest {f : Frame} {s : State} (hlen : f.payload.length ≤ 1400) (hfree : s.link.inProgress = none)
    (b : Byte) (rest buffer : List Byte) (h : buffer ++ b :: rest = frameBytes f) :
    (s.withReceiver (.collect buffer)).receives (b :: rest) = (s.withReceiver .hunt).carries f := by
  induction rest generalizing b buffer with
  | nil => rw [State.receives_last, exec_byte_last hlen h hfree]
  | cons b' rest ih =>
    rw [State.receives_cons (exec_byte_kept hlen h s)]
    exact ih b' (buffer ++ [b]) (by rw [← h, List.append_assoc]; rfl)

/-- Settles O7: the bytes one by one, and the layout and the CRC they are read by. -/
theorem bytesOfAFrameMakeItsRequest : Obligations.BytesOfAFrameMakeItsRequest := by
  refine ⟨fun f s hlen hhunt hfree => ?_, fun f hlen => ?_, ⟨rfl, crc16_append⟩, by decide +kernel, payloadLength_cons,
    fun start high low code tag rest => ⟨bufferFrame_cons _ _ _ _ _ _, crcAgrees_cons _ _ _ _ _ _⟩⟩
  · have hsame : s.withReceiver .hunt = s := by
      rw [State.withReceiver, ← hhunt]
    have hstart : exec (.byteReceived 0x5A#8) s = .next (s.withReceiver (.collect [0x5A#8])) := by
      rw [exec_byteReceived_eq, hhunt]
      rfl
    have hbytes : frameBytes f = 0x5A#8 :: BitVec.ofNat 8 (f.payload.length / 256) ::
        (frameBytes f).drop 2 := by
      rw [frameBytes_eq]
      rfl
    rw [hbytes, State.receives_cons hstart,
      State.receives_rest hlen hfree _ _ [0x5A#8] hbytes.symm, hsame]
    rfl
  · intro body
    have hbody : frameBody f = body := by
      rw [frameBody, ofNat_low_byte f.payload.length]
    rw [frameBytes_eq, hbody]

end Sys2Proof.Machine
end

section
/-! PROOFS. A refused request answers and does nothing else (R182, R185). -/

namespace Sys2Proof.Machine

/-! ## What a request's body answers -/

/-- What a body gives to the part p: p as it was, or a done request's answer. -/
def Lane.Answered (p : Lane) (r : Lane × Answer) : Prop :=
  r.1 = p ∨ r.2.status = .ok ∨ r.2.status = .accepted

namespace Lane.Answered

variable {p q : Lane}

theorem unchanged {a : Answer} : p.Answered (p, a) := .inl rfl

theorem ok {fields : List Field} : p.Answered (q, ok fields) := .inr (.inl rfl)

theorem accepted {fields : List Field} : p.Answered (q, accepted fields) := .inr (.inr rfl)

/-- The checks leave the part as it was. -/
theorem checked_of {l : List (Bool × Answer)} {act : Lane → Lane × Answer}
    (h : (∀ x ∈ l, x.1 = false) → p.Answered (act p)) : p.Answered (checked l act p) := by
  obtain ⟨a, -, hc⟩ | ⟨hnone, hc⟩ := checked_cases l act p
  · rw [hc]
    exact unchanged
  · rw [hc]
    exact h (firstFailing_eq_none.mp hnone)

theorem checked {l : List (Bool × Answer)} {act : Lane → Lane × Answer} (h : p.Answered (act p)) :
    p.Answered (checked l act p) :=
  checked_of fun _ => h

/-- Fields added to an answer leave its status. -/
theorem congr_status {r r' : Lane × Answer} (h : p.Answered r) (hp : r'.1 = r.1) (hs : r'.2.status = r.2.status) :
    p.Answered r' := by
  rwa [Lane.Answered, hp, hs]

theorem withItemReply {body : Lane → Lane × Answer} (h : p.Answered (body p)) : p.Answered (withItemReply body p) := by
  refine h.congr_status rfl ?_
  simp only [Machine.withItemReply, Answer.withSubtotal]
  split <;> rfl

theorem withTenderReply {body : Lane → Lane × Answer} (h : p.Answered (body p)) :
    p.Answered (withTenderReply body p) := by
  have hstatus : ∀ (c : Context) (a : Answer), (a.withTenderTotals c).status = a.status := by
    intro c a
    simp only [Answer.withTenderTotals]
    split <;> rfl
  unfold Machine.withTenderReply
  dsimp only
  split
  · exact h.congr_status rfl (hstatus _ _)
  · exact h.congr_status rfl (hstatus _ _)

/-! ## The actions that look something up first -/

theorem appendItem (f : List ItemRecord → List ItemRecord) (r : ItemRecord) : p.Answered (p.appendItem f r) := by
  unfold Lane.appendItem
  split
  · exact unchanged
  · exact ok

theorem voidItem (number : Nat) : p.Answered (p.voidItem number) := by
  refine checked ?_
  split
  · exact unchanged
  · exact checked (appendItem _ _)

theorem total : p.Answered p.total := by
  refine checked (checked ?_)
  unfold Lane.totalSale
  split
  · exact unchanged
  · dsimp only
    split
    · exact ok
    · exact ok

theorem backToItems : p.Answered p.backToItems := by
  unfold Lane.backToItems
  split
  · exact unchanged
  · exact ok

theorem cancelSale : p.Answered p.cancelSale := by
  unfold Lane.cancelSale
  split
  · exact unchanged
  · exact ok

theorem suspendSale : p.Answered p.suspendSale := by
  unfold Lane.suspendSale
  split
  · exact unchanged
  · exact ok

theorem resumeSale : p.Answered p.resumeSale := by
  unfold Lane.resumeSale
  split
  · exact unchanged
  · exact ok

theorem startCapture (description : Text) (unitPrice : Int) : p.Answered (p.startCapture description unitPrice) := by
  unfold Lane.startCapture
  split
  · exact unchanged
  · exact accepted

theorem calExit : p.Answered (doCalExit p) := by
  unfold doCalExit
  split
  · exact unchanged
  · exact ok
  · exact accepted
  · exact unchanged

theorem writeRange (index : Nat) (e : RangeEntry) : p.Answered (p.writeRange index e) := by
  unfold Lane.writeRange
  split
  · exact ok
  · exact unchanged

theorem fetchCard (h : Nat) : p.Answered (p.fetchCard h) := by
  unfold Lane.fetchCard
  split
  · exact unchanged
  · exact ok

theorem declineCard (h : Nat) : p.Answered (p.declineCard h) := by
  unfold Lane.declineCard
  split
  · exact unchanged
  · exact ok

/-- With a sale open a tender is taken. -/
theorem takeTender (h : q.current ≠ none) (t : Tender) (by_ : SettledBy) (stay : Lane → Lane) :
    p.Answered (q.takeTender t by_ stay) := by
  obtain ⟨i, hi⟩ := Option.ne_none_iff_exists'.mp h
  simp only [Lane.takeTender, hi]
  exact ok

/-- The checks of a tender ask for an open sale. -/
theorem current_of_tenderChecks (h : ∀ x ∈ p.tenderChecks, x.1 = false) : p.current ≠ none := by
  intro hc
  have hno := h _ (List.mem_cons_self ..)
  exact Bool.false_ne_true (hno.symm.trans ((Lane.noSaleOpen_iff p).mpr hc))

theorem cashTender (amount : Int) : p.Answered (p.cashTender amount) :=
  checked_of fun h => checked (takeTender (current_of_tenderChecks h) _ _ _)

theorem tenderEntry (h : p.current ≠ none) (e : CardEntry) (amount cashback : Int) (approval : Text) :
    p.Answered (p.tenderEntry e amount cashback approval) :=
  checked (checked (checked (takeTender (q := p.removeCard e.handle) h _ _ _)))

theorem cardTender (handle : Nat) (amount cashback : Int) (approval : Text) :
    p.Answered (p.cardTender handle amount cashback approval) := by
  refine checked_of fun h => checked ?_
  split
  · exact unchanged
  · exact tenderEntry (current_of_tenderChecks h) _ _ _ _

theorem resumePrint : p.Answered p.resumePrint := by
  unfold Lane.resumePrint
  split
  · exact unchanged
  · exact ok

theorem abortSlip : p.Answered p.abortSlip := by
  unfold Lane.abortSlip
  split
  · exact unchanged
  · exact ok

theorem reprint : p.Answered p.reprint := by
  unfold Lane.reprint
  split
  · exact unchanged
  · exact accepted

/-! ## The requests that read a name first -/

theorem readerEnable (head setting : Byte) : p.Answered (doReaderEnable head setting p) := by
  unfold doReaderEnable
  split
  · exact ok
  · exact unchanged

theorem scaleFeed (setting : Byte) : p.Answered (doScaleFeed setting p) := by
  unfold doScaleFeed
  split
  · exact unchanged
  · exact ok

theorem rangeWrite (index : Nat) (entry : RangeFields) : p.Answered (doRangeWrite index entry p) := by
  unfold doRangeWrite
  split
  · exact unchanged
  · exact checked (writeRange _ _)

theorem rangeRead (index : Nat) : p.Answered (doRangeRead index p) := by
  unfold doRangeRead
  split
  · exact ok
  · exact unchanged

theorem light (mode : Byte) : p.Answered (doLight mode p) := by
  unfold doLight
  split
  · exact unchanged
  · exact ok

theorem drawerOpen (drawer : Byte) : p.Answered (doDrawerOpen drawer p) := by
  unfold doDrawerOpen
  split
  · exact unchanged
  · exact checked (checked (checked accepted))

theorem noSale (drawer : Byte) : p.Answered (doNoSale drawer p) := by
  unfold doNoSale
  split
  · exact unchanged
  · exact checked (checked accepted)

theorem drawerClearFault (drawer : Byte) : p.Answered (doDrawerClearFault drawer p) := by
  unfold doDrawerClearFault
  split
  · exact unchanged
  · exact checked ok

theorem drawerSelect (drawer : Byte) : p.Answered (doDrawerSelect drawer p) := by
  unfold doDrawerSelect
  split
  · exact unchanged
  · exact checked ok

theorem settleSetup (autoOpen : Byte) : p.Answered (doSettleSetup autoOpen p) := by
  unfold doSettleSetup
  split
  · exact unchanged
  · exact ok

theorem saleTenders (txn : Nat) : p.Answered (doSaleTenders txn p) := by
  unfold doSaleTenders
  split
  · exact unchanged
  · split
    · exact unchanged
    · exact ok

theorem dropSuspended : p.Answered (doDropSuspended p) := by
  unfold doDropSuspended
  split
  · exact unchanged
  · exact checked ok

theorem linkRate (rate : Byte) : p.Answered (doLinkRate rate p) := by
  unfold doLinkRate
  split
  · exact unchanged
  · exact ok

theorem doTotal : p.Answered (doTotal p) := by
  refine total.congr_status rfl ?_
  simp only [Machine.doTotal, Answer.withTotal]
  split <;> rfl

end Lane.Answered

/-! ## Every request but BEGIN -/

/-- A request served by a body that leaves the request in progress and, refused, the part. -/
def Serves (serve : Lane → Lane) : Prop :=
  ∃ body, serve = Lane.serve body ∧ ∀ p : Lane, (body p).1.link.inProgress = p.link.inProgress ∧ p.Answered (body p)

theorem serves_of_hands {body : Lane → Lane × Answer} (hk : ∀ {p : Lane}, p.link.Hands (body p).1.link)
    (ha : ∀ {p : Lane}, p.Answered (body p)) : Serves (Lane.serve body) :=
  ⟨body, rfl, fun _ => ⟨hk.inProgress, ha⟩⟩

theorem serves_of_link {body : Lane → Lane × Answer} (hk : ∀ p : Lane, (body p).1.link = p.link)
    (ha : ∀ {p : Lane}, p.Answered (body p)) : Serves (Lane.serve body) :=
  ⟨body, rfl, fun p => ⟨congrArg Link.inProgress (hk p), ha⟩⟩

/-- The requests that set something of the link itself. -/
theorem serves_of_checked {l : List (Bool × Answer)} {f : Lane → Link → Link} {fields : Lane → List Field}
    {body : Lane → Lane × Answer} (hbody : ∀ p, body p = checked l (fun p => (p.withLink (f p), ok (fields p))) p)
    (hf : ∀ p l, (f p l).inProgress = l.inProgress) : Serves (Lane.serve body) := by
  refine ⟨body, rfl, fun p => ?_⟩
  rw [hbody]
  exact ⟨checked_keeps (I := fun q => q.link.inProgress = p.link.inProgress) rfl fun _ => hf _ _, .checked .ok⟩

theorem serves_linkRate (rate : Byte) : Serves (Lane.serve (doLinkRate rate)) := by
  refine ⟨_, rfl, fun p => ⟨?_, .linkRate rate⟩⟩
  unfold doLinkRate
  split <;> rfl

theorem serveRequest_serves {c : Instr} {f : Frame} (hf : requestFrame c = some f) (hb : f.code ≠ 0x10#8) :
    Serves (serveRequest c) := by
  have hrefl : ∀ {p : Lane}, p.link.Hands p.link := .refl
  cases c with
  | beginSale =>
    obtain rfl := Option.some.inj hf
    exact absurd rfl hb
  | item => exact serves_of_link (by simp) (.withItemReply (.checked (.checked (.appendItem _ _))))
  | voidItem => exact serves_of_link (by simp) (.withItemReply (.voidItem _))
  | total => exact serves_of_hands (doTotal_hands hrefl) .doTotal
  | backToItems => exact serves_of_hands (doBackToItems_hands hrefl) (.checked .backToItems)
  | cancelSale => exact serves_of_hands (doCancelSale_hands hrefl) (.checked .cancelSale)
  | suspend => exact serves_of_hands (doSuspend_hands hrefl) (.checked .suspendSale)
  | resume => exact serves_of_link (by simp) (.checked .resumeSale)
  | dropSuspended => exact serves_of_link (by simp) .dropSuspended
  | saleItems => exact serves_of_link (by simp) (.checked .unchanged)
  | saleTenders => exact serves_of_link (by simp) (.saleTenders _)
  | tenderCash _ a => exact serves_of_hands (doTenderCash_hands hrefl a) (.withTenderReply (.cashTender _))
  | tenderCard _ n a x code =>
    exact serves_of_hands (doTenderCard_hands hrefl n a x code) (.withTenderReply (.cardTender _ _ _ _))
  | settleSetup => exact serves_of_link (by simp) (.settleSetup _)
  | zero => exact serves_of_link (by simp) (.checked (.checked .ok))
  | tare => exact serves_of_link (by simp) (.checked (.checked .ok))
  | tarePreset => exact serves_of_link (by simp) (.checked (.checked .ok))
  | tareClear => exact serves_of_link (by simp) (.checked .ok)
  | scaleSetup => exact serves_of_link (by simp) (.checked .ok)
  | scaleFeed => exact serves_of_link (by simp) (.scaleFeed _)
  | weigh => exact serves_of_link (by simp) (.checked (.startCapture _ _))
  | weighCancel => exact serves_of_hands (doWeighCancel_hands hrefl) (.checked .ok)
  | calEnter => exact serves_of_hands (doCalEnter_hands hrefl) (.checked .ok)
  | calExit => exact serves_of_hands (doCalExit_hands hrefl) .calExit
  | calZero => exact serves_of_link (by simp) (.checked (.checked .ok))
  | calSpan => exact serves_of_link (by simp) (.checked (.checked .ok))
  | calSet => exact serves_of_link (by simp) (.checked (.checked .ok))
  | calCommit => exact serves_of_link (by simp) (.checked (.checked .accepted))
  | readerEnable => exact serves_of_link (by simp) (.readerEnable _ _)
  | rangeWrite => exact serves_of_link (by simp) (.rangeWrite _ _)
  | rangeMask => exact serves_of_link (by simp) (.checked .ok)
  | rangeRead => exact serves_of_link (by simp) (.rangeRead _)
  | cardSetup => exact serves_of_link (by simp) (.checked .ok)
  | cardFetch => exact serves_of_link (by simp) (.checked (.fetchCard _))
  | cardDiscard _ n => exact serves_of_hands (doCardDiscard_hands hrefl n) (.checked .ok)
  | declineCard _ n => exact serves_of_hands (doDeclineCard_hands hrefl n) (.checked (.declineCard _))
  | drawerOpen => exact serves_of_link (by simp) (.drawerOpen _)
  | noSale => exact serves_of_link (by simp) (.noSale _)
  | drawerClearFault => exact serves_of_link (by simp) (.drawerClearFault _)
  | drawerSetup _ ms a b => exact serves_of_hands (doDrawerSetup_hands hrefl ms a b) (.checked .ok)
  | drawerSelect => exact serves_of_link (by simp) (.drawerSelect _)
  | assistClear => exact serves_of_link (by simp) .ok
  | light => exact serves_of_link (by simp) (.light _)
  | reprint => exact serves_of_hands (doReprint_hands hrefl) (.checked .reprint)
  | slip _ lines => exact serves_of_hands (doSlip_hands hrefl lines) (.checked .accepted)
  | headerSet => exact serves_of_link (by simp) (.checked .ok)
  | printResume => exact serves_of_hands (doPrintResume_hands hrefl) (.checked .resumePrint)
  | printAbort => exact serves_of_hands (doPrintAbort_hands hrefl) (.checked .abortSlip)
  | feed => exact serves_of_link (by simp) (.checked .accepted)
  | flagsClear _ set => exact serves_of_checked (fun _ => rfl) fun _ _ => rfl
  | eventMask _ set => exact serves_of_checked (fun _ => rfl) fun _ _ => rfl
  | clockSet _ y mo d h mi s => exact serves_of_checked (fun _ => rfl) fun _ _ => rfl
  | linkRate _ rate => exact serves_linkRate rate
  | saleStatus | weightRead | identify | cardList | drawerStatus | headerRead | printStatus | status | resetLane
  | unknownRequest => exact serves_of_link (fun _ => rfl) .unchanged
  | _ => cases hf

/-- Settles O4: a body that does not change the part leaves the link as the request was taken with. -/
theorem refusedRequestChangesOnlyTheLink : Obligations.RefusedRequestChangesOnlyTheLink := by
  intro c f s hf hb hs
  obtain ⟨body, hserve, hbody⟩ := serveRequest_serves hf hb
  have hexec : exec c s = s.answering (body (s.toLane.begun f.code f.tag)) := by
    rw [exec_request hf, hserve]
    exact advance_eq (Lane.arrive_takes hs f (Lane.serve body))
  obtain ⟨hticket, hanswered⟩ := hbody (s.toLane.begun f.code f.tag)
  generalize body (s.toLane.begun f.code f.tag) = r at hexec hticket hanswered
  obtain ⟨p, a⟩ := r
  refine ⟨{ s with toLane := p.respond a }, p.link, a.status,
    (match a.reason with | some r => [.reason r] | none => []) ++ a.fields, hexec, ?_, hticket, fun hok haccepted => ?_⟩
  · exact congrArg (fun q : Lane => q.link) (Lane.respond_eq hticket a)
  · obtain hp | hdone | hdone := hanswered
    · obtain rfl : p = s.toLane.begun f.code f.tag := hp
      rfl
    · exact absurd hdone hok
    · exact absurd hdone haccepted

end Sys2Proof.Machine
end

section
/-! PROOFS. Request frames read back (R184, R193, R194). -/

namespace Sys2Proof.Machine

/-! ## A reader and the bytes it reads -/

/-- The reader takes these bytes off the front of any text, as the value. -/
def ReadsBack {α : Type} (get : Text → Option (α × Text)) (bytes : Text) (a : α) : Prop :=
  ∀ rest, get (bytes ++ rest) = some (a, rest)

namespace ReadsBack

variable {α β : Type} {get : Text → Option (α × Text)} {bytes : Text} {a : α}

theorem bind (h : ReadsBack get bytes a) (rest : Text) (k : α × Text → Option β) :
    (get (bytes ++ rest) >>= k) = k (a, rest) := by
  rw [h rest]
  rfl

/-- A field of a request's payload, with others behind it. -/
theorem field (h : ReadsBack get bytes a) (rest : Text) (k : α × Text → Option (Instr × Text)) :
    readWhole (get (bytes ++ rest) >>= k) = readWhole (k (a, rest)) :=
  congrArg readWhole (h.bind rest k)

/-- The last field of a request's payload. -/
theorem last (h : ReadsBack get bytes a) (k : α × Text → Option (Instr × Text)) :
    readWhole (get bytes >>= k) = readWhole (k (a, [])) := by
  rw [← h.field [] k, List.append_nil]

end ReadsBack

/-! ## The fields (R193) -/

theorem getByte_readsBack (b : Byte) : ReadsBack getByte [b] b := fun _ => rfl

theorem get8_readsBack {n : Nat} (h : fits8 n = true) : ReadsBack get8 (put8 n) n := by
  intro rest
  have hn : n < 256 := of_decide_eq_true h
  have hbyte : (BitVec.ofNat 8 n).toNat = n := by
    rw [BitVec.toNat_ofNat]
    omega
  calc get8 (put8 n ++ rest) = some ((BitVec.ofNat 8 n).toNat, rest) := rfl
    _ = some (n, rest) := by rw [hbyte]

theorem get16_readsBack {n : Nat} (h : fits16 n = true) : ReadsBack get16 (put16 n) n := by
  intro rest
  have hn : n < 65536 := of_decide_eq_true h
  have hbytes : (BitVec.ofNat 8 (n / 256)).toNat * 256 + (BitVec.ofNat 8 n).toNat = n := by
    rw [BitVec.toNat_ofNat, BitVec.toNat_ofNat]
    omega
  calc get16 (put16 n ++ rest) = some ((BitVec.ofNat 8 (n / 256)).toNat * 256 + (BitVec.ofNat 8 n).toNat, rest) := rfl
    _ = some (n, rest) := by rw [hbytes]

/-- The four bytes of a word, put together again. -/
theorem append_bytes (w : BitVec 32) :
    w.extractLsb' 24 8 ++ w.extractLsb' 16 8 ++ w.extractLsb' 8 8 ++ w.extractLsb' 0 8 = w := by
  have hhigh : w.extractLsb' 24 8 ++ w.extractLsb' 16 8 = w.extractLsb' 16 16 :=
    BitVec.extractLsb'_append_extractLsb'_eq_extractLsb' rfl
  have hthree : w.extractLsb' 16 16 ++ w.extractLsb' 8 8 = w.extractLsb' 8 24 :=
    BitVec.extractLsb'_append_extractLsb'_eq_extractLsb' rfl
  have hall : w.extractLsb' 8 24 ++ w.extractLsb' 0 8 = w.extractLsb' 0 32 :=
    BitVec.extractLsb'_append_extractLsb'_eq_extractLsb' rfl
  rw [hhigh, hthree, hall, BitVec.extractLsb'_eq_self]

theorem get32_readsBack (w : BitVec 32) : ReadsBack get32 (put32 w) w := by
  intro rest
  calc get32 (put32 w ++ rest)
      = some (w.extractLsb' 24 8 ++ w.extractLsb' 16 8 ++ w.extractLsb' 8 8 ++ w.extractLsb' 0 8, rest) := rfl
    _ = some (w, rest) := by rw [append_bytes]

theorem getI32_readsBack {x : Int} (h : fitsI32 x = true) : ReadsBack getI32 (putI32 x) x := by
  intro rest
  obtain ⟨hlow, hhigh⟩ : -2147483648 ≤ x ∧ x ≤ 2147483647 := by
    simpa [fitsI32] using h
  have hword : (BitVec.ofInt 32 x).toInt = x := by
    rw [BitVec.toInt_ofInt]
    exact Int.bmod_eq_of_le (by omega) (by omega)
  calc getI32 (putI32 x ++ rest) = some ((BitVec.ofInt 32 x).toInt, rest) := (get32_readsBack _).bind rest _
    _ = some (x, rest) := by rw [hword]

theorem getBytes_readsBack (t : Text) : ReadsBack (getBytes t.length) t t := by
  intro rest
  induction t with
  | nil => rfl
  | cons b t ih =>
    calc getBytes (b :: t).length (b :: t ++ rest)
        = (getBytes t.length (t ++ rest) >>= fun x => some (b :: x.1, x.2)) := rfl
      _ = some (b :: t, rest) := by
        rw [ih]
        rfl

theorem getText_readsBack {t : Text} (h : fitsText t = true) : ReadsBack getText (putText t) t := by
  intro rest
  calc getText (putText t ++ rest)
      = getText (put8 t.length ++ (t ++ rest)) := by rw [putText, List.append_assoc]
    _ = getBytes t.length (t ++ rest) := (get8_readsBack h).bind _ _
    _ = some (t, rest) := getBytes_readsBack t rest

theorem getOption_readsBack {α : Type} {get : Text → Option (α × Text)} {put : α → Text} {o : Option α}
    (h : ∀ a ∈ o, ReadsBack get (put a) a) : ReadsBack (getOption get) (putOption put o) o := by
  intro rest
  cases o with
  | none => rfl
  | some a => exact (h a rfl).bind rest _

theorem getMany_readsBack {α : Type} {get : Text → Option (α × Text)} {put : α → Text} {xs : List α}
    (h : ∀ a ∈ xs, ReadsBack get (put a) a) : ReadsBack (getMany get xs.length) (xs.flatMap put) xs := by
  intro rest
  induction xs with
  | nil => rfl
  | cons a xs ih =>
    have htail := ih fun b hb => h b (List.mem_cons_of_mem _ hb)
    calc getMany get (a :: xs).length ((a :: xs).flatMap put ++ rest)
        = getMany get (xs.length + 1) (put a ++ (xs.flatMap put ++ rest)) := by
          rw [List.flatMap_cons, List.append_assoc]
          rfl
      _ = (getMany get xs.length (xs.flatMap put ++ rest) >>= fun x => some (a :: x.1, x.2)) :=
          (h a List.mem_cons_self).bind _ _
      _ = some (a :: xs, rest) := by
          rw [htail]
          rfl

theorem getList_readsBack {α : Type} {get : Text → Option (α × Text)} {put : α → Text} {xs : List α}
    (hlen : fits8 xs.length = true) (h : ∀ a ∈ xs, ReadsBack get (put a) a) :
    ReadsBack (getList get) (putList put xs) xs := by
  intro rest
  calc getList get (putList put xs ++ rest)
      = getList get (put8 xs.length ++ (xs.flatMap put ++ rest)) := by rw [putList, List.append_assoc]
    _ = getMany get xs.length (xs.flatMap put ++ rest) := (get8_readsBack hlen).bind _ _
    _ = some (xs, rest) := getMany_readsBack h rest

theorem getTexts_readsBack {lines : List Text} (hlen : fits8 lines.length = true) (h : lines.all fitsText = true) :
    ReadsBack (getList getText) (putList putText lines) lines :=
  getList_readsBack hlen fun t ht => getText_readsBack (List.all_eq_true.mp h t ht)

theorem getPositions_readsBack {m : List Nat} (h : fitsPositions m = true) :
    ReadsBack getPositions [maskOf m] m := by
  intro rest
  have hm : positionsOf (maskOf m) = m := eq_of_beq h
  calc getPositions ([maskOf m] ++ rest) = some (positionsOf (maskOf m), rest) := rfl
    _ = some (m, rest) := by rw [hm]

theorem getEntry_readsBack {e : RangeFields} (h : e.wellFormed = true) : ReadsBack getEntry (putEntry e) e := by
  intro rest
  simp only [RangeFields.wellFormed, Bool.and_eq_true, Option.all_eq_true] at h
  obtain ⟨⟨⟨⟨hdigits, hmin⟩, hmax⟩, hlimit⟩, hmask⟩ := h
  simp only [putEntry, List.append_assoc]
  exact ((getByte_readsBack _).bind _ _).trans <|
    ((getOption_readsBack fun t ht => getText_readsBack (hdigits t ht)).bind _ _).trans <|
    ((getOption_readsBack fun b _ => getByte_readsBack b).bind _ _).trans <|
    ((getOption_readsBack fun n hn => get8_readsBack (hmin n hn)).bind _ _).trans <|
    ((getOption_readsBack fun n hn => get8_readsBack (hmax n hn)).bind _ _).trans <|
    ((getByte_readsBack _).bind _ _).trans <|
    ((getI32_readsBack hlimit).bind _ _).trans <|
    (getOption_readsBack fun m hm => getPositions_readsBack (hmask m hm)).bind _ _

/-! ## The requests (R194) -/

theorem ofNat_toNat_flags (m : BitVec 16) : BitVec.ofNat 16 m.toNat = m := BitVec.ofNat_toNat 16 m ▸ BitVec.setWidth_eq m

theorem fits16_toNat (m : BitVec 16) : fits16 m.toNat = true := decide_eq_true m.isLt

/-- A code outside the catalogue is unknown. -/
theorem parseRequest_unknown {f : Frame} (h : f.code ∉ requestCodes) : parseRequest f = .unknown := by
  have hcode : ∀ n : Nat, BitVec.ofNat 8 n ∈ requestCodes → f.code.toNat ≠ n := by
    intro n hn hf
    rw [← hf, BitVec.ofNat_toNat, BitVec.setWidth_eq] at hn
    exact h hn
  unfold parseRequest
  dsimp only
  split
  case h_63 => rfl
  all_goals exact absurd ‹f.code.toNat = _› (hcode _ (by decide))

/-- A well-formed request of the catalogue, written as its frame, is read as itself. -/
theorem parseRequest_requestFrame {c : Instr} {f : Frame} (hw : c.wellFormed = true) (hf : requestFrame c = some f)
    (hknown : ∀ code tag payload, c ≠ .unknownRequest code tag payload) : parseRequest f = .request c := by
  cases c <;> simp only [requestFrame, reduceCtorEq, Option.some.injEq] at hf <;> subst hf <;>
    simp only [Instr.wellFormed, Bool.and_eq_true] at hw <;> dsimp only [parseRequest, BitVec.reduceToNat]
  case unknownRequest => exact absurd rfl (hknown _ _ _)
  case item =>
    obtain ⟨⟨hd, hq⟩, hu⟩ := hw
    rw [List.append_assoc]
    exact ((getText_readsBack hd).field _ _).trans <| ((get16_readsBack hq).field _ _).trans <|
      ((getI32_readsBack hu).last _).trans rfl
  case voidItem | rangeRead | cardSetup | cardFetch | cardDiscard | declineCard | feed =>
    exact ((get8_readsBack hw).last _).trans rfl
  case saleItems =>
    obtain ⟨hfirst, hcount⟩ := hw
    exact ((get8_readsBack hfirst).field _ _).trans <| ((get8_readsBack hcount).last _).trans rfl
  case tarePreset | saleTenders => exact ((get16_readsBack hw).last _).trans rfl
  case scaleSetup => exact ((getByte_readsBack _).field _ _).trans <| ((get8_readsBack hw).last _).trans rfl
  case weigh =>
    obtain ⟨hd, hp⟩ := hw
    exact ((getText_readsBack hd).field _ _).trans <| ((getI32_readsBack hp).last _).trans rfl
  case calSpan | tenderCash => exact ((getI32_readsBack hw).last _).trans rfl
  case calSet =>
    obtain ⟨hn, hwindow⟩ := hw
    rw [List.append_assoc]
    exact ((get8_readsBack hn).field _ _).trans <| ((get8_readsBack hwindow).field _ _).trans <|
      ((getByte_readsBack _).last _).trans rfl
  case rangeWrite =>
    obtain ⟨hn, he⟩ := hw
    exact ((get8_readsBack hn).field _ _).trans <| ((getEntry_readsBack he).last _).trans rfl
  case rangeMask => exact ((getPositions_readsBack hw).last _).trans rfl
  case tenderCard =>
    obtain ⟨⟨⟨hh, ha⟩, hc⟩, hcode⟩ := hw
    rw [List.append_assoc, List.append_assoc]
    exact ((get8_readsBack hh).field _ _).trans <| ((getI32_readsBack ha).field _ _).trans <|
      ((getI32_readsBack hc).field _ _).trans <| ((getText_readsBack hcode).last _).trans rfl
  case drawerSetup =>
    obtain ⟨hp, ha⟩ := hw
    rw [List.append_assoc]
    exact ((get16_readsBack hp).field _ _).trans <| ((get8_readsBack ha).field _ _).trans <|
      ((getByte_readsBack _).last _).trans rfl
  case slip =>
    obtain ⟨⟨hlen, hlines⟩, -⟩ := hw
    exact ((getTexts_readsBack hlen hlines).last _).trans rfl
  case headerSet =>
    obtain ⟨⟨⟨hlen, hlines⟩, hx⟩, -⟩ := hw
    exact ((getTexts_readsBack hlen hlines).field _ _).trans <| ((get8_readsBack hx).last _).trans rfl
  case flagsClear set =>
    refine ((get16_readsBack (fits16_toNat set)).last _).trans ?_
    exact congrArg (fun m => Parsed.request (.flagsClear _ m)) (ofNat_toNat_flags set)
  case clockSet =>
    obtain ⟨⟨⟨⟨⟨hy, hmo⟩, hd⟩, hh⟩, hmi⟩, hs⟩ := hw
    simp only [List.append_assoc]
    exact ((get8_readsBack hy).field _ _).trans <| ((get8_readsBack hmo).field _ _).trans <|
      ((get8_readsBack hd).field _ _).trans <| ((get8_readsBack hh).field _ _).trans <|
      ((get8_readsBack hmi).field _ _).trans <| ((get8_readsBack hs).last _).trans rfl
  case eventMask set => exact ((get32_readsBack set).last _).trans rfl
  all_goals rfl

/-- Settles O8: each field's reader takes back what its writer put, and the rest stands behind it. -/
theorem requestFramesReadBack : Obligations.RequestFramesReadBack := by
  intro c f hw hf
  split
  next code tag payload =>
    obtain rfl := Option.some.inj hf
    simp only [Instr.wellFormed, Bool.and_eq_true, Bool.not_eq_true', List.contains_eq_mem, decide_eq_false_iff_not] at hw
    exact parseRequest_unknown hw.1
  next hknown => exact parseRequest_requestFrame hw hf hknown

end Sys2Proof.Machine
end
